-- ==== Sys2Proof/Word.lean ====
section
/-! DEFINITION. The two word types the links and the counters of the Loderna 4200 are made of. -/

namespace Sys2Proof

/-- A character of a serial link: 8 data bits (R170). -/
abbrev Byte := BitVec 8

/-- A 32-bit count that wraps: the Time Base (R17), the belt position (R124), or a 32-bit value the part
gives no meaning (the web order number, R21). -/
abbrev Word32 := BitVec 32

end Sys2Proof
end

