-- ==== Sys2Proof/Syntax.lean ====
section
/-! DEFINITION. The commands the part takes: one constructor of `Instr` for each row of
spec/opcode_table.json, and the small types their operands are made of. -/

namespace Sys2Proof

/-- The four serial links, named for their masters (00_scope, External Connections). -/
inductive Port where
  | order | load | engine | pack
deriving DecidableEq, Repr

/-- The two rates a port's strap chooses between (R170). -/
inductive Rate where
  | baud115200 | baud921600
deriving DecidableEq, Repr

/-- The four rate straps as they stand at power-on (R170). -/
structure Straps where
  order : Rate
  load : Rate
  engine : Rate
  pack : Rate
deriving DecidableEq, Repr

/-- A heated zone of the tunnel, 0 at the entry and 3 at the exit (7.4). -/
abbrev ZoneNo := Fin 4

/-- A command: an event at the part's lines, or a request.
A REQUEST command names a port and is the Port Controller's taking of the oldest frame of that port's input
buffer (R172); the request's own fields are that frame's body. -/
inductive Instr where
  -- supply and time
  | powerOn (straps : Straps)
  | timeBaseTick
  -- the links: characters that arrive, and the silence that ends a frame
  | frameReceived (port : Port) (chars : List Byte)
  | intercharacterTimeout (port : Port)
  -- chapter 1
  | setPlaten (port : Port)
  | lineReset (port : Port)
  | indexRequest
  | indexDone
  | pretreatArrival
  | printArrival
  | tunnelArrival
  -- chapter 2
  | submitOrder (port : Port)
  | holdOrder (port : Port)
  | releaseOrder (port : Port)
  | cancelOrder (port : Port)
  | readOrder (port : Port)
  | defineArtwork (port : Port)
  | removeArtwork (port : Port)
  | readArtwork (port : Port)
  | artworkStaged (port : Port)
  | artworkEvicted (port : Port)
  -- chapter 3
  | load (port : Port)
  | unload (port : Port)
  | bypassPretreat (port : Port)
  | writeColourTable (port : Port)
  | writeSizeMap (port : Port)
  | writeDarkThreshold (port : Port)
  | writeScrapLimit (port : Port)
  | readLoadTables (port : Port)
  -- chapter 4
  | writeDoseTable (port : Port)
  | refill (port : Port)
  | readPretreat (port : Port)
  -- chapter 5
  | writeSpraySettings (port : Port)
  | readSprayBar (port : Port)
  | barClear (port : Port)
  | barInPosition
  | sweepEnd
  | centringEnd
  | barFault
  -- chapter 6
  | registered (port : Port)
  | registerFault (port : Port)
  | nextSwath (port : Port)
  | swathDone (port : Port)
  | carriageParked (port : Port)
  | watchdogExpiry
  | readPrint (port : Port)
  | readErrorRecord (port : Port)
  | writeEngineProfile (port : Port)
  -- chapter 7
  | writeCureProfile (port : Port)
  | beltStep
  | tunnelEntrySensor
  | zoneReading (zone : ZoneNo) (reading : BitVec 10)
  | cureTick
  | tunnelExitSensor
  | readTunnel (port : Port)
  -- chapter 8
  | matchShirt (port : Port)
  | scrap (port : Port)
  | recure (port : Port)
  | binClosed (port : Port)
  | clearShelfSlot (port : Port)
  | readPack (port : Port)
  -- chapter 9
  | quiesceStation (port : Port)
  | resumeStation (port : Port)
  -- chapter 10
  | fetchNotice (port : Port)
  | readStatus (port : Port)
  | frameErrorDiscard (port : Port) (chars : List Byte)
deriving DecidableEq, Repr

end Sys2Proof
end

