-- ==== Sys2Proof/Decode.lean ====
section
/-! DEFINITION. The decoder over the rows of spec/opcode_table.json that give bits. The table gives no row any
bits (every row's "fields" is empty and no row has "fixed"), so no word spells a command; a request's
bytes are read where its frame is assembled (Sys2Proof/Machine/Link.lean) and taken. -/

namespace Sys2Proof

/-- The command a word of the table spells: none, since the table gives no row any bits (log entry 24). -/
def decodeTableWord (_nbits _w : Nat) : Option Instr := none

end Sys2Proof
end

