-- ==== Sys2Proof/Config.lean ====
section
/-! DEFINITION. The sizes and limits the spec fixes for the part. The spec leaves no value of a result
open, so there is no free value here (INVENTORY.md, "What the manual leaves open"). -/

namespace Sys2Proof.Config

/-- Frames a port's input buffer holds (R172). -/
def inputBufferSize : Nat := 4

/-- Notice records a port's notice queue holds (R176). -/
def noticeQueueSize : Nat := 16

/-- The greatest frame error count, at which it saturates (R171). -/
def frameErrorMax : Nat := 65535

/-- The greatest body length of a frame (R171). -/
def bodyMax : Nat := 240

/-- More than this many ms between two characters of a frame end it (R171). -/
def characterGap : Nat := 20

/-- Artworks staged at once (R43). -/
def stagedMax : Nat := 16

/-- The greatest generation of a unit record (R11). -/
def unitGenerationMax : Nat := 1023

/-- The greatest generation of an order descriptor (R21). -/
def orderGenerationMax : Nat := 255

/-- The greatest value of the sequence counter (R23). -/
def sequenceMax : Nat := 4294967295

/-- The scrap count of a line saturates here (R24). -/
def scrapCountMax : Nat := 255

/-- The reservoir's capacity in mg (R73). -/
def reservoirMax : Nat := 8000000

/-- The full-duty sweeps a band is given at most (R65). -/
def sweepsMax : Nat := 3

/-- Swath orders in flight at once (R105). -/
def inFlightMax : Nat := 3

/-- Records the tunnel queue holds (R125). -/
def tunnelQueueMax : Nat := 10

/-- Entries the exit list holds (R144). -/
def exitListMax : Nat := 16

/-- Where a unit's exposure, its required exposure and its scorch limit are clamped (R129, R138). -/
def exposureMax : Nat := 65535

/-- Settled ticks that set TUNNEL READY (R140). -/
def readyTicks : Nat := 8

/-- The stale tick at which a STALE zone lapses (R137). -/
def lapseTick : Nat := 9

/-- The missed ticks at which a LIVE zone becomes STALE (R137). -/
def missedMax : Nat := 3

/-- The band count a platen carries at most, by size class: R1's three capacities. -/
def bandsYouth : Nat := 16
/-- See `bandsYouth` (R1). -/
def bandsAdult : Nat := 20
/-- See `bandsYouth` (R1). -/
def bandsOversize : Nat := 24

end Sys2Proof.Config
end

