-- ==== Sys2Proof/Machine/State.lean ====
section
/-! DEFINITION. The state of the Loderna 4200: every record, queue, counter, flag, timer and output the spec
gives the part, as plain data, and the state at power-on. Each type's docstring names the rule it holds. -/

namespace Sys2Proof.Machine

/-! ### Numbers that name records -/

/-- A platen number (R1). -/
abbrev PlatenNo := Fin 12
/-- A ring position (R1). -/
abbrev Position := Fin 12
/-- A unit record number (R11). -/
abbrev UnitNo := Fin 40
/-- An order descriptor's index (R21). -/
abbrev OrderNo := Fin 128
/-- A record of the Line Pool (R24). -/
abbrev LineNo := Fin 384
/-- An artwork number (R39). -/
abbrev ArtworkNo := Fin 64
/-- A bin number (R155). -/
abbrev BinNo := Fin 24
/-- A slot of the orphan shelf (R158). -/
abbrev SlotNo := Fin 16

/-- An order handle: a descriptor index and the generation it held when the handle was issued (2.1). -/
structure Handle where
  generation : Nat
  index : OrderNo
deriving DecidableEq, Repr

/-- A garment tag: a unit number and the generation it held when the tag was issued (1.4). -/
structure Tag where
  generation : Nat
  unit : UnitNo
deriving DecidableEq, Repr

/-- The identity of a blank (00_scope, Terms). -/
structure Sku where
  fabric : Fin 8
  colour : Fin 64
  size : Fin 8
deriving DecidableEq, Repr

/-- The four working places on the ring (00_scope, Terms). -/
inductive Station where
  | load | pretreat | print | tunnel
deriving DecidableEq, Repr

/-- The three stations that keep a hold (1.2). -/
inductive Holder where
  | pretreat | print | tunnel
deriving DecidableEq, Repr

/-- The quiesce state of a station (R163). -/
inductive Quiesce where
  | running | quiescing | quiesced
deriving DecidableEq, Repr

/-! ### Time Base (R17) -/

/-- Whichever reset was last taken (R17). -/
inductive ResetCause where
  | powerOn | lineReset
deriving DecidableEq, Repr

/-- The Time Base block (R17). -/
structure TimeBase where
  now : Word32
  lastReset : ResetCause
deriving DecidableEq, Repr

/-! ### Platen Ring (R1 to R10) -/

/-- The shape of a platen (R1). -/
inductive SizeClass where
  | youth | adult | oversize
deriving DecidableEq, Repr

/-- One platen record (R1). -/
structure Platen where
  sizeClass : SizeClass
  enabled : Bool
  unit : Option UnitNo
  position : Position
deriving DecidableEq, Repr

/-- STILL or MOVING (R6). -/
inductive RingState where
  | still | moving
deriving DecidableEq, Repr

/-- A platen-arrived event delivered and not yet taken: the platen and its unit field at delivery (R5). -/
structure Arrival where
  platen : PlatenNo
  unit : Option UnitNo
deriving DecidableEq, Repr

/-- Something held for each of the Pretreat, Print and Tunnel stations. -/
structure Holds where
  pretreat : Bool
  print : Bool
  tunnel : Bool
deriving DecidableEq, Repr

/-- The platen-arrived events delivered and not yet taken (R4, R5). -/
structure Arrivals where
  pretreat : Option Arrival
  print : Option Arrival
  tunnel : Option Arrival
deriving DecidableEq, Repr

/-- The Platen Ring block (R1, R4, R6). -/
structure Ring where
  platens : Vector Platen 12
  state : RingState
  pendingIndex : Bool
  indexGrant : Bool
  holds : Holds
  arrivals : Arrivals
deriving DecidableEq, Repr

/-! ### Unit Pool (R11 to R16) -/

/-- The seven states of a unit (R13). -/
inductive UnitState where
  | loaded | pretreating | pretreated | printing | printed | curing | exited
deriving DecidableEq, Repr

/-- The faults a unit may carry (R12). -/
inductive UnitFault where
  | noPretreat | pretreatFault | registerFault | registerTimeout | printAbort | swathTimeout
deriving DecidableEq, Repr

/-- The flags a unit may carry (R12). -/
structure UnitFlags where
  bypassed : Bool
  saturated : Bool
  unreadyEntry : Bool
  recured : Bool
deriving DecidableEq, Repr

/-- The dose record (R12, R71): sweep count and fluid total F in mg. -/
structure DoseRecord where
  sweeps : Nat
  fluid : Nat
deriving DecidableEq, Repr

/-- The print record (R12, R107): ink loads Lw and Lc, fired and dry swaths. -/
structure PrintRecord where
  white : Nat
  colour : Nat
  fired : Nat
  dry : Nat
deriving DecidableEq, Repr

/-- The cure result (R129, R130, R141). -/
inductive CureResult where
  | pending | cured | undercured | scorched | notRequired | unmeasured
deriving DecidableEq, Repr

/-- The cure record (R12, R129). Required exposure and scorch limit are absent in a unit forced onto the exit
list (R130). -/
structure CureRecord where
  required : Option Nat
  exposure : Nat
  scorch : Option Nat
  result : CureResult
deriving DecidableEq, Repr

/-- The fields of a unit record in use (R12). -/
structure Shirt where
  state : UnitState
  order : Handle
  line : Fin 8
  sku : Sku
  artwork : ArtworkNo
  darkness : Nat
  dark : Bool
  platen : Option PlatenNo
  flags : UnitFlags
  fault : Option UnitFault
  dose : Option DoseRecord
  print : Option PrintRecord
  cure : Option CureRecord
deriving DecidableEq, Repr

/-- A unit record: its generation, and its fields while in use (R11). -/
structure UnitRecord where
  generation : Nat
  shirt : Option Shirt
deriving DecidableEq, Repr

/-! ### Order Book (R21 to R38) -/

/-- The states of a descriptor that is not FREE (2.1). -/
inductive OrderState where
  | active | held | complete | cancelling
deriving DecidableEq, Repr

/-- Why a HELD order is held (R21). -/
inductive HoldReason where
  | ordered | scrapLimit
deriving DecidableEq, Repr

/-- The fields of a descriptor that is not FREE (R21). `lines` names the pool records of positions 0, 1, … -/
structure Order where
  state : OrderState
  webNumber : Word32
  sequence : Nat
  priority : Nat
  alterLevel : Nat
  holdReason : Option HoldReason
  bin : Option BinNo
  lines : List LineNo
deriving DecidableEq, Repr

/-- An order descriptor: its generation, and its fields unless FREE (R21). -/
structure Descriptor where
  generation : Nat
  order : Option Order
deriving DecidableEq, Repr

/-- A line record in use (R24). -/
structure Line where
  order : OrderNo
  position : Fin 8
  artwork : ArtworkNo
  sku : Sku
  quantity : Nat
  good : Nat
  inFlight : Nat
  scrap : Nat
deriving DecidableEq, Repr

/-- The Order Book block: Order Table, Line Pool, Active Order List, sequence counter (R21, R24, R29, R23). -/
structure OrderBook where
  orders : Vector Descriptor 128
  lines : Vector (Option Line) 384
  active : List OrderNo
  sequence : Nat
deriving DecidableEq, Repr

/-! ### Artwork Table (R39) -/

/-- One entry of a coverage list, in steps of 1/255 (R39). -/
structure Coverage where
  white : Nat
  colour : Nat
deriving DecidableEq, Repr

/-- The design of a DEFINED descriptor (R39). The band count is the coverage list's length. -/
structure Design where
  zoneMask : BitVec 8
  whitePasses : Nat
  colourPasses : Nat
  coverage : List Coverage
deriving DecidableEq, Repr

/-- An artwork descriptor; EMPTY when it holds no design (R39). -/
structure Artwork where
  design : Option Design
  refs : Nat
  staged : Bool
deriving DecidableEq, Repr

/-! ### Load station (R46 to R50) -/

/-- The Load station's quiesce state and the four tables its gate covers (R46 to R50). -/
structure LoadStation where
  colours : Vector Nat 64
  sizeMap : Vector SizeClass 8
  darkThreshold : Nat
  scrapLimit : Nat
  quiesce : Quiesce
deriving DecidableEq, Repr

/-! ### Pretreat station (R61 to R78) -/

/-- The states of the Pretreat station (R68). -/
inductive PretreatState where
  | idle | quiesceWait | barFault | lowFluid | spraying
deriving DecidableEq, Repr

/-- One band of a spray plan: sweep count, valve duty, delivered dose, fluid (4.3). -/
structure BandPlan where
  sweeps : Nat
  duty : Nat
  delivered : Nat
  fluid : Nat
deriving DecidableEq, Repr

/-- A spray plan (4.3). Its fluid total and sweep count are sums over its bands (R67). -/
structure SprayPlan where
  tag : Tag
  zoneMask : BitVec 8
  saturated : Bool
  bands : List BandPlan
deriving DecidableEq, Repr

/-- The Pretreat station and the reservoir level it keeps (R61, R68, R73). -/
structure Pretreat where
  doses : Vector Nat 8
  reservoir : Nat
  state : PretreatState
  plan : Option SprayPlan
  quiesce : Quiesce
deriving DecidableEq, Repr

/-! ### Spray Bar Sequencer (R79 to R92) -/

/-- The five spray settings (R81). -/
structure SpraySettings where
  sweepTime : Nat
  amplitude : Nat
  halfPeriod : Nat
  passCapacity : Nat
  minDose : Nat
deriving DecidableEq, Repr

/-- The bar state (5.2). -/
inductive BarState where
  | parked | moving | sweeping | centring | faulted
deriving DecidableEq, Repr

/-- The target of a position command (R79). -/
inductive Target where
  | home
  | band (b : Nat)
deriving DecidableEq, Repr

/-- The direction of a sweep or a swath (R79, 6). -/
inductive Direction where
  | forward | reverse
deriving DecidableEq, Repr

/-- What the dither drive carries while it runs (R79). -/
structure DitherDrive where
  amplitude : Nat
  halfPeriod : Nat
deriving DecidableEq, Repr

/-- The spray settings, the bar record of R80 and the outputs of R79.
`target` is the position command in progress. `ditherOffAt` and `stopAt` are the ms into the sweep at which a
dither-off write (R83) or line reset's stop (R90) was taken: R83 and R90 end the sweep or the centring by them. -/
structure Bar where
  settings : SpraySettings
  state : BarState
  target : Option Target
  plan : Option SprayPlan
  planWaiting : Bool
  band : Option Nat
  sweepsDone : Nat
  nextDirection : Direction
  sweepStart : Word32
  sweepTime : Nat
  sweepHalf : Nat
  dithering : Bool
  clearPending : Bool
  ditherOffAt : Option Nat
  stopAt : Option Nat
  valves : Vector Nat 8
  traverse : Option Direction
  dither : Option DitherDrive
deriving DecidableEq, Repr

/-! ### Print station (R95 to R121) -/

/-- The states of the Print station (R96). -/
inductive PrintState where
  | idle | quiesceWait | waitArtwork | registering | passing | aborting | parking
deriving DecidableEq, Repr

/-- A layer of a print (6.4). -/
inductive Layer where
  | white | colour
deriving DecidableEq, Repr

/-- The traverse the plan cursor rests on: layer, pair, repeat and half (R103). -/
structure Traverse where
  layer : Layer
  pair : Nat
  rep : Nat
  half : Nat
deriving DecidableEq, Repr

/-- The plan cursor when present: a traverse, or END (R103). -/
inductive Cursor where
  | at (t : Traverse)
  | finished
deriving DecidableEq, Repr

/-- A swath order (6, R105). `fire` is FIRE, its negation DRY. -/
structure SwathOrder where
  number : Nat
  tag : Tag
  band : Nat
  layer : Layer
  direction : Direction
  fire : Bool
  rep : Nat
deriving DecidableEq, Repr

/-- The running swath watchdog: start time and limit (R112). -/
structure Watchdog where
  start : Word32
  limit : Nat
deriving DecidableEq, Repr

/-- The cause of a print fault (R115). -/
inductive PrintCause where
  | registerFault | registerTimeout | nozzle | strike | swathTimeout
deriving DecidableEq, Repr

/-- Where a swath failed: band, layer and swath number; absent for the registration causes (R115). -/
structure SwathPlace where
  band : Nat
  layer : Layer
  number : Nat
deriving DecidableEq, Repr

/-- The fault the print error record holds (R115). -/
structure PrintFault where
  cause : PrintCause
  tag : Tag
  place : Option SwathPlace
  stamp : Word32
deriving DecidableEq, Repr

/-- The Print station's record (R95), the print error record (R115) and the engine profile (R117). -/
structure Print where
  state : PrintState
  held : Option Tag
  stageAsked : Bool
  cursor : Option Cursor
  inFlight : List SwathOrder
  nextNumber : Nat
  watchdog : Option Watchdog
  terminated : List Nat
  lateTag : Option Tag
  quiesce : Quiesce
  errorRecord : Option PrintFault
  errorCount : Nat
  watchdogLimit : Nat
deriving DecidableEq, Repr

/-! ### Cure Tunnel (R122 to R143) -/

/-- The cure profile (R122). -/
structure CureProfile where
  tickPeriod : Nat
  length : Nat
  window : Nat
  setpoints : Vector Nat 4
  floor : Nat
  gain : Nat
  limit : Nat
  whiteWeight : Nat
  colourWeight : Nat
  base : Vector Nat 8
  margin : Vector Nat 8
deriving DecidableEq, Repr

/-- The states of the Tunnel station (R126). -/
inductive TunnelState where
  | idle | transferWait | inhibited
deriving DecidableEq, Repr

/-- A record of the tunnel queue: unit and entry position (R125). -/
structure QueueRecord where
  unit : UnitNo
  entry : Word32
deriving DecidableEq, Repr

/-- Whether a zone's sensor is believed (R134). -/
inductive ZoneState where
  | live | stale | lapsed
deriving DecidableEq, Repr

/-- A zone record (R134). -/
structure Zone where
  state : ZoneState
  lastValid : Option Nat
  temperature : Nat
  missed : Nat
  staleTicks : Nat
  heard : Bool
  duty : Nat
  overtemp : Bool
deriving DecidableEq, Repr

/-- The Cure Tunnel block (R122 to R143). -/
structure Tunnel where
  profile : CureProfile
  state : TunnelState
  held : Option UnitNo
  quiesce : Quiesce
  belt : Word32
  queue : List QueueRecord
  zones : Vector Zone 4
  ready : Bool
  readyRun : Nat
  tickStart : Word32
deriving DecidableEq, Repr

/-! ### Pack Matcher (R144 to R162) -/

/-- A shelf entry (8.6). -/
structure ShelfEntry where
  artwork : ArtworkNo
  sku : Sku
  stamp : Word32
deriving DecidableEq, Repr

/-- The Pack Matcher block: exit list, bin table, orphan shelf with its age order, oldest first (R144, R155, R158). -/
structure Pack where
  exits : List UnitNo
  bins : Vector (Option Handle) 24
  shelf : Vector (Option ShelfEntry) 16
  age : List SlotNo
deriving DecidableEq, Repr

/-! ### Port Controller (R170 to R178) -/

/-- Why an order returned to FREE (R37). -/
inductive FreedCause where
  | cancelled | closed
deriving DecidableEq, Repr

/-- Why a zone became STALE (R135, R137). -/
inductive StaleCause where
  | faultReading | noReading
deriving DecidableEq, Repr

/-- Why a unit was lost (7.3, UNIT LOST notice). -/
inductive LostReason where
  | noRoom | exitFull | missing
deriving DecidableEq, Repr

/-- The notices and their arguments (A.4, R176). -/
inductive Notice where
  | orderComplete (handle : Handle) (web : Word32) (bin : Option BinNo)
  | orderHeldOrdered (handle : Handle) (web : Word32) (level : Nat)
  | orderHeldScrap (handle : Handle) (web : Word32) (line : Nat)
  | orderFreed (handle : Handle) (web : Word32) (cause : FreedCause)
  | quiesced (station : Station)
  | resumed (station : Station) (left : Quiesce)
  | indexFault
  | ghostEntry (belt : Word32)
  | overtemp (zone : ZoneNo) (temperature : Nat)
  | zoneStale (zone : ZoneNo) (cause : StaleCause)
  | zoneLapsed (zone : ZoneNo)
  | tunnelReady
  | printFault (cause : PrintCause) (tag : Tag)
  | lineReset
  | pretreated (tag : Tag) (fluid : Nat) (sweeps : Nat) (saturated : Bool)
  | lowFluid (tag : Tag) (fluid : Nat) (level : Nat)
  | barFault (tag : Option Tag) (state : BarState) (band : Option Nat) (sweepsDone : Option Nat)
  | platenReady (tag : Tag) (artwork : ArtworkNo) (bands : Nat) (dark : Bool)
  | stageNeeded (artwork : ArtworkNo) (tag : Tag)
  | artworkRemoved (artwork : ArtworkNo)
  | platenWithdrawn (tag : Tag) (artwork : ArtworkNo)
  | binReady (bin : Option BinNo) (handle : Handle) (web : Word32)
  | shelfToBin (slot : SlotNo) (bin : BinNo) (handle : Handle) (line : Nat)
  | binToShelf (bin : BinNo) (made : Nat) (wasted : Nat) (handle : Handle)
  | ghostExit (belt : Word32) (oldest : Option (Tag × Word32))
  | unitLost (tag : Tag) (handle : Handle) (line : Nat) (reason : LostReason)
deriving DecidableEq, Repr

/-- A notice record: the notice and the Time Base value at which it was posted (10.6). -/
structure NoticeRecord where
  notice : Notice
  stamp : Word32
deriving DecidableEq, Repr

/-- A frame without its start byte, length and CRC, which `Frame.chars` adds (A.1). -/
structure Frame where
  portCode : Byte
  code : Byte
  tag : Byte
  body : List Byte
deriving DecidableEq, Repr

/-- The frame assembler of a port (R171): the characters of the frame begun, start byte first (none while
hunting); whether a junk run is under way; the Time Base value at which the last character came. -/
structure Receiver where
  held : List Byte
  junkRun : Bool
  lastChar : Word32
deriving DecidableEq, Repr

/-- One port of the Port Controller (R170 to R177). `sent` is the model's record of the reply frames the part
has sent on the link, oldest first (log entry 4). -/
structure PortState where
  input : List Frame
  receiver : Receiver
  frameErrors : Nat
  notices : List NoticeRecord
  overrun : Bool
  rate : Rate
  sent : List Frame
deriving DecidableEq, Repr

/-- The four ports. -/
structure Ports where
  order : PortState
  load : PortState
  engine : PortState
  pack : PortState
deriving DecidableEq, Repr

/-! ### The whole part -/

/-- The state of the part, block by block, and the queue of the commands that wait (log entry 1). -/
structure State where
  time : TimeBase
  ring : Ring
  units : Vector UnitRecord 40
  book : OrderBook
  artworks : Vector Artwork 64
  load : LoadStation
  pretreat : Pretreat
  bar : Bar
  print : Print
  tunnel : Tunnel
  pack : Pack
  ports : Ports
  pending : List Instr
deriving DecidableEq, Repr

/-- The part has no behaviour that stops it: every request that cannot be carried out is answered REFUSED and
changes nothing (R174), and every machine fault is a change of state with a notice. So no fault exists. -/
inductive Fault where
deriving DecidableEq, Repr

/-- Why a command has no meaning here. -/
inductive Refusal where
  /-- Raised by an arm of `exec` whose command has no meaning yet; no arm raises it now. Safe: the run stops. -/
  | notModelled (mnemonic : String)
deriving DecidableEq, Repr

/-! ### Power-on -/

/-- A table written entry by entry from a function of the entry's number. -/
def tableOf {α : Type} {n : Nat} (f : Fin n → α) : Vector α n :=
  ⟨((List.finRange n).map f).toArray, by simp⟩

/-- Power-on values of the Time Base block (R17). -/
def TimeBase.initial : TimeBase := { now := 0, lastReset := .powerOn }

/-- Power-on values of the ring (R1, R4, R6): platen p at position p, ADULT, enabled, empty. -/
def Ring.initial : Ring where
  platens := tableOf fun p => { sizeClass := .adult, enabled := true, unit := none, position := p }
  state := .still
  pendingIndex := false
  indexGrant := false
  holds := { pretreat := false, print := false, tunnel := false }
  arrivals := { pretreat := none, print := none, tunnel := none }

/-- Power-on values of the Order Book (R21, R23, R24, R29). -/
def OrderBook.initial : OrderBook where
  orders := Vector.replicate 128 { generation := 1, order := none }
  lines := Vector.replicate 384 none
  active := []
  sequence := 1

/-- An EMPTY artwork descriptor (R39). -/
def Artwork.empty : Artwork := { design := none, refs := 0, staged := false }

/-- Power-on values of the Load station and its tables (R46 to R49; the scrap limit by chapter 2). -/
def LoadStation.initial : LoadStation where
  colours := Vector.replicate 64 0
  sizeMap := Vector.replicate 8 .adult
  darkThreshold := 96
  scrapLimit := 3
  quiesce := .running

/-- Power-on values of the Pretreat station (R61, R68, R73). -/
def Pretreat.initial : Pretreat where
  doses := Vector.replicate 8 0
  reservoir := 0
  state := .idle
  plan := none
  quiesce := .running

/-- Power-on values of the spray settings, the bar record and the spray bar lines (R79 to R81).
DESIGN CHOICE (log entry 11): the spec gives no power-on value for `sweepStart`, `sweepTime`, `sweepHalf`; 0. -/
def Bar.initial : Bar where
  settings := { sweepTime := 500, amplitude := 0, halfPeriod := 100, passCapacity := 80, minDose := 0 }
  state := .parked
  target := none
  plan := none
  planWaiting := false
  band := none
  sweepsDone := 0
  nextDirection := .forward
  sweepStart := 0
  sweepTime := 0
  sweepHalf := 0
  dithering := false
  clearPending := false
  ditherOffAt := none
  stopAt := none
  valves := Vector.replicate 8 0
  traverse := none
  dither := none

/-- Power-on values of the Print station (R95, R115, R117). -/
def Print.initial : Print where
  state := .idle
  held := none
  stageAsked := false
  cursor := none
  inFlight := []
  nextNumber := 0
  watchdog := none
  terminated := []
  lateTag := none
  quiesce := .running
  errorRecord := none
  errorCount := 0
  watchdogLimit := 8000

/-- The cure profile at power-on (R122). -/
def CureProfile.initial : CureProfile where
  tickPeriod := 1000
  length := 1200
  window := 60
  setpoints := Vector.replicate 4 160
  floor := 120
  gain := 8
  limit := 230
  whiteWeight := 40
  colourWeight := 20
  base := Vector.replicate 8 3000
  margin := Vector.replicate 8 2500

/-- A zone record at power-on (R134). -/
def Zone.initial : Zone where
  state := .lapsed
  lastValid := none
  temperature := 0
  missed := 0
  staleTicks := 0
  heard := false
  duty := 0
  overtemp := false

/-- Power-on values of the Cure Tunnel (R122, R124 to R126, R134, R136, R140). -/
def Tunnel.initial : Tunnel where
  profile := .initial
  state := .idle
  held := none
  quiesce := .running
  belt := 0
  queue := []
  zones := Vector.replicate 4 .initial
  ready := false
  readyRun := 0
  tickStart := 0

/-- Power-on values of the Pack Matcher (R144, R155, R158). -/
def Pack.initial : Pack where
  exits := []
  bins := Vector.replicate 24 none
  shelf := Vector.replicate 16 none
  age := []

/-- A port at power-on with the rate its strap gives (R170 to R172, R176). The receiver hunts.
DESIGN CHOICE (log entry 11): the stamp of a last character that has not come is 0. -/
def PortState.initial (rate : Rate) : PortState where
  input := []
  receiver := { held := [], junkRun := false, lastChar := 0 }
  frameErrors := 0
  notices := []
  overrun := false
  rate := rate
  sent := []

/-- The part right after supply is applied with the straps given (R17, R170). -/
def State.powerOn (straps : Straps) : State where
  time := .initial
  ring := .initial
  units := Vector.replicate 40 { generation := 1, shirt := none }
  book := .initial
  artworks := Vector.replicate 64 .empty
  load := .initial
  pretreat := .initial
  bar := .initial
  print := .initial
  tunnel := .initial
  pack := .initial
  ports :=
    { order := .initial straps.order, load := .initial straps.load
      engine := .initial straps.engine, pack := .initial straps.pack }
  pending := []

/-- The machine right after reset: power-on, with no command waiting.
DESIGN CHOICE (log entry 10): the rate straps of this one state stand at 115,200 baud; the spec gives the
strap's sample, not a value. -/
def State.reset : State :=
  .powerOn { order := .baud115200, load := .baud115200, engine := .baud115200, pack := .baud115200 }

end Sys2Proof.Machine
end

