-- ==== Sys2Proof/Machine/Ops.lean ====
section
/-! DEFINITION. The named operations every family works through: table entries, the blocks of State, the ports,
posting a notice (R176), the ring's holds and grant (R4, R8), the unit records (R11, R12, R15), and completing
a quiesce (R165). -/

namespace Sys2Proof.Machine

/-! ### Table entries -/

/-- The entry of a table. -/
def tget {α : Type} {n : Nat} (v : Vector α n) (i : Fin n) : α := v[i.val]

/-- A table with one entry replaced. -/
def tset {α : Type} {n : Nat} (v : Vector α n) (i : Fin n) (x : α) : Vector α n := v.set i.val x

/-- A table with every entry replaced by a function of it. -/
def tmap {α : Type} {n : Nat} (f : α → α) (v : Vector α n) : Vector α n := tableOf fun i => f (tget v i)

/-- The lowest-numbered entry with a property. -/
def lowest {α : Type} {n : Nat} (v : Vector α n) (p : α → Bool) : Option (Fin n) :=
  (List.finRange n).find? fun i => p (tget v i)

/-- How many entries have a property. -/
def countOf {α : Type} {n : Nat} (v : Vector α n) (p : α → Bool) : Nat :=
  ((List.finRange n).filter fun i => p (tget v i)).length

/-! ### Blocks of the state -/

/-- Replace `time`. -/
def State.setTime (s : State) (v : TimeBase) : State := { s with time := v }
/-- Replace `ring`. -/
def State.setRing (s : State) (v : Ring) : State := { s with ring := v }
/-- Replace `units`. -/
def State.setUnits (s : State) (v : Vector UnitRecord 40) : State := { s with units := v }
/-- Replace `book`. -/
def State.setBook (s : State) (v : OrderBook) : State := { s with book := v }
/-- Replace `artworks`. -/
def State.setArtworks (s : State) (v : Vector Artwork 64) : State := { s with artworks := v }
/-- Replace `load`. -/
def State.setLoad (s : State) (v : LoadStation) : State := { s with load := v }
/-- Replace `pretreat`. -/
def State.setPretreat (s : State) (v : Pretreat) : State := { s with pretreat := v }
/-- Replace `bar`. -/
def State.setBar (s : State) (v : Bar) : State := { s with bar := v }
/-- Replace `print`. -/
def State.setPrint (s : State) (v : Print) : State := { s with print := v }
/-- Replace `tunnel`. -/
def State.setTunnel (s : State) (v : Tunnel) : State := { s with tunnel := v }
/-- Replace `pack`. -/
def State.setPack (s : State) (v : Pack) : State := { s with pack := v }
/-- Replace `ports`. -/
def State.setPorts (s : State) (v : Ports) : State := { s with ports := v }
/-- Replace `pending`. -/
def State.setPending (s : State) (v : List Instr) : State := { s with pending := v }

/-! ### The Time Base -/

/-- Elapsed ms of the Time Base since `start`, correct across a wrap (R17). -/
def elapsedSince (s : State) (start : Word32) : Nat := (s.time.now - start).toNat

/-! ### Ports and notices -/

/-- One port's state. -/
def Ports.get (ps : Ports) : Port → PortState
  | .order => ps.order
  | .load => ps.load
  | .engine => ps.engine
  | .pack => ps.pack

/-- The four ports with one replaced. -/
def Ports.put (ps : Ports) (p : Port) (x : PortState) : Ports :=
  match p with
  | .order => { ps with order := x }
  | .load => { ps with load := x }
  | .engine => { ps with engine := x }
  | .pack => { ps with pack := x }

/-- One port of the state. -/
def State.port (s : State) (p : Port) : PortState := s.ports.get p

/-- The state with one port replaced. -/
def State.setPort (s : State) (p : Port) (x : PortState) : State := s.setPorts (s.ports.put p x)

/-- A notice record joins a queue's tail, or is discarded with OVERRUN set when the queue is full (R176). -/
def PortState.join (x : PortState) (r : NoticeRecord) : PortState :=
  if x.notices.length < Config.noticeQueueSize then { x with notices := x.notices ++ [r] }
  else { x with overrun := true }

/-- A notice is posted to a port, stamped with the Time Base (R17, R176). -/
def post (p : Port) (n : Notice) (s : State) : State :=
  s.setPort p ((s.port p).join { notice := n, stamp := s.time.now })

/-- A frame is sent on a port's link. -/
def State.send (s : State) (p : Port) (f : Frame) : State :=
  s.setPort p { s.port p with sent := (s.port p).sent ++ [f] }

/-! ### The ring: positions, holds, arrivals and the grant -/

/-- The ring position at which a station works (1.1). -/
def Holder.position : Holder → Position
  | .pretreat => 3
  | .print => 6
  | .tunnel => 9

/-- The load position (1.1). -/
def loadPosition : Position := 0

/-- The platen standing at a position. -/
def platenAt (s : State) (pos : Position) : Option PlatenNo :=
  lowest s.ring.platens fun p => p.position = pos

/-- The unit field of the platen standing at a position. -/
def unitAt (s : State) (pos : Position) : Option UnitNo :=
  (platenAt s pos).bind fun p => (tget s.ring.platens p).unit

/-- A station's hold. -/
def Holds.get (h : Holds) : Holder → Bool
  | .pretreat => h.pretreat
  | .print => h.print
  | .tunnel => h.tunnel

/-- The holds with one replaced. -/
def Holds.put (h : Holds) (w : Holder) (b : Bool) : Holds :=
  match w with
  | .pretreat => { h with pretreat := b }
  | .print => { h with print := b }
  | .tunnel => { h with tunnel := b }

/-- Every hold is clear. -/
def Holds.allClear (h : Holds) : Bool := !h.pretreat && !h.print && !h.tunnel

/-- A station's arrival delivered and not yet taken. -/
def Arrivals.get (a : Arrivals) : Holder → Option Arrival
  | .pretreat => a.pretreat
  | .print => a.print
  | .tunnel => a.tunnel

/-- The arrivals with one replaced. -/
def Arrivals.put (a : Arrivals) (w : Holder) (x : Option Arrival) : Arrivals :=
  match w with
  | .pretreat => { a with pretreat := x }
  | .print => { a with print := x }
  | .tunnel => { a with tunnel := x }

/-- INDEX GRANT is asserted and the ring becomes MOVING (R7, R8). -/
def Ring.grant (r : Ring) : Ring := { r with pendingIndex := false, indexGrant := true, state := .moving }

/-- A station's hold is released; the release that leaves all three clear grants a pending request on a STILL
ring (R4, R8). The release of a hold already clear changes nothing (R4). -/
def Ring.release (r : Ring) (w : Holder) : Ring :=
  if r.holds.get w then
    let r1 := { r with holds := r.holds.put w false }
    if r1.holds.allClear && r1.pendingIndex && decide (r1.state = .still) then r1.grant else r1
  else r

/-- A station releases its hold (R4, R8). -/
def releaseHold (w : Holder) (s : State) : State := s.setRing (s.ring.release w)

/-- A station takes its platen-arrived event: the event is gone, the hold stays as delivered (R4, R5). -/
def takeArrival (w : Holder) (s : State) : State :=
  s.setRing { s.ring with arrivals := s.ring.arrivals.put w none }

/-- The unit field of a platen is replaced (R1). -/
def setPlatenUnit (p : PlatenNo) (u : Option UnitNo) (s : State) : State :=
  s.setRing { s.ring with platens := tset s.ring.platens p { tget s.ring.platens p with unit := u } }

/-! ### Unit records -/

/-- The fields of a unit record in use. -/
def State.shirt (s : State) (u : UnitNo) : Option Shirt := (tget s.units u).shirt

/-- A unit record's generation. -/
def State.generation (s : State) (u : UnitNo) : Nat := (tget s.units u).generation

/-- The garment tag of a unit as its record stands (1.4). -/
def State.tagOf (s : State) (u : UnitNo) : Tag := { generation := s.generation u, unit := u }

/-- The fields of a unit record are written; its generation is kept (R11). -/
def putShirt (u : UnitNo) (sh : Option Shirt) (s : State) : State :=
  s.setUnits (tset s.units u { tget s.units u with shirt := sh })

/-- The fields of a unit record in use are revised; a free record is left alone. -/
def modifyShirt (u : UnitNo) (f : Shirt → Shirt) (s : State) : State :=
  match s.shirt u with
  | some sh => putShirt u (some (f sh)) s
  | none => s

/-- A unit's state becomes the one given (R13). -/
def setUnitState (u : UnitNo) (st : UnitState) (s : State) : State :=
  modifyShirt u (fun sh => { sh with state := st }) s

/-- A fault is recorded for a unit: the first one is kept (R12). -/
def noteFault (u : UnitNo) (f : UnitFault) (s : State) : State :=
  modifyShirt u (fun sh => { sh with fault := sh.fault.orElse fun _ => some f }) s

/-- The generation that follows a unit record's: 1023 advances to 1 (R11). -/
def nextUnitGeneration (g : Nat) : Nat := if g = Config.unitGenerationMax then 1 else g + 1

/-- A unit record is cleared: every field but the generation, which advances (R11, R16 step 3). -/
def clearUnit (u : UnitNo) (s : State) : State :=
  s.setUnits (tset s.units u { generation := nextUnitGeneration (s.generation u), shirt := none })

/-- The design a unit's artwork holds (R39). -/
def designOf (s : State) (sh : Shirt) : Option Design := (tget s.artworks sh.artwork).design

/-! ### Quiesce states -/

/-- A station's quiesce state (R163). -/
def State.quiesce (s : State) : Station → Quiesce
  | .load => s.load.quiesce
  | .pretreat => s.pretreat.quiesce
  | .print => s.print.quiesce
  | .tunnel => s.tunnel.quiesce

/-- A station's quiesce state is replaced. -/
def setQuiesce (st : Station) (q : Quiesce) (s : State) : State :=
  match st with
  | .load => s.setLoad { s.load with quiesce := q }
  | .pretreat => s.setPretreat { s.pretreat with quiesce := q }
  | .print => s.setPrint { s.print with quiesce := q }
  | .tunnel => s.setTunnel { s.tunnel with quiesce := q }

/-- A station's completion event: a QUIESCING station becomes QUIESCED and the notice is posted to the Order
port; at any other quiesce state nothing changes (R165). -/
def completeQuiesce (st : Station) (s : State) : State :=
  if s.quiesce st = .quiescing then post .order (.quiesced st) (setQuiesce st .quiesced s) else s

/-! ### Free counts, as READ STATUS and the search for a free record use them -/

/-- The lowest-numbered free unit record (R11). -/
def lowestFreeUnit (s : State) : Option UnitNo := lowest s.units fun r => r.shirt.isNone

/-- The free count of the Unit Pool (R11). -/
def freeUnits (s : State) : Nat := countOf s.units fun r => r.shirt.isNone

/-- The lowest-numbered FREE descriptor (R32). -/
def lowestFreeOrder (s : State) : Option OrderNo := lowest s.book.orders fun d => d.order.isNone

/-- The number of FREE descriptors (R21). -/
def freeOrders (s : State) : Nat := countOf s.book.orders fun d => d.order.isNone

/-- The number of free line records (R24). -/
def freeLines (s : State) : Nat := countOf s.book.lines fun l => l.isNone

/-- The staged count (2.10). -/
def stagedCount (s : State) : Nat := countOf s.artworks fun a => a.staged

/-- The count of free bins (R155). -/
def freeBins (s : State) : Nat := countOf s.pack.bins fun b => b.isNone

/-- The count of empty shelf slots (R158). -/
def freeSlots (s : State) : Nat := countOf s.pack.shelf fun e => e.isNone

end Sys2Proof.Machine
end

