-- ==== Sys2Proof/Machine/Flags.lean ====
section
/-! DEFINITION. The flag bytes of the replies and the outputs that are computed from the state. -/

namespace Sys2Proof.Machine

/-- One bit of a flag byte. -/
def bit (k : Nat) (b : Bool) : Nat := if b then 2 ^ k else 0

/-- A unit's four flags as bits 0..3 of the indications byte (A.4), and of the flags of READ PACK's EXIT LIST (A.7).
DESIGN CHOICE: the bits that Appendix A does not name are sent as 0 (log entry 35). -/
def UnitFlags.bits (f : UnitFlags) : Nat :=
  bit 0 f.bypassed + bit 1 f.saturated + bit 2 f.unreadyEntry + bit 3 f.recured

/-- The flags READ TUNNEL reports: bit 2 UNREADY ENTRY, bit 3 RECURED (A.7).
DESIGN CHOICE: the bits that A.7 does not name are sent as 0 (log entry 35). -/
def UnitFlags.tunnelBits (f : UnitFlags) : Nat := bit 2 f.unreadyEntry + bit 3 f.recured

/-- The TRANSFER INHIBIT output (R126). -/
def transferInhibit (s : State) : Bool :=
  decide (s.tunnel.state = .inhibited) || decide (s.tunnel.quiesce ≠ .running)

/-- The NOTICE PENDING line of a port (R176). -/
def noticePending (s : State) (p : Port) : Bool := !(s.port p).notices.isEmpty

/-- The flag byte of READ STATUS, byte 8 (R178, A.4).
DESIGN CHOICE: A.4 names bits 0 to 5; bits 6 and 7 are sent as 0 (log entry 35). -/
def statusBits (s : State) : Nat :=
  bit 0 s.ring.pendingIndex + bit 1 s.ring.holds.pretreat + bit 2 s.ring.holds.print + bit 3 s.ring.holds.tunnel
    + bit 4 (transferInhibit s) + bit 5 s.tunnel.ready

end Sys2Proof.Machine
end

