-- ==== Sys2Proof/Machine/Layout.lean ====
section
/-! DEFINITION. The byte layouts of Appendix A: numbers high byte first, "none" as the field's greatest value,
handles, tags and SKUs, the codes of the enumerations, and notice records. -/

namespace Sys2Proof.Machine

/-! ### Numbers (A, first paragraph) -/

/-- A number in one byte. A number too great for its field leaves its low-order byte (log entry 25). -/
def bytes1 (n : Nat) : List Byte := [BitVec.ofNat 8 n]

/-- A number in two bytes, high byte first. -/
def bytes2 (n : Nat) : List Byte := [BitVec.ofNat 8 (n / 256), BitVec.ofNat 8 n]

/-- A number in four bytes, high byte first. -/
def bytes4 (n : Nat) : List Byte :=
  [BitVec.ofNat 8 (n / 16777216), BitVec.ofNat 8 (n / 65536), BitVec.ofNat 8 (n / 256), BitVec.ofNat 8 n]

/-- A field of `k` bytes that holds "none": FFh in each. -/
def noneBytes (k : Nat) : List Byte := List.replicate k 0xFF#8

/-- A field of `k` bytes that may be absent. -/
def orNone {α : Type} (k : Nat) (f : α → List Byte) : Option α → List Byte
  | some a => f a
  | none => noneBytes k

/-- The number two bytes hold, high byte first. -/
def number2 (hi lo : Byte) : Nat := hi.toNat * 256 + lo.toNat

/-- The number four bytes hold, high byte first. -/
def number4 (a b c d : Byte) : Nat := ((a.toNat * 256 + b.toNat) * 256 + c.toNat) * 256 + d.toNat

/-- A yes/no byte: no 0, yes 1 (A.2). -/
def yesNoCode (b : Bool) : Nat := if b then 1 else 0

/-! ### Handles, tags, SKUs (A.2) -/

/-- The number an order handle is in its two bytes: generation, then index. -/
def Handle.number (h : Handle) : Nat := h.generation * 256 + h.index.val

/-- The number a garment tag is: generation in the upper 10 bits, unit number in the lower 6. -/
def Tag.number (t : Tag) : Nat := t.generation * 64 + t.unit.val

/-- An order handle in two bytes. -/
def handleBytes (h : Handle) : List Byte := bytes2 h.number

/-- A garment tag in two bytes. -/
def tagBytes (t : Tag) : List Byte := bytes2 t.number

/-- A SKU in three bytes. -/
def skuBytes (k : Sku) : List Byte := bytes1 k.fabric.val ++ bytes1 k.colour.val ++ bytes1 k.size.val

/-! ### Code tables (A.2) -/

/-- Port codes (A.1). -/
def portCode : Port → Byte
  | .order => 1
  | .load => 2
  | .engine => 3
  | .pack => 4

/-- Size class codes. -/
def SizeClass.code : SizeClass → Nat
  | .youth => 0
  | .adult => 1
  | .oversize => 2

/-- Station codes. -/
def Station.code : Station → Nat
  | .load => 0
  | .pretreat => 1
  | .print => 2
  | .tunnel => 3

/-- Quiesce state codes. -/
def Quiesce.code : Quiesce → Nat
  | .running => 0
  | .quiescing => 1
  | .quiesced => 2

/-- Pretreat station state codes. -/
def PretreatState.code : PretreatState → Nat
  | .idle => 0
  | .quiesceWait => 1
  | .barFault => 2
  | .lowFluid => 3
  | .spraying => 4

/-- Print station state codes. -/
def PrintState.code : PrintState → Nat
  | .idle => 0
  | .quiesceWait => 1
  | .waitArtwork => 2
  | .registering => 3
  | .passing => 4
  | .aborting => 5
  | .parking => 6

/-- Tunnel station state codes. -/
def TunnelState.code : TunnelState → Nat
  | .idle => 0
  | .transferWait => 1
  | .inhibited => 2

/-- Bar state codes. -/
def BarState.code : BarState → Nat
  | .parked => 0
  | .moving => 1
  | .sweeping => 2
  | .centring => 3
  | .faulted => 4

/-- Zone state codes. -/
def ZoneState.code : ZoneState → Nat
  | .live => 0
  | .stale => 1
  | .lapsed => 2

/-- Unit fault codes; none is 0. -/
def faultCode : Option UnitFault → Nat
  | none => 0
  | some .noPretreat => 1
  | some .pretreatFault => 2
  | some .registerFault => 3
  | some .registerTimeout => 4
  | some .printAbort => 5
  | some .swathTimeout => 6

/-- Print fault cause codes. -/
def PrintCause.code : PrintCause → Nat
  | .registerFault => 1
  | .registerTimeout => 2
  | .nozzle => 3
  | .strike => 4
  | .swathTimeout => 5

/-- Cure result codes. -/
def CureResult.code : CureResult → Nat
  | .pending => 0
  | .cured => 1
  | .undercured => 2
  | .scorched => 3
  | .notRequired => 4
  | .unmeasured => 5

/-- Order state codes; FREE, for no order, is 0. -/
def orderStateCode : Option OrderState → Nat
  | none => 0
  | some .active => 1
  | some .held => 2
  | some .complete => 3
  | some .cancelling => 4

/-- Hold reason codes. -/
def HoldReason.code : HoldReason → Nat
  | .ordered => 0
  | .scrapLimit => 1

/-- Bar target codes: a band's number, HOME 80h. -/
def Target.code : Target → Nat
  | .home => 0x80
  | .band b => b

/-- Layer codes. -/
def Layer.code : Layer → Nat
  | .white => 0
  | .colour => 1

/-- Direction codes (A.4; READ SPRAY BAR takes the same, log entry 29). -/
def Direction.code : Direction → Nat
  | .forward => 0
  | .reverse => 1

/-- Last reset cause codes (A.4). -/
def ResetCause.code : ResetCause → Nat
  | .powerOn => 0
  | .lineReset => 1

/-- Ring state codes (A.4). -/
def RingState.code : RingState → Nat
  | .still => 0
  | .moving => 1

/-- The plan cursor in its four bytes (A.2). -/
def cursorBytes : Option Cursor → List Byte
  | none => noneBytes 4
  | some .finished => bytes1 0x80 ++ bytes1 0 ++ bytes1 0 ++ bytes1 0
  | some (.at t) => bytes1 t.layer.code ++ bytes1 t.pair ++ bytes1 t.rep ++ bytes1 t.half

/-- A swath order in its eight bytes (A.4). -/
def swathBytes (o : SwathOrder) : List Byte :=
  bytes1 o.number ++ tagBytes o.tag ++ bytes1 o.band ++ bytes1 o.layer.code ++ bytes1 o.direction.code
    ++ bytes1 (yesNoCode o.fire) ++ bytes1 o.rep

/-! ### Notice records (A.4) -/

/-- A four-byte argument that may be absent. -/
def argument : Option Nat → Nat
  | some n => n
  | none => 0xFFFFFFFF

/-- Lost reason codes (A.4). -/
def LostReason.code : LostReason → Nat
  | .noRoom => 0
  | .exitFull => 1
  | .missing => 2

/-- The code of a notice's kind (A.4). -/
def Notice.kind : Notice → Nat
  | .orderComplete .. => 0x01
  | .orderHeldOrdered .. => 0x02
  | .orderHeldScrap .. => 0x02
  | .orderFreed .. => 0x03
  | .quiesced .. => 0x04
  | .resumed .. => 0x05
  | .indexFault => 0x06
  | .ghostEntry .. => 0x07
  | .overtemp .. => 0x08
  | .zoneStale .. => 0x09
  | .zoneLapsed .. => 0x09
  | .tunnelReady => 0x0A
  | .printFault .. => 0x0B
  | .lineReset => 0x0C
  | .pretreated .. => 0x10
  | .lowFluid .. => 0x11
  | .barFault .. => 0x12
  | .platenReady .. => 0x18
  | .stageNeeded .. => 0x19
  | .artworkRemoved .. => 0x1A
  | .platenWithdrawn .. => 0x1B
  | .binReady .. => 0x20
  | .shelfToBin .. => 0x21
  | .binToShelf .. => 0x22
  | .ghostExit .. => 0x23
  | .unitLost .. => 0x24

/-- The four arguments of a notice; one it does not use holds 0, one that is absent holds none (A.4). -/
def Notice.arguments : Notice → List Nat
  | .orderComplete h w b => [h.number, w.toNat, argument (b.map (·.val)), 0]
  | .orderHeldOrdered h w level => [h.number, w.toNat, HoldReason.ordered.code, level]
  | .orderHeldScrap h w line => [h.number, w.toNat, HoldReason.scrapLimit.code, line]
  | .orderFreed h w c => [h.number, w.toNat, match c with | .cancelled => 0 | .closed => 1, 0]
  | .quiesced st => [st.code, 0, 0, 0]
  | .resumed st q => [st.code, q.code, 0, 0]
  | .indexFault => [0, 0, 0, 0]
  | .ghostEntry b => [b.toNat, 0, 0, 0]
  | .overtemp z t => [z.val, t, 0, 0]
  | .zoneStale z c => [z.val, 0, match c with | .faultReading => 0 | .noReading => 1, 0]
  | .zoneLapsed z => [z.val, 1, argument none, 0]
  | .tunnelReady => [0, 0, 0, 0]
  | .printFault c t => [c.code, t.number, 0, 0]
  | .lineReset => [0, 0, 0, 0]
  | .pretreated t f n sat => [t.number, f, n, if sat then 4 else 0]
  | .lowFluid t f l => [t.number, f, l, 0]
  | .barFault t st b n => [argument (t.map Tag.number), st.code, argument b, argument n]
  | .platenReady t a b d => [t.number, a.val, b, yesNoCode d]
  | .stageNeeded a t => [a.val, t.number, 0, 0]
  | .artworkRemoved a => [a.val, 0, 0, 0]
  | .platenWithdrawn t a => [t.number, a.val, 0, 0]
  | .binReady b h w => [argument (b.map (·.val)), h.number, w.toNat, 0]
  | .shelfToBin sl b h l => [sl.val, b.val, h.number, l]
  | .binToShelf b m w h => [b.val, m, w, h.number]
  | .ghostExit b o => [b.toNat, argument (o.map fun x => x.1.number), argument (o.map fun x => x.2.toNat), 0]
  | .unitLost t h l r => [t.number, h.number, l, r.code]

/-- A notice record in its 21 bytes: kind, stamp, four arguments (A.4). -/
def noticeBytes (r : NoticeRecord) : List Byte :=
  bytes1 r.notice.kind ++ bytes4 r.stamp.toNat ++ r.notice.arguments.flatMap bytes4

/-- The 21 bytes of kind NONE (A.4). -/
def noNoticeBytes : List Byte := List.replicate 21 0

end Sys2Proof.Machine
end

