-- ==== Sys2Proof/Machine/Protocol.lean ====
section
/-! DEFINITION. The request protocol: the request table with its codes (A.5), ports (10.5) and body lengths
(A.7, R179); replies with their outcome classes and codes (R174, A.1); the frame checks (R173, R180); and
`serve`, the taking of one request whole (R172). -/

namespace Sys2Proof.Machine

/-- The 46 requests (A.5). -/
inductive Request where
  | setPlaten | lineReset
  | submitOrder | holdOrder | releaseOrder | cancelOrder | readOrder
  | defineArtwork | removeArtwork | readArtwork | artworkStaged | artworkEvicted
  | load | unload | bypassPretreat | writeColourTable | writeSizeMap | writeDarkThreshold | writeScrapLimit
  | readLoadTables
  | writeDoseTable | refill | readPretreat
  | writeSpraySettings | barClear | readSprayBar
  | registered | registerFault | nextSwath | swathDone | carriageParked | readPrint | readErrorRecord
  | writeEngineProfile
  | writeCureProfile | readTunnel
  | matchShirt | scrap | recure | binClosed | clearShelfSlot | readPack
  | quiesceStation | resumeStation
  | fetchNotice | readStatus
deriving DecidableEq, Repr

/-- Request codes (A.5). -/
def Request.code : Request → Byte
  | .setPlaten => 0x01
  | .lineReset => 0x02
  | .submitOrder => 0x10
  | .holdOrder => 0x11
  | .releaseOrder => 0x12
  | .cancelOrder => 0x13
  | .readOrder => 0x14
  | .defineArtwork => 0x15
  | .removeArtwork => 0x16
  | .readArtwork => 0x17
  | .artworkStaged => 0x18
  | .artworkEvicted => 0x19
  | .load => 0x20
  | .unload => 0x21
  | .bypassPretreat => 0x22
  | .writeColourTable => 0x23
  | .writeSizeMap => 0x24
  | .writeDarkThreshold => 0x25
  | .writeScrapLimit => 0x26
  | .readLoadTables => 0x27
  | .writeDoseTable => 0x30
  | .refill => 0x31
  | .readPretreat => 0x32
  | .writeSpraySettings => 0x38
  | .barClear => 0x39
  | .readSprayBar => 0x3A
  | .registered => 0x40
  | .registerFault => 0x41
  | .nextSwath => 0x42
  | .swathDone => 0x43
  | .carriageParked => 0x44
  | .readPrint => 0x45
  | .readErrorRecord => 0x46
  | .writeEngineProfile => 0x47
  | .writeCureProfile => 0x50
  | .readTunnel => 0x51
  | .matchShirt => 0x60
  | .scrap => 0x61
  | .recure => 0x62
  | .binClosed => 0x63
  | .clearShelfSlot => 0x64
  | .readPack => 0x65
  | .quiesceStation => 0x70
  | .resumeStation => 0x71
  | .fetchNotice => 0x78
  | .readStatus => 0x79

/-- The ports on which a request is taken (10.5). -/
def Request.takenOn : Request → Port → Bool
  | .setPlaten, .order | .lineReset, .order => true
  | .submitOrder, .order | .cancelOrder, .order => true
  | .holdOrder, .order | .holdOrder, .load | .holdOrder, .pack => true
  | .releaseOrder, .order | .releaseOrder, .load | .releaseOrder, .pack => true
  | .readOrder, .order | .readOrder, .load | .readOrder, .pack => true
  | .defineArtwork, .order | .removeArtwork, .order => true
  | .readArtwork, .order | .readArtwork, .engine => true
  | .artworkStaged, .engine | .artworkEvicted, .engine => true
  | .load, .load | .unload, .load | .bypassPretreat, .load => true
  | .writeColourTable, .order | .writeSizeMap, .order => true
  | .writeDarkThreshold, .order | .writeScrapLimit, .order => true
  | .readLoadTables, .order | .readLoadTables, .load => true
  | .writeDoseTable, .order => true
  | .refill, .load => true
  | .readPretreat, .order | .readPretreat, .load => true
  | .writeSpraySettings, .order => true
  | .barClear, .load => true
  | .readSprayBar, .order | .readSprayBar, .load => true
  | .registered, .engine | .registerFault, .engine | .nextSwath, .engine => true
  | .swathDone, .engine | .carriageParked, .engine => true
  | .readPrint, .order | .readPrint, .engine => true
  | .readErrorRecord, .order | .writeEngineProfile, .order => true
  | .writeCureProfile, .order => true
  | .readTunnel, .order | .readTunnel, .pack => true
  | .matchShirt, .pack | .scrap, .pack | .recure, .pack | .binClosed, .pack | .clearShelfSlot, .pack => true
  | .readPack, .order | .readPack, .pack => true
  | .quiesceStation, .order | .resumeStation, .order => true
  | .fetchNotice, _ | .readStatus, _ => true
  | _, _ => false

/-- Whether a body's length matches its request (R179, A.7). -/
def Request.lengthOk (r : Request) (body : List Byte) : Bool :=
  let n := body.length
  match r with
  | .lineReset | .readLoadTables | .readPretreat | .barClear | .readSprayBar | .nextSwath | .readPrint
  | .readErrorRecord | .readTunnel | .fetchNotice | .readStatus => n == 0
  | .removeArtwork | .artworkStaged | .artworkEvicted | .writeDarkThreshold | .writeScrapLimit | .binClosed
  | .clearShelfSlot | .readPack | .quiesceStation | .resumeStation => n == 1
  | .holdOrder | .releaseOrder | .cancelOrder | .unload | .bypassPretreat | .writeSizeMap | .registered
  | .registerFault | .carriageParked | .swathDone | .writeEngineProfile | .matchShirt | .scrap | .recure => n == 2
  | .setPlaten | .load => n == 3
  | .refill => n == 4
  | .writeSpraySettings => n == 7
  | .writeCureProfile => n == 48
  | .readOrder => n == 2 || n == 3
  | .readArtwork => n == 1 || n == 2
  | .submitOrder =>
    match body[6]? with
    | some count => n == 7 + 5 * count.toNat
    | none => false
  | .defineArtwork =>
    match body[1]? with
    | some count => n == 5 + 2 * count.toNat
    | none => false
  | .writeColourTable => decide (1 ≤ n)
  | .writeDoseTable => n % 2 == 1

/-- Status codes of a REFUSED reply (R174). -/
inductive StatusCode where
  | badField | badLength | wrongPort | busy | staleHandle | staleTag | unknownTag | limit
  | level | state | full | duplicate | artwork | inUse | inProcess | quiesced
  | notQuiesced | moving | occupied | platen | platenClass | noDemand | noBin | sequence
  | late | recureLimit | notExited
deriving DecidableEq, Repr

/-- The codes of the status codes (A.5). -/
def StatusCode.code : StatusCode → Byte
  | .badField => 0x10
  | .badLength => 0x11
  | .wrongPort => 0x12
  | .busy => 0x13
  | .staleHandle => 0x14
  | .staleTag => 0x15
  | .unknownTag => 0x16
  | .limit => 0x17
  | .level => 0x18
  | .state => 0x19
  | .full => 0x1A
  | .duplicate => 0x1B
  | .artwork => 0x1C
  | .inUse => 0x1D
  | .inProcess => 0x1E
  | .quiesced => 0x1F
  | .notQuiesced => 0x20
  | .moving => 0x21
  | .occupied => 0x22
  | .platen => 0x23
  | .platenClass => 0x24
  | .noDemand => 0x25
  | .noBin => 0x26
  | .sequence => 0x27
  | .late => 0x28
  | .recureLimit => 0x29
  | .notExited => 0x2A

/-- The conditions of a DONE WITH CONDITION reply (R174); SATURATED is carried by a notice alone. -/
inductive Condition where
  | already | clamped | shelfUsed
deriving DecidableEq, Repr

/-- The codes of the conditions (A.5). -/
def Condition.code : Condition → Byte
  | .already => 0x01
  | .clamped => 0x02
  | .shelfUsed => 0x03

/-- A reply by its outcome class (R174), with the results or, for three refusals, the additions of A.1. -/
inductive Reply where
  | done (results : List Byte)
  | condition (c : Condition) (results : List Byte)
  | refused (e : StatusCode) (additions : List Byte)
deriving DecidableEq, Repr

/-- A reply's body: outcome class, code, then what follows (A.1). -/
def Reply.body : Reply → List Byte
  | .done r => 0 :: 0 :: r
  | .condition c r => 1 :: c.code :: r
  | .refused e r => 2 :: e.code :: r

/-- A refusal of two bytes alone (A.1). -/
def refuse (e : StatusCode) : Reply := .refused e []

/-- The frame that answers a frame: the code of the port it is sent on, the request code with its top bit set,
the master's tag byte (R173, R180, A.1). -/
def replyFrame (p : Port) (f : Frame) (r : Reply) : Frame where
  portCode := portCode p
  code := f.code ||| 0x80#8
  tag := f.tag
  body := r.body

/-- Every request, for the search of a code. -/
def Request.all : List Request :=
  [.setPlaten, .lineReset, .submitOrder, .holdOrder, .releaseOrder, .cancelOrder, .readOrder, .defineArtwork,
   .removeArtwork, .readArtwork, .artworkStaged, .artworkEvicted, .load, .unload, .bypassPretreat,
   .writeColourTable, .writeSizeMap, .writeDarkThreshold, .writeScrapLimit, .readLoadTables, .writeDoseTable,
   .refill, .readPretreat, .writeSpraySettings, .barClear, .readSprayBar, .registered, .registerFault, .nextSwath,
   .swathDone, .carriageParked, .readPrint, .readErrorRecord, .writeEngineProfile, .writeCureProfile, .readTunnel,
   .matchShirt, .scrap, .recure, .binClosed, .clearShelfSlot, .readPack, .quiesceStation, .resumeStation,
   .fetchNotice, .readStatus]

/-- A request code that names no request is reserved (R180). -/
def reservedCode (c : Byte) : Bool := !Request.all.any fun r => decide (r.code = c)

/-- The frame checks, in R173's order: port code, reserved code, port permission, body length (R173, R179, R180). -/
def frameRefusal (p : Port) (r : Request) (f : Frame) : Option StatusCode :=
  if f.portCode ≠ portCode p then some .wrongPort
  else if reservedCode f.code then some .badField
  else if !r.takenOn p then some .wrongPort
  else if !r.lengthOk f.body then some .badLength
  else none

/-- What a request does once its frame has passed the frame checks: its reply and the state after it. -/
abbrev Handler := Port → List Byte → State → Reply × State

/-- Port `p` takes the oldest frame of its input buffer as the request `r` (R172, R173): the frame leaves the
buffer, the frame checks and then the request's own checks decide, and the reply is sent.
A frame of a reserved code is taken by any request command (log entry 3). Where the buffer is empty or its
oldest frame is another request's, nothing is taken and nothing changes (log entry 2). -/
def serve (r : Request) (h : Handler) (p : Port) (s : State) : Host.Outcome State Fault Refusal :=
  match (s.port p).input with
  | [] => .next s
  | f :: rest =>
    if f.code = r.code ∨ reservedCode f.code = true then
      let s1 := s.setPort p { s.port p with input := rest }
      match frameRefusal p r f with
      | some e => .next (s1.send p (replyFrame p f (refuse e)))
      | none =>
        let out := h p f.body s1
        .next (out.2.send p (replyFrame p f out.1))
    else .next s

end Sys2Proof.Machine
end

