-- ==== Sys2Proof/Machine/Operands.lean ====
section
/-! DEFINITION. The operands of requests, read from the bytes of a body: numbered records, enumerations, order
handles (R22), garment tags (R15), SKUs, lists. -/

namespace Sys2Proof.Machine

/-- A byte that names one of `n` records, or no record when it is out of range. -/
def recordNo (n : Nat) (b : Byte) : Option (Fin n) :=
  if h : b.toNat < n then some ⟨b.toNat, h⟩ else none

/-- A size class code (A.2). -/
def sizeClassOf (b : Byte) : Option SizeClass :=
  if b = 0 then some .youth else if b = 1 then some .adult else if b = 2 then some .oversize else none

/-- A yes/no byte; any other value is out of range (R180). -/
def yesNoOf (b : Byte) : Option Bool := if b = 0 then some false else if b = 1 then some true else none

/-- A station code (A.2). -/
def stationOf (b : Byte) : Option Station :=
  if b = 0 then some .load else if b = 1 then some .pretreat else if b = 2 then some .print
  else if b = 3 then some .tunnel else none

/-- The three bytes of a SKU, or nothing when one is out of its range (A.2). -/
def skuOf (f c z : Byte) : Option Sku := do
  let fabric ← recordNo 8 f
  let colour ← recordNo 64 c
  let size ← recordNo 8 z
  pure { fabric := fabric, colour := colour, size := size }

/-- Bytes in pairs, as coverage entries: white, then colour (A.3). -/
def coverageOf : List Byte → List Coverage
  | w :: c :: rest => { white := w.toNat, colour := c.toNat } :: coverageOf rest
  | _ => []

/-- Bytes in pairs, as two-byte numbers (A.3). -/
def numbers2 : List Byte → List Nat
  | hi :: lo :: rest => number2 hi lo :: numbers2 rest
  | _ => []

/-- A table's entries from `first` onward take the values in list order (R50, R62). -/
def writeRun {n : Nat} (v : Vector Nat n) (first : Nat) (vals : List Nat) : Vector Nat n :=
  tableOf fun i => if first ≤ i.val then (vals[i.val - first]?).getD (tget v i) else tget v i

/-- The tag check of R15: the unit a tag's two bytes resolve to, with its record, or the refusal. -/
def resolveTag (hi lo : Byte) (s : State) : Except StatusCode (UnitNo × Shirt) :=
  let raw := number2 hi lo
  match (if h : raw % 64 < 40 then some (⟨raw % 64, h⟩ : UnitNo) else none) with
  | none => .error .unknownTag
  | some u =>
    match s.shirt u with
    | none => .error .unknownTag
    | some sh => if s.generation u = raw / 64 then .ok (u, sh) else .error .staleTag

/-- The handle check of R22: the order a handle's two bytes resolve to, or the refusal. -/
def resolveHandle (generation index : Byte) (s : State) : Except StatusCode (OrderNo × Order) :=
  match recordNo 128 index with
  | none => .error .badField
  | some i =>
    match (tget s.book.orders i).order with
    | none => .error .staleHandle
    | some o => if (tget s.book.orders i).generation = generation.toNat then .ok (i, o) else .error .staleHandle

/-- A request that names a unit: the tag check comes before its own checks (R15, R173). -/
def withTag (hi lo : Byte) (s : State) (k : UnitNo → Shirt → Reply × State) : Reply × State :=
  match resolveTag hi lo s with
  | .error e => (refuse e, s)
  | .ok (u, sh) => k u sh

/-- A request that names an order: the handle check comes before its own checks (R22, R173). -/
def withHandle (generation index : Byte) (s : State) (k : OrderNo → Order → Reply × State) : Reply × State :=
  match resolveHandle generation index s with
  | .error e => (refuse e, s)
  | .ok (i, o) => k i o

end Sys2Proof.Machine
end

