-- ==== Sys2Proof/Machine/Book.lean ====
section
/-! DEFINITION. The Order Book and what the other blocks share with it: needs and claims (R25), the adjustment a
freed unit makes (R26 to R28), the Active Order List (R29), the descriptor return (R37), bins (R155), the orphan
shelf (R157 to R159), the tunnel's entry test (R127), and the freeing of a unit (R16). -/

namespace Sys2Proof.Machine

/-! ### Descriptors and line records -/

/-- The order a descriptor holds, unless FREE. -/
def State.order (s : State) (i : OrderNo) : Option Order := (tget s.book.orders i).order

/-- The handle of the order a descriptor holds, as its generation stands (2.1). -/
def State.handleOf (s : State) (i : OrderNo) : Handle :=
  { generation := (tget s.book.orders i).generation, index := i }

/-- A line record. -/
def State.line (s : State) (n : LineNo) : Option Line := tget s.book.lines n

/-- The fields of a descriptor are written; its generation is kept. -/
def putOrder (i : OrderNo) (o : Option Order) (s : State) : State :=
  s.setBook { s.book with orders := tset s.book.orders i { tget s.book.orders i with order := o } }

/-- The fields of an order are revised; a FREE descriptor is left alone. -/
def modifyOrder (i : OrderNo) (f : Order → Order) (s : State) : State :=
  match s.order i with
  | some o => putOrder i (some (f o)) s
  | none => s

/-- A line record is written. -/
def putLine (n : LineNo) (l : Option Line) (s : State) : State :=
  s.setBook { s.book with lines := tset s.book.lines n l }

/-- The pool record of a line position of an order. -/
def lineNoOf (s : State) (i : OrderNo) (position : Fin 8) : Option LineNo :=
  (s.order i).bind fun o => o.lines[position.val]?

/-- The line records of an order in position order. -/
def linesOf (s : State) (o : Order) : List Line := o.lines.filterMap s.line

/-- The need of a line: quantity − good − in-flight (R25). -/
def Line.need (l : Line) : Nat := l.quantity - l.good - l.inFlight

/-- The total in-flight count of an order's lines (R35). -/
def totalInFlight (s : State) (o : Order) : Nat := ((linesOf s o).map (·.inFlight)).sum

/-- The good shirts of an order: the shirts in its bin (R155). -/
def totalGood (s : State) (o : Order) : Nat := ((linesOf s o).map (·.good)).sum

/-! ### The Active Order List (R29) -/

/-- Whether order `a` stands before order `b`: priority, then sequence (R29). -/
def Order.before (a b : Order) : Bool :=
  decide (a.priority < b.priority) || (decide (a.priority = b.priority) && decide (a.sequence < b.sequence))

/-- The list with an order put in its sorted place (R29). -/
def insertActive (s : State) (i : OrderNo) (o : Order) : List OrderNo → List OrderNo
  | [] => [i]
  | j :: rest =>
    match s.order j with
    | some oj => if o.before oj then i :: j :: rest else j :: insertActive s i o rest
    | none => j :: insertActive s i o rest

/-- An order joins the Active Order List (R29). -/
def joinActive (i : OrderNo) (s : State) : State :=
  match s.order i with
  | some o => s.setBook { s.book with active := insertActive s i o s.book.active }
  | none => s

/-- An order leaves the Active Order List (R29). -/
def leaveActive (i : OrderNo) (s : State) : State :=
  s.setBook { s.book with active := s.book.active.filter fun j => decide (j ≠ i) }

/-! ### The descriptor return (R37) -/

/-- The generation that follows a descriptor's: 255 advances to 1 (R21). -/
def nextOrderGeneration (g : Nat) : Nat := if g = Config.orderGenerationMax then 1 else g + 1

/-- The reference count of an artwork is revised (R40). -/
def setRefs (a : ArtworkNo) (f : Nat → Nat) (s : State) : State :=
  s.setArtworks (tset s.artworks a { tget s.artworks a with refs := f (tget s.artworks a).refs })

/-- One line record is returned to the pool and its artwork's reference count falls by 1 (R37 step 1). -/
def returnLine (s : State) (n : LineNo) : State :=
  match s.line n with
  | some l => putLine n none (setRefs l.artwork (fun r => r - 1) s)
  | none => s

/-- Steps 1 to 3 of R37: the lines go back, the descriptor becomes FREE and its generation advances. -/
def returnDescriptor (i : OrderNo) (s : State) : State :=
  match s.order i with
  | none => s
  | some o =>
    let s1 := o.lines.foldl returnLine s
    let freed : Descriptor :=
      { generation := nextOrderGeneration (tget s1.book.orders i).generation, order := none }
    s1.setBook { s1.book with orders := tset s1.book.orders i freed }

/-- The descriptor return with its ORDER FREED notice: the handle as it stood before the advance (R37). -/
def freeOrder (i : OrderNo) (cause : FreedCause) (s : State) : State :=
  match s.order i with
  | none => s
  | some o => post .order (.orderFreed (s.handleOf i) o.webNumber cause) (returnDescriptor i s)

/-! ### What a freed unit does to its line (R26 to R28) -/

/-- How a unit's life ended (R16). -/
inductive Disposition where
  | unloaded | binned | scrapped | orphaned | lost | lineReset
deriving DecidableEq, Repr

/-- A line's counts after one of its units is freed (R26). -/
def Line.adjusted (d : Disposition) (l : Line) : Line :=
  match d with
  | .binned => { l with inFlight := l.inFlight - 1, good := l.good + 1 }
  | .scrapped =>
    { l with inFlight := l.inFlight - 1, scrap := if l.scrap < Config.scrapCountMax then l.scrap + 1 else l.scrap }
  | .unloaded | .orphaned | .lost | .lineReset => { l with inFlight := l.inFlight - 1 }

/-- The return check (R26): a CANCELLING order with no shirt in flight returns to FREE. -/
def returnCheck (i : OrderNo) (s : State) : State :=
  match s.order i with
  | some o => if o.state = .cancelling ∧ totalInFlight s o = 0 then freeOrder i .cancelled s else s
  | none => s

/-- The scrap-limit check (R27), given the line's scrap count before and after. -/
def scrapLimitCheck (i : OrderNo) (position : Fin 8) (before after : Nat) (s : State) : State :=
  match s.order i with
  | none => s
  | some o =>
    if (o.state = .active ∨ o.state = .held) ∧ before ≤ s.load.scrapLimit ∧ s.load.scrapLimit < after then
      post .order (.orderHeldScrap (s.handleOf i) o.webNumber position.val)
        (leaveActive i (putOrder i (some { o with state := .held, holdReason := some .scrapLimit }) s))
    else s

/-- Every line of an order holds good equal to its quantity (R28). -/
def allGood (s : State) (o : Order) : Bool := (linesOf s o).all fun l => decide (l.good = l.quantity)

/-- The completion check (R28). -/
def completionCheck (i : OrderNo) (s : State) : State :=
  match s.order i with
  | none => s
  | some o =>
    if allGood s o then
      let h := s.handleOf i
      post .pack (.binReady o.bin h o.webNumber)
        (post .order (.orderComplete h o.webNumber o.bin)
          (leaveActive i (putOrder i (some { o with state := .complete, holdReason := none }) s)))
    else s

/-- What follows the adjustment of a line, by disposition (R26). -/
def afterAdjust (i : OrderNo) (position : Fin 8) (d : Disposition) (before after : Line) (s : State) : State :=
  match d with
  | .binned => completionCheck i s
  | .scrapped =>
    match s.order i with
    | some o =>
      if o.state = .cancelling then returnCheck i s else scrapLimitCheck i position before.scrap after.scrap s
    | none => s
  | .unloaded | .orphaned | .lost => returnCheck i s
  | .lineReset => s

/-- The Order Book is given a freed unit's handle, line position and disposition (R16 step 2, R26). -/
def bookFreed (h : Handle) (position : Fin 8) (d : Disposition) (s : State) : State :=
  match lineNoOf s h.index position with
  | none => s
  | some n =>
    match s.line n with
    | none => s
    | some l => afterAdjust h.index position d l (l.adjusted d) (putLine n (some (l.adjusted d)) s)

/-! ### The tunnel's entry test (R127) -/

/-- The entry test: RUNNING, TUNNEL READY, room in the tunnel queue and in the exit list (R127). -/
def entryTest (s : State) : Bool :=
  decide (s.tunnel.quiesce = .running) && s.tunnel.ready
    && decide (s.tunnel.queue.length < Config.tunnelQueueMax) && decide (s.pack.exits.length < Config.exitListMax)

/-- The Tunnel station follows the entry test while it holds a unit (R127). -/
def retest (s : State) : State :=
  match s.tunnel.state with
  | .idle => s
  | .transferWait | .inhibited =>
    s.setTunnel { s.tunnel with state := if entryTest s then .transferWait else .inhibited }

/-- A unit's record leaves the tunnel queue; those behind keep their order (R125). A removal that empties the
queue completes a pending quiesce (R133), and the entry test is made again (R127). -/
def leaveQueue (u : UnitNo) (s : State) : State :=
  if s.tunnel.queue.any fun r => decide (r.unit = u) then
    let s1 := s.setTunnel { s.tunnel with queue := s.tunnel.queue.filter fun r => decide (r.unit ≠ u) }
    retest (if s1.tunnel.queue.isEmpty then completeQuiesce .tunnel s1 else s1)
  else s

/-- A record naming a unit joins the queue's tail with the current belt position (R125, R127). -/
def joinQueue (u : UnitNo) (s : State) : State :=
  retest (s.setTunnel { s.tunnel with queue := s.tunnel.queue ++ [{ unit := u, entry := s.tunnel.belt }] })

/-- A unit's entry leaves the exit list; those behind keep their order, and the entry test is made again (R144). -/
def leaveExits (u : UnitNo) (s : State) : State :=
  if s.pack.exits.any fun v => decide (v = u) then
    retest (s.setPack { s.pack with exits := s.pack.exits.filter fun v => decide (v ≠ u) })
  else s

/-- A unit joins the exit list's tail and is EXITED; the entry test is made again (R144, R13). -/
def joinExits (u : UnitNo) (s : State) : State :=
  retest (setUnitState u .exited (s.setPack { s.pack with exits := s.pack.exits ++ [u] }))

/-! ### Freeing a unit (R16) -/

/-- A unit leaves its platen: both fields become absent (R14). -/
def leavePlaten (u : UnitNo) (s : State) : State :=
  match (s.shirt u).bind (·.platen) with
  | some p => modifyShirt u (fun sh => { sh with platen := none }) (setPlatenUnit p none s)
  | none => s

/-- A unit is removed from its place (R16 step 1). -/
def leavePlace (u : UnitNo) (s : State) : State := leaveExits u (leaveQueue u (leavePlaten u s))

/-- A unit is freed with a disposition (R16): it leaves its place, the Order Book adjusts its line, its record is
cleared. A tunnel quiesce that the removal completes is posted before the Order Book's notices (log entry 13). -/
def freeUnit (d : Disposition) (u : UnitNo) (s : State) : State :=
  match s.shirt u with
  | none => s
  | some sh => clearUnit u (bookFreed sh.order sh.line d (leavePlace u s))

/-! ### Bins (R155) -/

/-- The lowest-numbered free bin (R155). -/
def lowestFreeBin (s : State) : Option BinNo := lowest s.pack.bins fun b => b.isNone

/-- The state in which an order holds a bin: its own, or the lowest-numbered free bin given to it; none where no
bin is free (R148, R155, R159). -/
def assignBin (i : OrderNo) (s : State) : Option (BinNo × State) :=
  match s.order i with
  | none => none
  | some o =>
    match o.bin with
    | some b => some (b, s)
    | none =>
      match lowestFreeBin s with
      | none => none
      | some b =>
        let s1 := s.setPack { s.pack with bins := tset s.pack.bins b (some (s.handleOf i)) }
        some (b, putOrder i (some { o with bin := some b }) s1)

/-- A bin becomes free and its order's bin field absent (R155). -/
def releaseBin (b : BinNo) (i : OrderNo) (s : State) : State :=
  modifyOrder i (fun o => { o with bin := none }) (s.setPack { s.pack with bins := tset s.pack.bins b none })

/-! ### The orphan shelf (R158) -/

/-- The lowest-numbered empty slot (R158). -/
def lowestFreeSlot (s : State) : Option SlotNo := lowest s.pack.shelf fun e => e.isNone

/-- A shelf entry is made in a slot, as the newest of the age order (R158). -/
def placeEntry (sl : SlotNo) (a : ArtworkNo) (k : Sku) (s : State) : State :=
  s.setPack { s.pack with
    shelf := tset s.pack.shelf sl (some { artwork := a, sku := k, stamp := s.time.now })
    age := s.pack.age ++ [sl] }

/-- An entry leaves the shelf and its age order (R158). -/
def removeEntry (sl : SlotNo) (s : State) : State :=
  s.setPack { s.pack with
    shelf := tset s.pack.shelf sl none
    age := s.pack.age.filter fun x => decide (x ≠ sl) }

/-- The oldest entry in the age order with an artwork and a SKU (R159 step 2). -/
def oldestMatch (s : State) (a : ArtworkNo) (k : Sku) : Option SlotNo :=
  s.pack.age.find? fun sl =>
    match tget s.pack.shelf sl with
    | some e => decide (e.artwork = a) && decide (e.sku = k)
    | none => false

/-- A run of orphan uptake: the state, the shirts taken, and whether it has stopped for want of a bin. -/
structure Uptake where
  state : State
  taken : Nat
  stopped : Bool

/-- Orphan uptake on one line (R159): while the line has need and the shelf a matching entry, the oldest one
leaves the shelf for the order's bin. `fuel` bounds the repeats by the shelf's slots. -/
def uptakeLine (i : OrderNo) (n : LineNo) : Nat → Uptake → Uptake
  | 0, r => r
  | fuel + 1, r =>
    if r.stopped then r
    else
      match r.state.line n with
      | none => r
      | some l =>
        match oldestMatch r.state l.artwork l.sku with
        | none => r
        | some sl =>
          if l.need = 0 then r
          else
            match assignBin i r.state with
            | none => { r with stopped := true }
            | some (b, s1) =>
              let s2 := putLine n (some { l with good := l.good + 1 }) (removeEntry sl s1)
              let s3 := post .pack (.shelfToBin sl b (s2.handleOf i) l.position.val) s2
              uptakeLine i n fuel { state := completionCheck i s3, taken := r.taken + 1, stopped := false }

/-- Orphan uptake for an order: its lines in position order (R159). -/
def orphanUptake (i : OrderNo) (s : State) : State × Nat :=
  match s.order i with
  | none => (s, 0)
  | some o =>
    let r := o.lines.foldl (fun r n => uptakeLine i n 16 r) { state := s, taken := 0, stopped := false }
    (r.state, r.taken)

/-- A count of shirts moved to the shelf and of shirts wasted (R157). -/
structure Emptying where
  state : State
  made : Nat
  wasted : Nat

/-- One good shirt of a cancelled order goes to the lowest-numbered free slot, or is wasted (R157). -/
def shelveOne (a : ArtworkNo) (k : Sku) (r : Emptying) : Emptying :=
  match lowestFreeSlot r.state with
  | some sl => { r with state := placeEntry sl a k r.state, made := r.made + 1 }
  | none => { r with wasted := r.wasted + 1 }

/-- The good shirts of one line go to the shelf (R157). -/
def shelveLine (r : Emptying) (l : Line) : Emptying :=
  (List.replicate l.good ()).foldl (fun r _ => shelveOne l.artwork l.sku r) r

/-- A cancelled order's bin is emptied to the shelf and freed, and BIN TO SHELF is posted (R35 step 2, R157). -/
def emptyBin (i : OrderNo) (s : State) : State :=
  match s.order i with
  | none => s
  | some o =>
    match o.bin with
    | none => s
    | some b =>
      let r := (linesOf s o).foldl shelveLine { state := s, made := 0, wasted := 0 }
      post .pack (.binToShelf b r.made r.wasted (s.handleOf i)) (releaseBin b i r.state)

end Sys2Proof.Machine
end

