-- ==== Sys2Proof/Machine/Print.lean ====
section
/-! DEFINITION. Chapter 6: the traverse plan (R102, R103), the Print station's arrival, start test and release
(R97, R98, R111), registration, the swath pipeline, the watchdog, the print error record, and their requests. -/

namespace Sys2Proof.Machine

/-! ### The traverse plan (R102, R103) -/

/-- A band's coverage in a layer. -/
def Coverage.inLayer (c : Coverage) : Layer → Nat
  | .white => c.white
  | .colour => c.colour

/-- The coverage of a band in a layer, 0 where the artwork has no such band. -/
def Design.coverageAt (d : Design) (l : Layer) (b : Nat) : Nat := ((d.coverage[b]?).map (·.inLayer l)).getD 0

/-- A band is needed in a layer when its coverage there is above 0 (R102). -/
def Design.needed (d : Design) (l : Layer) (b : Nat) : Bool := decide (0 < d.coverageAt l b)

/-- The number of pairs: ceil(b / 2) (6.4). -/
def Design.pairs (d : Design) : Nat := (d.coverage.length + 1) / 2

/-- A pair of which a band is needed in the layer; the others are skipped (R102). -/
def Design.takesPair (d : Design) (l : Layer) (k : Nat) : Bool := d.needed l (2 * k) || d.needed l (2 * k + 1)

/-- The pass count of a layer (6.4). -/
def Design.passes (d : Design) : Layer → Nat
  | .white => d.whitePasses
  | .colour => d.colourPasses

/-- The first pair not skipped in a layer, from a pair onward. -/
def Design.firstPair (d : Design) (l : Layer) (k : Nat) : Option Nat :=
  (List.range d.pairs).find? fun j => decide (k ≤ j) && d.takesPair l j

/-- Half 0 of repeat 0 of the first pair not skipped in a layer, from a pair onward. -/
def Design.enter (d : Design) (l : Layer) (k : Nat) : Option Cursor :=
  (d.firstPair l k).map fun j => .at { layer := l, pair := j, rep := 0, half := 0 }

/-- The cursor at registration: a dark unit takes WHITE, then COLOUR; a light one COLOUR alone (R102, R103). -/
def Design.firstCursor (d : Design) (dark : Bool) : Cursor :=
  match (if dark then d.enter .white 0 else none) with
  | some c => c
  | none => (d.enter .colour 0).getD .finished

/-- The cursor after a traverse (R103). -/
def Design.nextCursor (d : Design) (t : Traverse) : Cursor :=
  if t.half = 0 then .at { t with half := 1 }
  else if t.rep + 1 < d.passes t.layer then .at { t with rep := t.rep + 1, half := 0 }
  else
    match d.enter t.layer (t.pair + 1) with
    | some c => c
    | none =>
      match t.layer with
      | .white => (d.enter .colour 0).getD .finished
      | .colour => .finished

/-- The band of a traverse (R102). -/
def Design.bandOf (d : Design) (t : Traverse) : Nat :=
  if t.half = 0 then 2 * t.pair
  else if 2 * t.pair + 1 < d.coverage.length then 2 * t.pair + 1 else 2 * t.pair

/-- Whether a traverse is FIRE (R102): its half's own band exists and is needed. -/
def Design.fires (d : Design) (t : Traverse) : Bool :=
  if t.half = 0 then d.needed t.layer (2 * t.pair) else d.needed t.layer (2 * t.pair + 1)

/-- The swath order of a traverse (R102, R105). -/
def Design.swathOf (d : Design) (number : Nat) (tag : Tag) (t : Traverse) : SwathOrder where
  number := number
  tag := tag
  band := d.bandOf t
  layer := t.layer
  direction := if t.half = 0 then .forward else .reverse
  fire := d.fires t
  rep := t.rep

/-! ### The watchdog (R112) -/

/-- The watchdog is started: the Time Base value and the engine profile's limit (R112). -/
def startWatchdog (s : State) : State :=
  s.setPrint { s.print with watchdog := some { start := s.time.now, limit := s.print.watchdogLimit } }

/-- The watchdog is stopped (R112). -/
def stopWatchdog (s : State) : State := s.setPrint { s.print with watchdog := none }

/-- WATCHDOG_EXPIRY is due: the limit has elapsed from the start time (R112). -/
def watchdogDue (s : State) : Bool :=
  match s.print.watchdog with
  | some w => decide (w.limit ≤ elapsedSince s w.start)
  | none => false

/-! ### The print error record (R115) -/

/-- A fault is written to the print error record (R115). -/
def writePrintError (cause : PrintCause) (tag : Tag) (place : Option SwathPlace) (s : State) : State :=
  match s.print.errorRecord with
  | none =>
    post .order (.printFault cause tag)
      (s.setPrint { s.print with
        errorRecord := some { cause := cause, tag := tag, place := place, stamp := s.time.now }, errorCount := 0 })
  | some _ =>
    s.setPrint { s.print with
      errorCount := if s.print.errorCount < 255 then s.print.errorCount + 1 else s.print.errorCount }

/-! ### Start test and release (R97, R98, R111) -/

/-- The station's state is replaced (R96). -/
def setPrintState (st : PrintState) (s : State) : State := s.setPrint { s.print with state := st }

/-- Registration begins (R98). -/
def beginRegistration (u : UnitNo) (sh : Shirt) (s : State) : State :=
  let s1 := s.setPrint { s.print with terminated := [], state := .registering }
  let bands := ((designOf s sh).map fun d => d.coverage.length).getD 0
  startWatchdog (post .engine (.platenReady (s.tagOf u) sh.artwork bands sh.dark) s1)

/-- WAIT ARTWORK, with STAGE NEEDED posted at most once for a held unit (R98). -/
def waitArtwork (u : UnitNo) (sh : Shirt) (s : State) : State :=
  let s1 := setPrintState .waitArtwork s
  if s.print.stageAsked then s1
  else post .engine (.stageNeeded sh.artwork (s.tagOf u)) (s1.setPrint { s1.print with stageAsked := true })

/-- The Print station's start test for its held unit (R98). -/
def printStartTestFor (u : UnitNo) (sh : Shirt) (s : State) : State :=
  if s.print.quiesce ≠ .running then setPrintState .quiesceWait s
  else if (tget s.artworks sh.artwork).staged then beginRegistration u sh s
  else waitArtwork u sh s

/-- The start test for the held unit (R98, R99). -/
def printStartTest (s : State) : State :=
  match s.print.held with
  | none => s
  | some t =>
    match s.shirt t.unit with
    | some sh => printStartTestFor t.unit sh s
    | none => s

/-- The station releases its hold and is IDLE with no held unit (R111, R119). -/
def printRelease (s : State) : State :=
  releaseHold .print (s.setPrint { s.print with state := .idle, held := none, stageAsked := false })

/-- Release of the held unit (R111). -/
def releasePrinted (s : State) : State :=
  match s.print.held with
  | none => s
  | some t =>
    let s1 := setUnitState t.unit .printed s
    let s2 := s1.setPrint { s1.print with watchdog := none, cursor := none }
    completeQuiesce .print (printRelease s2)

/-- An unpretreated unit: LOADED and bypassed, or faulted at the bar (5.7). -/
def Shirt.unpretreated (sh : Shirt) : Bool :=
  (decide (sh.state = .loaded) && sh.flags.bypassed) || decide (sh.fault = some .pretreatFault)

/-- The pretreatment test of R94 leaves a unit unprinted: dark and unpretreated. -/
def Shirt.notPrinted (sh : Shirt) : Bool := sh.dark && sh.unpretreated

/-- The Print station takes its platen-arrived event (R97, R94). A dark bypassed unit is given NO PRETREAT, where
it has no fault already. -/
def printArrival (s : State) : State :=
  match s.ring.arrivals.print with
  | none => s
  | some a =>
    let s1 := takeArrival .print s
    match (tget s1.ring.platens a.platen).unit with
    | none => releaseHold .print s1
    | some u =>
      match s1.shirt u with
      | none => releaseHold .print s1
      | some sh =>
        if sh.notPrinted then releaseHold .print (noteFault u .noPretreat s1)
        else
          let s2 := s1.setPrint { s1.print with held := some (s1.tagOf u), stageAsked := false }
          printStartTest (setUnitState u .printing s2)

/-- PRINT_ARRIVAL (R97). Where no event waits to be taken nothing changes (log entry 9). -/
def execPrintArrival (s : State) : Host.Outcome State Fault Refusal := .next (printArrival s)

/-- The station works with the engine on its held unit, whose artwork is then engaged (R96, R44). -/
def PrintState.working : PrintState → Bool
  | .registering | .passing | .aborting | .parking => true
  | .idle | .quiesceWait | .waitArtwork => false

/-- The artwork of the Print station's held unit. -/
def heldArtwork (s : State) : Option ArtworkNo :=
  s.print.held.bind fun t => (s.shirt t.unit).map (·.artwork)

/-! ### Registration (R100, R101) -/

/-- An accepted REGISTERED (R100): print record, cursor, watchdog, PASSING; a plan with no traverse is complete. -/
def acceptRegistered (u : UnitNo) (sh : Shirt) (s : State) : State :=
  let cursor := ((designOf s sh).map fun d => d.firstCursor sh.dark).getD .finished
  let s1 := modifyShirt u (fun x => { x with print := some { white := 0, colour := 0, fired := 0, dry := 0 } }) s
  let s2 := s1.setPrint { s1.print with cursor := some cursor, watchdog := none, state := .passing }
  if cursor = .finished then releasePrinted s2 else s2

/-- REGISTERED by R100's cases. -/
def registered : Handler := fun _ body s =>
  match body with
  | [hi, lo] =>
    withTag hi lo s fun u sh =>
      if s.print.lateTag = some (s.tagOf u) then (refuse .late, s)
      else if s.print.state = .registering then
        if s.print.held = some (s.tagOf u) then (.done [], acceptRegistered u sh s) else (refuse .sequence, s)
      else if s.print.state = .passing ∧ s.print.held = some (s.tagOf u) then (.condition .already [], s)
      else (refuse .state, s)
  | _ => (refuse .badLength, s)

/-- REGISTERED (R100). -/
def execRegistered (p : Port) (s : State) : Host.Outcome State Fault Refusal := serve .registered registered p s

/-- An accepted REGISTER FAULT (R101). -/
def acceptRegisterFault (u : UnitNo) (s : State) : State :=
  let s1 := writePrintError .registerFault (s.tagOf u) none (noteFault u .registerFault s)
  releasePrinted (stopWatchdog s1)

/-- REGISTER FAULT by R101's cases. -/
def registerFault : Handler := fun _ body s =>
  match body with
  | [hi, lo] =>
    withTag hi lo s fun u _ =>
      if s.print.lateTag = some (s.tagOf u) then (refuse .late, s)
      else if s.print.state = .registering then
        if s.print.held = some (s.tagOf u) then (.done [], acceptRegisterFault u s) else (refuse .sequence, s)
      else (refuse .state, s)
  | _ => (refuse .badLength, s)

/-- REGISTER_FAULT (R101). -/
def execRegisterFault (p : Port) (s : State) : Host.Outcome State Fault Refusal := serve .registerFault registerFault p s

/-! ### Issue (R104, R105) -/

/-- The reply kinds of NEXT SWATH (R104). -/
inductive SwathReply where
  | swath | wait | waitPipeline | waitDrain | waitAbort | noUnit
deriving DecidableEq, Repr

/-- The codes of the reply kinds (A.4). -/
def SwathReply.code : SwathReply → Nat
  | .swath => 0
  | .wait => 1
  | .waitPipeline => 2
  | .waitDrain => 3
  | .waitAbort => 4
  | .noUnit => 5

/-- A bubble (R104). -/
def bubble (k : SwathReply) : Reply := .done (bytes1 k.code)

/-- The design of the Print station's held unit. -/
def heldDesign (s : State) : Option Design :=
  s.print.held.bind fun t => (s.shirt t.unit).bind fun sh => designOf s sh

/-- A swath order is issued from the cursor's traverse (R105). -/
def issueSwath (d : Design) (tag : Tag) (t : Traverse) (s : State) : SwathOrder × State :=
  let o := d.swathOf s.print.nextNumber tag t
  let s1 := s.setPrint { s.print with
    inFlight := s.print.inFlight ++ [o]
    nextNumber := (s.print.nextNumber + 1) % 256
    cursor := some (d.nextCursor t) }
  (o, if s.print.inFlight.isEmpty then startWatchdog s1 else s1)

/-- NEXT SWATH by R104's table. -/
def nextSwath : Handler := fun _ _ s =>
  match s.print.state with
  | .idle => (bubble .noUnit, s)
  | .quiesceWait | .waitArtwork | .registering => (bubble .wait, s)
  | .aborting | .parking => (bubble .waitAbort, s)
  | .passing =>
    match s.print.cursor, s.print.held, heldDesign s with
    | some (.at t), some tag, some d =>
      if s.print.inFlight.length < Config.inFlightMax then
        let out := issueSwath d tag t s
        (.done (bytes1 SwathReply.swath.code ++ swathBytes out.1), out.2)
      else (bubble .waitPipeline, s)
    | _, _, _ => (bubble .waitDrain, s)

/-- NEXT_SWATH (R104). -/
def execNextSwath (p : Port) (s : State) : Host.Outcome State Fault Refusal := serve .nextSwath nextSwath p s

/-! ### Completion (R106 to R109) -/

/-- The oldest order has left the list: the watchdog starts afresh for the next, or stops (R107, R108, R113). -/
def afterOldest (rest : List SwathOrder) (s : State) : State :=
  let s1 := s.setPrint { s.print with inFlight := rest }
  if rest.isEmpty then stopWatchdog s1 else startWatchdog s1

/-- A swath's ink and count go to the unit's print record (R107 step 2). -/
def countSwath (o : SwathOrder) (load : Nat) (r : PrintRecord) : PrintRecord :=
  if o.fire then
    match o.layer with
    | .white => { r with white := r.white + load, fired := r.fired + 1 }
    | .colour => { r with colour := r.colour + load, fired := r.fired + 1 }
  else { r with dry := r.dry + 1 }

/-- The unit of a swath order is credited with it (R107 step 2). -/
def creditSwath (o : SwathOrder) (s : State) : State :=
  let load := ((heldDesign s).map fun d => d.coverageAt o.layer o.band).getD 0
  modifyShirt o.tag.unit (fun sh => { sh with print := sh.print.map (countSwath o load) }) s

/-- In ABORTING with the in-flight list empty the station becomes PARKING (R108, R109, R113). -/
def parkIfDrained (s : State) : State :=
  if s.print.state = .aborting ∧ s.print.inFlight = [] then setPrintState .parking s else s

/-- An accepted SWATH DONE with result OK (R107, R109). -/
def swathOk (o : SwathOrder) (rest : List SwathOrder) (s : State) : State :=
  let s1 := afterOldest rest (creditSwath o s)
  if s1.print.state = .passing ∧ s1.print.cursor = some .finished ∧ rest = [] then releasePrinted s1
  else parkIfDrained s1

/-- The place of a swath order, as the print error record takes it (R115). -/
def SwathOrder.place (o : SwathOrder) : SwathPlace := { band := o.band, layer := o.layer, number := o.number }

/-- A failed swath (R108, R113): in PASSING the unit is faulted; the failure is recorded; the station is ABORTING,
or PARKING when nothing is in flight. -/
def abortPrint (o : SwathOrder) (f : UnitFault) (cause : PrintCause) (s : State) : State :=
  let s1 := if s.print.state = .passing then noteFault o.tag.unit f s else s
  let s2 := writePrintError cause o.tag (some o.place) s1
  parkIfDrained (setPrintState .aborting s2)

/-- An accepted SWATH DONE with a failure (R108). -/
def swathFailed (o : SwathOrder) (rest : List SwathOrder) (cause : PrintCause) (s : State) : State :=
  abortPrint o .printAbort cause (afterOldest rest s)

/-- An accepted SWATH DONE by its result (R106). -/
def swathReported (o : SwathOrder) (rest : List SwathOrder) (result : Byte) (s : State) : State :=
  if result = 0 then swathOk o rest s
  else if result = 1 then swathFailed o rest .nozzle s
  else swathFailed o rest .strike s

/-- SWATH DONE by R106's cases. -/
def swathDone : Handler := fun _ body s =>
  match body with
  | [n, result] =>
    if 2 < result.toNat then (refuse .badField, s)
    else if n.toNat ∈ s.print.terminated then (refuse .late, s)
    else if s.print.state ≠ .passing ∧ s.print.state ≠ .aborting then (refuse .state, s)
    else
      match s.print.inFlight with
      | o :: rest => if o.number = n.toNat then (.done [], swathReported o rest result s) else (refuse .sequence, s)
      | [] => (refuse .sequence, s)
  | _ => (refuse .badLength, s)

/-- SWATH_DONE (R106). -/
def execSwathDone (p : Port) (s : State) : Host.Outcome State Fault Refusal := serve .swathDone swathDone p s

/-- CARRIAGE PARKED by R110's cases. -/
def carriageParked : Handler := fun _ body s =>
  match body with
  | [hi, lo] =>
    withTag hi lo s fun u _ =>
      if s.print.state = .parking then
        if s.print.held = some (s.tagOf u) then (.done [], releasePrinted s) else (refuse .sequence, s)
      else (refuse .state, s)
  | _ => (refuse .badLength, s)

/-- CARRIAGE_PARKED (R110). -/
def execCarriageParked (p : Port) (s : State) : Host.Outcome State Fault Refusal := serve .carriageParked carriageParked p s

/-! ### The watchdog's expiry (R113) -/

/-- The registration is ended by the watchdog (R113). -/
def registrationTimeout (t : Tag) (s : State) : State :=
  let s1 := s.setPrint { s.print with lateTag := some t }
  releasePrinted (writePrintError .registerTimeout t none (noteFault t.unit .registerTimeout s1))

/-- The oldest order is terminated by the watchdog (R113). -/
def terminateOldest (o : SwathOrder) (rest : List SwathOrder) (s : State) : State :=
  let s1 := s.setPrint { s.print with terminated := s.print.terminated ++ [o.number] }
  abortPrint o .swathTimeout .swathTimeout (afterOldest rest s1)

/-- The watchdog's expiry by R113's table. -/
def watchdogExpiry (s : State) : State :=
  match s.print.state with
  | .registering =>
    match s.print.held with
    | some t => registrationTimeout t s
    | none => s
  | .passing | .aborting =>
    match s.print.inFlight with
    | o :: rest => terminateOldest o rest s
    | [] => s
  | .idle | .quiesceWait | .waitArtwork | .parking => s

/-- WATCHDOG_EXPIRY (R113). Before the limit has elapsed nothing changes (log entry 8). -/
def execWatchdogExpiry (s : State) : Host.Outcome State Fault Refusal :=
  .next (if watchdogDue s then watchdogExpiry s else s)

/-! ### The other requests of chapter 6 -/

/-- READ ERROR RECORD (R116): the record and its count are returned, then emptied. -/
def readErrorRecord : Handler := fun _ _ s =>
  let emptied := s.setPrint { s.print with errorRecord := none, errorCount := 0 }
  match s.print.errorRecord with
  | none => (.done (List.replicate 12 0), emptied)
  | some e =>
    (.done (bytes1 1 ++ bytes1 e.cause.code ++ tagBytes e.tag ++ orNone 1 (fun x => bytes1 x.band) e.place
        ++ orNone 1 (fun x => bytes1 x.layer.code) e.place ++ orNone 1 (fun x => bytes1 x.number) e.place
        ++ bytes4 e.stamp.toNat ++ bytes1 s.print.errorCount), emptied)

/-- READ_ERROR_RECORD (R116). -/
def execReadErrorRecord (p : Port) (s : State) : Host.Outcome State Fault Refusal :=
  serve .readErrorRecord readErrorRecord p s

/-- WRITE ENGINE PROFILE (R117). -/
def writeEngineProfile : Handler := fun _ body s =>
  match body with
  | [hi, lo] =>
    let limit := number2 hi lo
    if limit ≠ 2000 ∧ limit ≠ 4000 ∧ limit ≠ 8000 ∧ limit ≠ 16000 then (refuse .badField, s)
    else if s.print.quiesce ≠ .quiesced then (refuse .notQuiesced, s)
    else (.done [], s.setPrint { s.print with watchdogLimit := limit })
  | _ => (refuse .badLength, s)

/-- WRITE_ENGINE_PROFILE (R117). -/
def execWriteEngineProfile (p : Port) (s : State) : Host.Outcome State Fault Refusal :=
  serve .writeEngineProfile writeEngineProfile p s

/-- The print record of the held unit, where present (R121). -/
def heldPrintRecord (s : State) : Option PrintRecord :=
  s.print.held.bind fun t => (s.shirt t.unit).bind (·.print)

/-- The terminated list in three places, unused places none (A.7). -/
def terminatedBytes (l : List Nat) : List Byte :=
  orNone 1 bytes1 l[0]? ++ orNone 1 bytes1 l[1]? ++ orNone 1 bytes1 l[2]?

/-- READ PRINT (R121, A.7). A stopped watchdog's elapsed time and an absent print record hold none (log entry 16). -/
def readPrint : Handler := fun _ _ s =>
  let x := s.print
  let rec_ := heldPrintRecord s
  let results :=
    bytes1 x.state.code ++ bytes1 x.quiesce.code ++ bytes2 x.watchdogLimit ++ orNone 2 tagBytes x.held
      ++ orNone 1 (fun a => bytes1 a.val) (heldArtwork s) ++ bytes1 (yesNoCode x.stageAsked) ++ cursorBytes x.cursor
      ++ bytes1 x.nextNumber ++ orNone 2 tagBytes x.lateTag ++ terminatedBytes x.terminated
      ++ orNone 2 (fun w => bytes2 (elapsedSince s w.start)) x.watchdog
      ++ orNone 2 (fun r => bytes2 r.white) rec_ ++ orNone 2 (fun r => bytes2 r.colour) rec_
      ++ orNone 1 (fun r => bytes1 r.fired) rec_ ++ orNone 1 (fun r => bytes1 r.dry) rec_
      ++ bytes1 (yesNoCode x.errorRecord.isSome) ++ bytes1 x.errorCount ++ bytes1 x.inFlight.length
      ++ x.inFlight.flatMap swathBytes
  (.done results, s)

/-- READ_PRINT (R121). -/
def execReadPrint (p : Port) (s : State) : Host.Outcome State Fault Refusal := serve .readPrint readPrint p s

end Sys2Proof.Machine
end

