-- ==== Sys2Proof/Machine/Artworks.lean ====
section
/-! DEFINITION. The artwork requests of chapter 2: DEFINE, REMOVE, READ ARTWORK, and the staging reports. -/

namespace Sys2Proof.Machine

/-- An artwork descriptor is written. -/
def putArtwork (a : ArtworkNo) (x : Artwork) (s : State) : State := s.setArtworks (tset s.artworks a x)

/-- DEFINE ARTWORK (R41): fields, then IN USE for a DEFINED descriptor. -/
def defineArtwork : Handler := fun _ body s =>
  match body with
  | num :: bands :: mask :: white :: colour :: rest =>
    match recordNo 64 num with
    | none => (refuse .badField, s)
    | some a =>
      if bands.toNat = 0 ∨ 24 < bands.toNat ∨ mask = 0 ∨ white.toNat = 0 ∨ 2 < white.toNat ∨ colour.toNat = 0
          ∨ 4 < colour.toNat then (refuse .badField, s)
      else if (tget s.artworks a).design.isSome then (refuse .inUse, s)
      else
        let d : Design :=
          { zoneMask := mask, whitePasses := white.toNat, colourPasses := colour.toNat, coverage := coverageOf rest }
        (.done [], putArtwork a { design := some d, refs := 0, staged := false } s)
  | _ => (refuse .badLength, s)

/-- DEFINE_ARTWORK (R41). -/
def execDefineArtwork (p : Port) (s : State) : Host.Outcome State Fault Refusal := serve .defineArtwork defineArtwork p s

/-- REMOVE ARTWORK (R42): EMPTY again, with ARTWORK REMOVED posted where it was staged. -/
def removeArtwork : Handler := fun _ body s =>
  match body with
  | [num] =>
    match recordNo 64 num with
    | none => (refuse .badField, s)
    | some a =>
      let x := tget s.artworks a
      if x.design.isNone then (refuse .state, s)
      else if 0 < x.refs then (refuse .inUse, s)
      else
        let s1 := putArtwork a .empty s
        (.done [], if x.staged then post .engine (.artworkRemoved a) s1 else s1)
  | _ => (refuse .badLength, s)

/-- REMOVE_ARTWORK (R42). -/
def execRemoveArtwork (p : Port) (s : State) : Host.Outcome State Fault Refusal := serve .removeArtwork removeArtwork p s

/-- The Print station waits in WAIT ARTWORK for a unit of an artwork (R43, R99). -/
def awaitsArtwork (s : State) (a : ArtworkNo) : Bool :=
  decide (s.print.state = .waitArtwork) && decide (heldArtwork s = some a)

/-- ARTWORK STAGED by R43's table. -/
def artworkStaged : Handler := fun _ body s =>
  match body with
  | [num] =>
    match recordNo 64 num with
    | none => (refuse .badField, s)
    | some a =>
      let x := tget s.artworks a
      if x.design.isNone then (refuse .state, s)
      else if x.staged then (.condition .already [], s)
      else if Config.stagedMax ≤ stagedCount s then (refuse .full, s)
      else
        let s1 := putArtwork a { x with staged := true } s
        (.done [], if awaitsArtwork s1 a then printStartTest s1 else s1)
  | _ => (refuse .badLength, s)

/-- ARTWORK_STAGED (R43). -/
def execArtworkStaged (p : Port) (s : State) : Host.Outcome State Fault Refusal := serve .artworkStaged artworkStaged p s

/-- A staged artwork is engaged while the Print station works with the engine on a unit of it (R44, R96). -/
def engaged (s : State) (a : ArtworkNo) : Bool := s.print.state.working && decide (heldArtwork s = some a)

/-- ARTWORK EVICTED (R44). -/
def artworkEvicted : Handler := fun _ body s =>
  match body with
  | [num] =>
    match recordNo 64 num with
    | none => (refuse .badField, s)
    | some a =>
      let x := tget s.artworks a
      if x.design.isNone then (refuse .state, s)
      else if !x.staged then (.condition .already [], s)
      else if engaged s a then (refuse .inUse, s)
      else (.done [], putArtwork a { x with staged := false } s)
  | _ => (refuse .badLength, s)

/-- ARTWORK_EVICTED (R44). -/
def execArtworkEvicted (p : Port) (s : State) : Host.Outcome State Fault Refusal := serve .artworkEvicted artworkEvicted p s

/-- A coverage entry in its two bytes (A.3). -/
def coverageBytes (c : Coverage) : List Byte := bytes1 c.white ++ bytes1 c.colour

/-- READ ARTWORK's results with the coverage list from a band onward (R45, R175, A.7). -/
def artworkPicture (x : Artwork) (first : Nat) : List Byte :=
  bytes1 (yesNoCode x.design.isSome) ++ bytes2 x.refs ++ bytes1 (yesNoCode x.staged)
    ++ match x.design with
      | none => [0, 0, 0, 0]
      | some d =>
        bytes1 d.coverage.length ++ [d.zoneMask] ++ bytes1 d.whitePasses ++ bytes1 d.colourPasses
          ++ (d.coverage.drop first).flatMap coverageBytes

/-- A first band beyond the list: at or above the band count, or above 0 for an EMPTY artwork (R175). -/
def beyondBands (x : Artwork) (first : Nat) : Bool :=
  match x.design with
  | none => decide (0 < first)
  | some d => decide (d.coverage.length ≤ first)

/-- READ ARTWORK (R45, R175). -/
def readArtwork : Handler := fun _ body s =>
  match body with
  | [num] =>
    match recordNo 64 num with
    | none => (refuse .badField, s)
    | some a => (.done (artworkPicture (tget s.artworks a) 0), s)
  | [num, first] =>
    match recordNo 64 num with
    | none => (refuse .badField, s)
    | some a =>
      if beyondBands (tget s.artworks a) first.toNat then (refuse .limit, s)
      else (.done (artworkPicture (tget s.artworks a) first.toNat), s)
  | _ => (refuse .badLength, s)

/-- READ_ARTWORK (R45). -/
def execReadArtwork (p : Port) (s : State) : Host.Outcome State Fault Refusal := serve .readArtwork readArtwork p s

end Sys2Proof.Machine
end

