-- ==== Sys2Proof/Machine/Link.lean ====
section
/-! DEFINITION. The serial links: the CRC and the characters of a frame (A.1), the frame assembler (R171), the
input buffer with its BUSY reply (R172), and the three commands by which characters, or their absence, reach a
port. -/

namespace Sys2Proof.Machine

/-! ### The CRC (A.1) -/

/-- One bit of CRC-16: polynomial 1021h, most significant bit first. -/
def crcShift (c : BitVec 16) : BitVec 16 := if c.msb then (c <<< 1) ^^^ 0x1021#16 else c <<< 1

/-- One character of CRC-16. -/
def crcByte (c : BitVec 16) (b : Byte) : BitVec 16 :=
  let x := c ^^^ ((b.setWidth 16) <<< 8)
  crcShift (crcShift (crcShift (crcShift (crcShift (crcShift (crcShift (crcShift x)))))))

/-- CRC-16 with initial value FFFFh, not inverted (A.1). -/
def crc16 (bytes : List Byte) : BitVec 16 := bytes.foldl crcByte 0xFFFF#16

/-- The two CRC bytes, high byte first. -/
def crcBytes (c : BitVec 16) : List Byte := [c.extractLsb' 8 8, c.extractLsb' 0 8]

/-! ### The characters of a frame (A.1) -/

/-- The start byte. -/
def startByte : Byte := 0xA5

/-- What the CRC covers: bytes 1 through the last byte of the body. -/
def Frame.covered (f : Frame) : List Byte :=
  BitVec.ofNat 8 f.body.length :: f.portCode :: f.code :: f.tag :: f.body

/-- The characters of a frame as they stand on the link. -/
def Frame.chars (f : Frame) : List Byte := startByte :: (f.covered ++ crcBytes (crc16 f.covered))

/-- The frame whose characters are these, or none where they are no complete frame with a good CRC. -/
def frameOf (chars : List Byte) : Option Frame :=
  match chars with
  | start :: len :: port :: code :: tag :: rest =>
    let body := rest.take len.toNat
    let f : Frame := { portCode := port, code := code, tag := tag, body := body }
    if start = startByte ∧ len.toNat ≤ Config.bodyMax ∧ rest.length = len.toNat + 2
        ∧ rest.drop len.toNat = crcBytes (crc16 f.covered)
    then some f else none
  | _ => none

/-! ### The input buffer (R172) -/

/-- A complete frame with a good CRC joins the input buffer's tail, or is answered REFUSED BUSY and not kept
when the buffer holds 4 (R172). -/
def acceptFrame (p : Port) (f : Frame) (x : PortState) : PortState :=
  if x.input.length < Config.inputBufferSize then { x with input := x.input ++ [f] }
  else { x with sent := x.sent ++ [replyFrame p f (refuse .busy)] }

/-- A frame error: the count rises by 1 and saturates (R171). -/
def PortState.countError (x : PortState) : PortState :=
  { x with frameErrors := if x.frameErrors < Config.frameErrorMax then x.frameErrors + 1 else x.frameErrors }

/-! ### The frame assembler (R171) -/

/-- The part held of a frame is given up and hunting begins again. -/
def PortState.hunt (x : PortState) : PortState := { x with receiver := { x.receiver with held := [], junkRun := false } }

/-- A frame begun has been silent for more than 20 ms (R171 item 4). -/
def gapExceeded (now : Word32) (r : Receiver) : Bool :=
  !r.held.isEmpty && decide (Config.characterGap < (now - r.lastChar).toNat)

/-- R171 item 4: the part held of a frame whose next character does not come is a frame error. -/
def PortState.expire (now : Word32) (x : PortState) : PortState :=
  if gapExceeded now x.receiver then x.hunt.countError else x

/-- Outside a frame (R171 item 1): A5h begins a frame; a run of other characters is one frame error, counted at
its first character (log entry 6). -/
def huntChar (c : Byte) (x : PortState) : PortState :=
  if c = startByte then { x with receiver := { x.receiver with held := [c], junkRun := false } }
  else if x.receiver.junkRun then x
  else { x.countError with receiver := { x.receiver with junkRun := true } }

/-- A frame is complete when its seven bytes and its body have come (A.1). -/
def frameComplete (held : List Byte) : Bool :=
  match held[1]? with
  | some len => decide (held.length = len.toNat + 7)
  | none => false

/-- Inside a frame (R171 items 2 and 3): a length above 240 ends it; a complete frame goes to the input buffer,
or is a frame error when its CRC is bad; otherwise the character is kept. -/
def frameChar (p : Port) (c : Byte) (x : PortState) : PortState :=
  let held := x.receiver.held ++ [c]
  if held.length = 2 ∧ Config.bodyMax < c.toNat then x.hunt.countError
  else if frameComplete held then
    match frameOf held with
    | some f => acceptFrame p f x.hunt
    | none => x.hunt.countError
  else { x with receiver := { x.receiver with held := held } }

/-- One character arrives at the Time Base value `now` (R171). -/
def receiveChar (p : Port) (now : Word32) (x : PortState) (c : Byte) : PortState :=
  let x1 := x.expire now
  let x2 := if x1.receiver.held.isEmpty then huntChar c x1 else frameChar p c x1
  { x2 with receiver := { x2.receiver with lastChar := now } }

/-- A run of characters arrives at a port, all at the present Time Base value (log entry 5). -/
def receiveChars (p : Port) (chars : List Byte) (s : State) : State :=
  s.setPort p (chars.foldl (receiveChar p s.time.now) (s.port p))

/-! ### The commands -/

/-- FRAME_RECEIVED (R172): the characters of a frame arrive; the assembler of R171 decides what they are. -/
def execFrameReceived (p : Port) (chars : List Byte) (s : State) : Host.Outcome State Fault Refusal :=
  .next (receiveChars p chars s)

/-- A junk run is over. -/
def PortState.endRun (x : PortState) : PortState := { x with receiver := { x.receiver with junkRun := false } }

/-- FRAME_ERROR_DISCARD (R171): characters arrive that the assembler cannot take as a good frame; it discards
and counts them. The command carries a junk run whole, so the run ends with it (log entry 6). -/
def execFrameErrorDiscard (p : Port) (chars : List Byte) (s : State) : Host.Outcome State Fault Refusal :=
  let s1 := receiveChars p chars s
  .next (s1.setPort p (s1.port p).endRun)

/-- INTERCHARACTER_TIMEOUT (R171 item 4): a partial frame silent for more than 20 ms is discarded as a frame
error and hunting restarts; before that nothing changes (log entries 7, 8). -/
def execIntercharacterTimeout (p : Port) (s : State) : Host.Outcome State Fault Refusal :=
  .next (s.setPort p ((s.port p).expire s.time.now))

end Sys2Proof.Machine
end

