-- ==== Sys2Proof/Machine/Bar.lean ====
section
/-! DEFINITION. The spray bar's own operations (chapter 5): the valves, the first move of a plan, the start and
the end of a sweep, the centre crossings, the stop of line reset, the fault. The commands that also move the
Pretreat station stand in Sys2Proof/Machine/Pretreat.lean and Sys2Proof/Machine/Spray.lean. -/

namespace Sys2Proof.Machine

/-! ### A spray plan's totals (R67) -/

/-- The plan's sweep count: the sum of n over all bands (R67). -/
def SprayPlan.sweepCount (p : SprayPlan) : Nat := (p.bands.map (·.sweeps)).sum

/-- The plan's fluid total F in mg: the sum of the bands' fluid (R67). -/
def SprayPlan.fluidTotal (p : SprayPlan) : Nat := (p.bands.map (·.fluid)).sum

/-- The lowest sprayable band of a plan from a band onward (R85, R88). -/
def SprayPlan.nextBand (p : SprayPlan) (from_ : Nat) : Option Nat :=
  (List.range p.bands.length).find? fun b =>
    decide (from_ ≤ b) && (match p.bands[b]? with | some x => decide (0 < x.sweeps) | none => false)

/-- The sweep count of a band of a plan. -/
def SprayPlan.sweepsOf (p : SprayPlan) (b : Nat) : Nat := ((p.bands[b]?).map (·.sweeps)).getD 0

/-- The valve duty of a band of a plan. -/
def SprayPlan.dutyOf (p : SprayPlan) (b : Nat) : Nat := ((p.bands[b]?).map (·.duty)).getD 0

/-! ### Outputs (R79) -/

/-- Every valve at duty 0 (R79). -/
def closedValves : Vector Nat 8 := Vector.replicate 8 0

/-- The valves of the zones of a mask at a duty, the others at 0 (R87 step 3). -/
def openValves (mask : BitVec 8) (duty : Nat) : Vector Nat 8 :=
  tableOf fun z => if mask.getLsbD z.val then duty else 0

/-- The valves close and the traverse command and dither drive become idle (R88, R91). -/
def Bar.quiet (b : Bar) : Bar := { b with valves := closedValves, traverse := none, dither := none }

/-- A position command is given and the bar becomes MOVING (R79, R85, R88, R90). -/
def Bar.moveTo (b : Bar) (t : Target) : Bar := { b with state := .moving, target := some t }

/-- The bar becomes PARKED, the position command being answered (R86, R89). -/
def Bar.park (b : Bar) : Bar := { b with state := .parked, target := none }

/-! ### The sequence (R85 to R88) -/

/-- The other direction (R87 step 2). -/
def Direction.other : Direction → Direction
  | .forward => .reverse
  | .reverse => .forward

/-- The first move of the plan in the bar record: to its lowest sprayable band (R85). -/
def Bar.firstMove (b : Bar) : Bar :=
  match b.plan.bind fun p => p.nextBand 0 with
  | some k => { b.moveTo (.band k) with band := some k, planWaiting := false }
  | none => { b with planWaiting := false }

/-- A plan is handed over (R85): from PARKED its first move follows, otherwise it waits for the bar to park. -/
def Bar.takePlan (b : Bar) (p : SprayPlan) : Bar :=
  let b1 := { b with plan := some p, nextDirection := .forward, sweepsDone := 0 }
  match b.state with
  | .parked => b1.firstMove
  | .moving | .sweeping | .centring | .faulted => { b1 with planWaiting := true }

/-- A sweep starts (R87), at the Time Base value `now`. -/
def Bar.startSweep (now : Word32) (b : Bar) : Bar :=
  let duty := (do let p ← b.plan; let k ← b.band; pure (p.dutyOf k)).getD 0
  let mask := (b.plan.map (·.zoneMask)).getD 0
  let dithering := decide (0 < b.settings.amplitude)
  { b with
    state := .sweeping
    target := none
    sweepStart := now
    sweepTime := b.settings.sweepTime
    sweepHalf := b.settings.halfPeriod
    dithering := dithering
    ditherOffAt := none
    stopAt := none
    traverse := some b.nextDirection
    nextDirection := b.nextDirection.other
    valves := openValves mask duty
    dither :=
      if dithering then some { amplitude := b.settings.amplitude, halfPeriod := b.settings.halfPeriod } else none }

/-- The first centre crossing, in ms from the sweep start, that follows the instant `w`: a crossing at `w` itself
does not follow it (R83; log entry 21 for R90). -/
def crossingAfter (half w : Nat) : Nat := (w / half + 1) * half

/-- The first centre crossing at or after the elapse of `t` ms: ceil(t / half) × half (R87). -/
def crossingFrom (half t : Nat) : Nat := (t + half - 1) / half * half

/-- The length of the sweep in progress, in ms from its start, by R87's table. -/
def Bar.sweepLength (b : Bar) : Nat :=
  if b.dithering then
    match b.ditherOffAt with
    | some w => crossingAfter b.sweepHalf w
    | none => crossingFrom b.sweepHalf b.sweepTime
  else b.sweepTime

/-- A sweep ends (R88): the next sweep of the band, the move to the next sprayable band, or the home move.
DEDUCED: with the home move the current band becomes absent, and R88 step 3 and R89 give sweeps done and next direction
no new value; both keep the value they had, over the parking too (log entry 36). -/
def Bar.endSweep (now : Word32) (b : Bar) : Bar :=
  let b1 := { b.quiet with dithering := false, ditherOffAt := none, sweepsDone := b.sweepsDone + 1 }
  match b1.plan, b1.band with
  | some p, some k =>
    if b1.sweepsDone < p.sweepsOf k then b1.startSweep now
    else
      match p.nextBand (k + 1) with
      | some j => { b1.moveTo (.band j) with band := some j, sweepsDone := 0 }
      | none => { b1.moveTo .home with band := none }
  | _, _ => { b1.moveTo .home with band := none }

/-- SWEEP_END is due: the sweep's length has elapsed (R87). -/
def sweepDue (s : State) : Bool :=
  decide (s.bar.state = .sweeping) && decide (s.bar.sweepLength ≤ elapsedSince s s.bar.sweepStart)

/-- SWEEP_END (R88). Before the sweep's time nothing changes (log entry 8). -/
def execSweepEnd (s : State) : Host.Outcome State Fault Refusal :=
  .next (if sweepDue s then s.setBar (s.bar.endSweep s.time.now) else s)

/-! ### The stop (R90) -/

/-- Line reset's stop of the bar (R90), at `w` ms into the sweep in progress. The current band, sweeps done and
next direction return in every bar state (log entry 20). -/
def Bar.stop (w : Nat) (b : Bar) : Bar :=
  let b1 :=
    { b with
      plan := none, planWaiting := false, valves := closedValves, traverse := none
      band := none, sweepsDone := 0, nextDirection := .forward }
  match b.state with
  | .parked | .faulted | .centring => b1
  | .moving => b1.moveTo .home
  | .sweeping =>
    if b.dithering then { b1 with state := .centring, stopAt := some w, ditherOffAt := none }
    else { b1.moveTo .home with dither := none }

/-- CENTRING_END is due: the crossing that follows the stop has come (R90). -/
def centringDue (s : State) : Bool :=
  decide (s.bar.state = .centring)
    && decide (crossingAfter s.bar.sweepHalf (s.bar.stopAt.getD 0) ≤ elapsedSince s s.bar.sweepStart)

/-- The centring reaches its crossing: the dither stops and the bar is commanded home (R90). -/
def Bar.endCentring (b : Bar) : Bar := { b.moveTo .home with dither := none, dithering := false, stopAt := none }

/-- CENTRING_END (R90). Before the crossing nothing changes (log entry 8). -/
def execCentringEnd (s : State) : Host.Outcome State Fault Refusal :=
  .next (if centringDue s then s.setBar s.bar.endCentring else s)

/-! ### The fault (R91) -/

/-- The bar enters FAULTED (R91): valves closed, drives idle, no position command, no plan; sweeps done is cleared
with the current band (log entry 19). -/
def Bar.fail (b : Bar) : Bar :=
  { b.quiet with
    state := .faulted, target := none, plan := none, planWaiting := false, dithering := false
    ditherOffAt := none, stopAt := none, band := none, sweepsDone := 0 }

/-- The bar is available to the Pretreat station in every state but FAULTED (4.3, R80). -/
def Bar.available (b : Bar) : Bool := decide (b.state ≠ .faulted)

end Sys2Proof.Machine
end

