-- ==== Sys2Proof/Machine/Pretreat.lean ====
section
/-! DEFINITION. Chapter 4: the dose arithmetic (R63 to R67), the Pretreat station's arrival and start test
(R68 to R72), the reservoir (R73 to R76), and its requests. -/

namespace Sys2Proof.Machine

/-! ### The dose arithmetic (R63 to R67) -/

/-- The inputs of a spray plan that are common to its bands (R63). -/
structure DoseInputs where
  base : Nat
  darkness : Nat
  dark : Bool
  passCapacity : Nat
  minDose : Nat
  zones : Nat
deriving DecidableEq, Repr

/-- Stage 1: the darkness scale s (R64). -/
def darknessScale (d : Nat) : Nat := 128 + d / 2

/-- Stage 2: the effective coverage e (R64). -/
def effectiveCoverage (dark : Bool) (c : Coverage) : Nat := if dark then c.white else c.colour

/-- Stage 2: q for an effective coverage above 0 (R64). -/
def coverageScale (e : Nat) : Nat := 32 + 7 * e / 8

/-- Stage 3: the raw dose (R64). -/
def rawDose (base s q : Nat) : Nat := (base * s * q + 32768) / 65536

/-- Stages 1 to 4: the band's dose D, 0 for a band that stays dry (R64). -/
def bandDose (i : DoseInputs) (c : Coverage) : Nat :=
  let e := effectiveCoverage i.dark c
  if e = 0 then 0
  else
    let d := rawDose i.base (darknessScale i.darkness) (coverageScale e)
    if d = 0 then 0 else if d < i.minDose then i.minDose else d

/-- The least whole number of full-duty sweeps whose total reaches D: ceil(D / P) (R65). -/
def sweepsFor (d p : Nat) : Nat := (d + p - 1) / p

/-- A band is saturated when its dose wants more than 3 sweeps (R65). -/
def bandSaturated (i : DoseInputs) (c : Coverage) : Bool :=
  decide (Config.sweepsMax < sweepsFor (bandDose i c) i.passCapacity)

/-- Stage 6: the valve duty (R66). -/
def valveDuty (d capacity : Nat) : Nat := (d * 255 + capacity / 2) / capacity

/-- Stage 7: the delivered dose (R66). -/
def deliveredDose (d duty capacity : Nat) : Nat := min d (duty * capacity / 255)

/-- Stages 5 to 8 for a dose above 0, given its sweep count and its dose after stage 5 (R65 to R67). -/
def sprayedBand (i : DoseInputs) (n d : Nat) : BandPlan :=
  let capacity := n * i.passCapacity
  let duty := valveDuty d capacity
  let delivered := deliveredDose d duty capacity
  { sweeps := n, duty := duty, delivered := delivered, fluid := delivered * i.zones }

/-- A band with no sweeps (R64, R66, R67). -/
def dryBand : BandPlan := { sweeps := 0, duty := 0, delivered := 0, fluid := 0 }

/-- The eight stages for one band (R64 to R67). -/
def bandPlan (i : DoseInputs) (c : Coverage) : BandPlan :=
  let d := bandDose i c
  if d = 0 then dryBand
  else if bandSaturated i c then sprayedBand i Config.sweepsMax (Config.sweepsMax * i.passCapacity)
  else sprayedBand i (sweepsFor d i.passCapacity) d

/-- The number of zones in a mask (R63). -/
def zoneCount (mask : BitVec 8) : Nat := ((List.range 8).filter fun z => mask.getLsbD z).length

/-- The inputs in force for a unit (R63). -/
def doseInputs (s : State) (sh : Shirt) (d : Design) : DoseInputs where
  base := tget s.pretreat.doses sh.sku.fabric
  darkness := sh.darkness
  dark := sh.dark
  passCapacity := s.bar.settings.passCapacity
  minDose := s.bar.settings.minDose
  zones := zoneCount d.zoneMask

/-- The spray plan of a unit, from the inputs in force (R63 to R67). A unit's artwork is always DEFINED (R40);
without a design there is no band. -/
def sprayPlanOf (s : State) (u : UnitNo) (sh : Shirt) : SprayPlan :=
  match designOf s sh with
  | some d =>
    let i := doseInputs s sh d
    { tag := s.tagOf u, zoneMask := d.zoneMask
      saturated := d.coverage.any (bandSaturated i), bands := d.coverage.map (bandPlan i) }
  | none => { tag := s.tagOf u, zoneMask := 0, saturated := false, bands := [] }

/-! ### The Pretreat station (R68 to R77) -/

/-- The station's state and plan are replaced (R68). -/
def setPretreatState (st : PretreatState) (plan : Option SprayPlan) (s : State) : State :=
  s.setPretreat { s.pretreat with state := st, plan := plan }

/-- The station becomes IDLE, discards its plan and releases its hold (R68, R77). -/
def pretreatRelease (s : State) : State := releaseHold .pretreat (setPretreatState .idle none s)

/-- The PRETREATED notice, from the unit's dose record and flags (4.3). -/
def postPretreated (u : UnitNo) (s : State) : State :=
  match s.shirt u with
  | some sh =>
    let d := sh.dose.getD { sweeps := 0, fluid := 0 }
    post .load (.pretreated (s.tagOf u) d.fluid d.sweeps sh.flags.saturated) s
  | none => s

/-- No sprayable band (R72): the unit is PRETREATED with nothing, the hold is released, the notice is posted. -/
def passUnsprayed (u : UnitNo) (s : State) : State :=
  let s1 := modifyShirt u (fun sh => { sh with state := .pretreated, dose := some { sweeps := 0, fluid := 0 } }) s
  postPretreated u (pretreatRelease s1)

/-- The sequence starts (R71): fluid reserved, dose record and flag written, PRETREATING, the plan handed over. -/
def startSequence (u : UnitNo) (p : SprayPlan) (s : State) : State :=
  let s1 := s.setPretreat { s.pretreat with
    reservoir := s.pretreat.reservoir - p.fluidTotal, state := .spraying, plan := some p }
  let s2 := modifyShirt u
    (fun sh => { sh with
      state := .pretreating
      dose := some { sweeps := p.sweepCount, fluid := p.fluidTotal }
      flags := { sh.flags with saturated := sh.flags.saturated || p.saturated } }) s1
  s2.setBar (s2.bar.takePlan p)

/-- The station holds the unit in LOW FLUID; the notice is posted on entry from another state (R75). -/
def enterLowFluid (p : SprayPlan) (s : State) : State :=
  let s1 := setPretreatState .lowFluid (some p) s
  if s.pretreat.state = .lowFluid then s1
  else post .load (.lowFluid p.tag p.fluidTotal s.pretreat.reservoir) s1

/-- The start test for a unit (R70). -/
def startTestFor (u : UnitNo) (sh : Shirt) (s : State) : State :=
  if s.pretreat.quiesce ≠ .running then setPretreatState .quiesceWait none s
  else
    let p := sprayPlanOf s u sh
    if p.sweepCount = 0 then passUnsprayed u s
    else if !s.bar.available then setPretreatState .barFault (some p) s
    else if s.pretreat.reservoir < p.fluidTotal then enterLowFluid p s
    else startSequence u p s

/-- The start test for the unit on the platen at position 3 (R70). -/
def pretreatStartTest (s : State) : State :=
  match unitAt s Holder.pretreat.position with
  | none => s
  | some u =>
    match s.shirt u with
    | some sh => startTestFor u sh s
    | none => s

/-- The Pretreat station takes its platen-arrived event (R69). -/
def pretreatArrival (s : State) : State :=
  match s.ring.arrivals.pretreat with
  | none => s
  | some a =>
    let s1 := takeArrival .pretreat s
    match (tget s1.ring.platens a.platen).unit with
    | none => pretreatRelease s1
    | some u =>
      match s1.shirt u with
      | none => pretreatRelease s1
      | some sh => if sh.flags.bypassed then pretreatRelease s1 else startTestFor u sh s1

/-- PRETREAT_ARRIVAL (R69). Where no event waits to be taken nothing changes (log entry 9). -/
def execPretreatArrival (s : State) : Host.Outcome State Fault Refusal := .next (pretreatArrival s)

/-- The station waits with a unit it has not begun: QUIESCE WAIT, BAR FAULT or LOW FLUID (R77). -/
def pretreatWaiting (s : State) : Bool :=
  match s.pretreat.state with
  | .quiesceWait | .barFault | .lowFluid => true
  | .idle | .spraying => false

/-- The Pretreat station holds a unit it has not begun: the unit at position 3, its arrival taken (R77). -/
def pretreatHolds (s : State) (u : UnitNo) : Bool :=
  pretreatWaiting s && s.ring.arrivals.pretreat.isNone && decide (unitAt s Holder.pretreat.position = some u)

/-! ### The requests of chapter 4 -/

/-- WRITE DOSE TABLE (R62): fields, then the gate, then the entries from the first class onward. -/
def writeDoseTable : Handler := fun _ body s =>
  match body with
  | first :: rest =>
    let doses := numbers2 rest
    if 7 < first.toNat ∨ doses = [] ∨ 8 < first.toNat + doses.length ∨ doses.any (fun d => decide (400 < d)) = true then
      (refuse .badField, s)
    else if s.pretreat.quiesce ≠ .quiesced then (refuse .notQuiesced, s)
    else (.done [], s.setPretreat { s.pretreat with doses := writeRun s.pretreat.doses first.toNat doses })
  | [] => (refuse .badLength, s)

/-- WRITE_DOSE_TABLE (R62). -/
def execWriteDoseTable (p : Port) (s : State) : Host.Outcome State Fault Refusal := serve .writeDoseTable writeDoseTable p s

/-- The reservoir with an amount added, clamped at the capacity (R76). -/
def refilled (level amount : Nat) : Nat := min (level + amount) Config.reservoirMax

/-- REFILL (R76): the level rises, and a unit held in LOW FLUID is given the start test within the request. -/
def refill : Handler := fun _ body s =>
  match body with
  | [a, b, c, d] =>
    let amount := number4 a b c d
    let level := refilled s.pretreat.reservoir amount
    let taken := level - s.pretreat.reservoir
    let s1 := s.setPretreat { s.pretreat with reservoir := level }
    let s2 := if s.pretreat.state = .lowFluid then pretreatStartTest s1 else s1
    let started :=
      if s.pretreat.state = .lowFluid ∧ s2.pretreat.state = .spraying then s2.pretreat.plan else none
    let results :=
      bytes4 taken ++ bytes4 s2.pretreat.reservoir ++ orNone 2 (fun p => tagBytes p.tag) started
        ++ orNone 4 (fun p => bytes4 p.fluidTotal) started
    (if taken < amount then .condition .clamped results else .done results, s2)
  | _ => (refuse .badLength, s)

/-- REFILL (R76). -/
def execRefill (p : Port) (s : State) : Host.Outcome State Fault Refusal := serve .refill refill p s

/-- The tag READ PRETREAT returns: the held unit's, in every state but IDLE (R78). -/
def pretreatHeldTag (s : State) : Option Tag :=
  match s.pretreat.state with
  | .idle => none
  | .quiesceWait => (unitAt s Holder.pretreat.position).map s.tagOf
  | .barFault | .lowFluid | .spraying => s.pretreat.plan.map (·.tag)

/-- READ PRETREAT (R78, A.7). Where there is no plan its two fields hold none (log entry 16). -/
def readPretreat : Handler := fun _ _ s =>
  let results :=
    s.pretreat.doses.toList.flatMap bytes2 ++ bytes4 s.pretreat.reservoir ++ bytes1 s.pretreat.state.code
      ++ bytes1 s.pretreat.quiesce.code ++ orNone 2 tagBytes (pretreatHeldTag s)
      ++ orNone 4 (fun p => bytes4 p.fluidTotal) s.pretreat.plan ++ orNone 1 (fun p => bytes1 p.sweepCount) s.pretreat.plan
  (.done results, s)

/-- READ_PRETREAT (R78). -/
def execReadPretreat (p : Port) (s : State) : Host.Outcome State Fault Refusal := serve .readPretreat readPretreat p s

end Sys2Proof.Machine
end

