-- ==== Sys2Proof/Machine/Load.lean ====
section
/-! DEFINITION. Chapter 3: the load-gated tables, LOAD with its candidate search, UNLOAD and BYPASS PRETREAT. -/

namespace Sys2Proof.Machine

/-! ### The load-gated writes and their read (R50, R51) -/

/-- The gate of the load-gated writes: NOT QUIESCED unless the Load station is QUIESCED (R50, R168). -/
def loadGated (s : State) (f : LoadStation → LoadStation) : Reply × State :=
  if s.load.quiesce ≠ .quiesced then (refuse .notQuiesced, s) else (.done [], s.setLoad (f s.load))

/-- WRITE COLOUR TABLE (R50). -/
def writeColourTable : Handler := fun _ body s =>
  match body with
  | first :: vals =>
    if 63 < first.toNat ∨ vals = [] ∨ 64 < first.toNat + vals.length then (refuse .badField, s)
    else loadGated s fun x => { x with colours := writeRun x.colours first.toNat (vals.map BitVec.toNat) }
  | [] => (refuse .badLength, s)

/-- WRITE_COLOUR_TABLE (R50). -/
def execWriteColourTable (p : Port) (s : State) : Host.Outcome State Fault Refusal :=
  serve .writeColourTable writeColourTable p s

/-- WRITE SIZE MAP (R50). -/
def writeSizeMap : Handler := fun _ body s =>
  match body with
  | [z, cls] =>
    match recordNo 8 z, sizeClassOf cls with
    | some i, some c => loadGated s fun x => { x with sizeMap := tset x.sizeMap i c }
    | _, _ => (refuse .badField, s)
  | _ => (refuse .badLength, s)

/-- WRITE_SIZE_MAP (R50). -/
def execWriteSizeMap (p : Port) (s : State) : Host.Outcome State Fault Refusal := serve .writeSizeMap writeSizeMap p s

/-- WRITE DARK THRESHOLD (R50). -/
def writeDarkThreshold : Handler := fun _ body s =>
  match body with
  | [t] => loadGated s fun x => { x with darkThreshold := t.toNat }
  | _ => (refuse .badLength, s)

/-- WRITE_DARK_THRESHOLD (R50). -/
def execWriteDarkThreshold (p : Port) (s : State) : Host.Outcome State Fault Refusal :=
  serve .writeDarkThreshold writeDarkThreshold p s

/-- WRITE SCRAP LIMIT (R50). -/
def writeScrapLimit : Handler := fun _ body s =>
  match body with
  | [l] => if 7 < l.toNat then (refuse .badField, s) else loadGated s fun x => { x with scrapLimit := l.toNat }
  | _ => (refuse .badLength, s)

/-- WRITE_SCRAP_LIMIT (R50). -/
def execWriteScrapLimit (p : Port) (s : State) : Host.Outcome State Fault Refusal :=
  serve .writeScrapLimit writeScrapLimit p s

/-- READ LOAD TABLES (R51, A.7). -/
def readLoadTables : Handler := fun _ _ s =>
  (.done (s.load.colours.toList.flatMap bytes1 ++ s.load.sizeMap.toList.flatMap (fun c => bytes1 c.code)
      ++ bytes1 s.load.darkThreshold ++ bytes1 s.load.scrapLimit ++ bytes1 s.load.quiesce.code), s)

/-- READ_LOAD_TABLES (R51). -/
def execReadLoadTables (p : Port) (s : State) : Host.Outcome State Fault Refusal :=
  serve .readLoadTables readLoadTables p s

/-! ### LOAD (R52 to R55) -/

/-- The band capacity of a size class (R1). -/
def SizeClass.capacity : SizeClass → Nat
  | .youth => Config.bandsYouth
  | .adult => Config.bandsAdult
  | .oversize => Config.bandsOversize

/-- The first line of an order, in position order, of a SKU and with need above 0 (R53). -/
def candidateIn (s : State) (k : Sku) (i : OrderNo) : Option (OrderNo × LineNo × Line) :=
  (s.order i).bind fun o => o.lines.findSome? fun n =>
    match s.line n with
    | some l => if l.sku = k ∧ 0 < l.need then some (i, n, l) else none
    | none => none

/-- The candidate search along the Active Order List (R53). -/
def candidate (s : State) (k : Sku) : Option (OrderNo × LineNo × Line) := s.book.active.findSome? (candidateIn s k)

/-- The fields of a unit record taken into use by LOAD (R55, R47, R48). -/
def newShirt (s : State) (h : Handle) (l : Line) (pl : PlatenNo) : Shirt where
  state := .loaded
  order := h
  line := l.position
  sku := l.sku
  artwork := l.artwork
  darkness := tget s.load.colours l.sku.colour
  dark := decide (s.load.darkThreshold ≤ tget s.load.colours l.sku.colour)
  platen := some pl
  flags := { bypassed := false, saturated := false, unreadyEntry := false, recured := false }
  fault := none
  dose := none
  print := none
  cure := none

/-- An accepted LOAD (R55): the claim, the record, the platen. -/
def acceptLoad (u : UnitNo) (pl : PlatenNo) (i : OrderNo) (n : LineNo) (l : Line) (s : State) : State :=
  let s1 := putLine n (some { l with inFlight := l.inFlight + 1 }) s
  setPlatenUnit pl (some u) (putShirt u (some (newShirt s (s.handleOf i) l pl)) s1)

/-- The results of an accepted LOAD (R55, A.7). -/
def loadResults (u : UnitNo) (i : OrderNo) (o : Order) (l : Line) (s : State) : List Byte :=
  tagBytes (s.tagOf u) ++ handleBytes (s.handleOf i) ++ bytes4 o.webNumber.toNat ++ bytes1 l.position.val
    ++ bytes1 l.artwork.val
    ++ bytes1 (yesNoCode (decide (s.load.darkThreshold ≤ tget s.load.colours l.sku.colour)))

/-- The additions of REFUSED PLATEN CLASS (A.1, R54). -/
def platenClassAdditions (reason : Nat) (required platen : SizeClass) (bands : Nat) (h : Handle) (l : Line) : List Byte :=
  bytes1 reason ++ bytes1 required.code ++ bytes1 platen.code ++ bytes1 bands ++ handleBytes h ++ bytes1 l.position.val

/-- The class checks of R54 and the creation of R55, for the candidate found. No free record, or a candidate
without its order, arises in no run; the reply is then NO DEMAND (log entry 23). -/
def loadCandidate (pl : PlatenNo) (i : OrderNo) (n : LineNo) (l : Line) (s : State) : Reply × State :=
  let x := tget s.ring.platens pl
  let required := tget s.load.sizeMap l.sku.size
  let bands := ((tget s.artworks l.artwork).design.map fun d => d.coverage.length).getD 0
  if x.sizeClass ≠ required then
    (.refused .platenClass (platenClassAdditions 0 required x.sizeClass bands (s.handleOf i) l), s)
  else if required.capacity < bands then
    (.refused .platenClass (platenClassAdditions 1 required x.sizeClass bands (s.handleOf i) l), s)
  else
    match lowestFreeUnit s, s.order i with
    | some u, some o => (.done (loadResults u i o l s), acceptLoad u pl i n l s)
    | _, _ => (refuse .noDemand, s)

/-- LOAD on the load platen, its checks of R52 in order. -/
def loadOn (pl : PlatenNo) (f c z : Byte) (s : State) : Reply × State :=
  let x := tget s.ring.platens pl
  if !x.enabled then (refuse .platen, s)
  else if x.unit.isSome then (refuse .occupied, s)
  else
    match skuOf f c z with
    | none => (refuse .badField, s)
    | some k =>
      match candidate s k with
      | none => (refuse .noDemand, s)
      | some (i, n, l) => loadCandidate pl i n l s

/-- LOAD (R52 to R55). -/
def load : Handler := fun _ body s =>
  match body with
  | [f, c, z] =>
    if s.ring.state = .moving then (refuse .moving, s)
    else if s.load.quiesce ≠ .running then (refuse .quiesced, s)
    else
      match platenAt s loadPosition with
      | none => (refuse .platen, s)
      | some pl => loadOn pl f c z s
  | _ => (refuse .badLength, s)

/-- LOAD (R52). -/
def execLoad (p : Port) (s : State) : Host.Outcome State Fault Refusal := serve .load load p s

/-! ### UNLOAD (R57) -/

/-- The line of a unit, as the Order Book holds it. -/
def lineOf (s : State) (sh : Shirt) : Option Line := (lineNoOf s sh.order.index sh.line).bind s.line

/-- The line of a unit right after the adjustment that its freeing makes, before any return of the line to the
pool (R26; log entry 15). -/
def lineAfter (s : State) (sh : Shirt) (d : Disposition) : Option Line := (lineOf s sh).map (·.adjusted d)

/-- The ring position of the platen a unit stands on. -/
def positionOf (s : State) (sh : Shirt) : Option Position := sh.platen.map fun p => (tget s.ring.platens p).position

/-- The results of UNLOAD: handle, line position, need after the unload (R57, A.7). -/
def unloadResults (s : State) (sh : Shirt) : List Byte :=
  handleBytes sh.order ++ bytes1 sh.line.val ++ bytes1 (((lineAfter s sh .unloaded).map (·.need)).getD 0)

/-- UNLOAD (R57). -/
def unload : Handler := fun _ body s =>
  match body with
  | [hi, lo] =>
    withTag hi lo s fun u sh =>
      if s.ring.state = .moving then (refuse .moving, s)
      else if sh.state ≠ .loaded ∨ positionOf s sh ≠ some loadPosition then (refuse .state, s)
      else (.done (unloadResults s sh), freeUnit .unloaded u s)
  | _ => (refuse .badLength, s)

/-- UNLOAD (R57). -/
def execUnload (p : Port) (s : State) : Host.Outcome State Fault Refusal := serve .unload unload p s

/-! ### BYPASS PRETREAT (R58) -/

/-- The flag PRETREAT BYPASSED is set (R58). -/
def setBypassed (u : UnitNo) (s : State) : State :=
  modifyShirt u (fun sh => { sh with flags := { sh.flags with bypassed := true } }) s

/-- BYPASS PRETREAT by R58's table. -/
def bypassPretreat : Handler := fun _ body s =>
  match body with
  | [hi, lo] =>
    withTag hi lo s fun u sh =>
      if sh.state ≠ .loaded then (refuse .state, s)
      else if sh.flags.bypassed then (.condition .already [], s)
      else
        match positionOf s sh with
        | none => (refuse .state, s)
        | some pos =>
          if 3 < pos.val then (refuse .state, s)
          else if pretreatHolds s u then (.done [], pretreatRelease (setBypassed u s))
          else (.done [], setBypassed u s)
  | _ => (refuse .badLength, s)

/-- BYPASS_PRETREAT (R58). -/
def execBypassPretreat (p : Port) (s : State) : Host.Outcome State Fault Refusal :=
  serve .bypassPretreat bypassPretreat p s

end Sys2Proof.Machine
end

