-- ==== Sys2Proof/Machine/Orders.lean ====
section
/-! DEFINITION. The order requests of chapter 2: SUBMIT, HOLD, RELEASE, CANCEL and READ ORDER. -/

namespace Sys2Proof.Machine

/-! ### SUBMIT ORDER (R31, R32) -/

/-- A line entry of a SUBMIT ORDER, its fields in range (R31). -/
structure LineEntry where
  artwork : ArtworkNo
  sku : Sku
  quantity : Nat
deriving DecidableEq, Repr

/-- One line entry: artwork, SKU, quantity; nothing when a field is out of range (A.3, R31). -/
def lineEntryOf (a f c z q : Byte) : Option LineEntry := do
  let artwork ← recordNo 64 a
  let sku ← skuOf f c z
  if q.toNat = 0 ∨ 48 < q.toNat then none else some { artwork := artwork, sku := sku, quantity := q.toNat }

/-- The line entries of a body, five bytes each; nothing when a field of one is out of range (A.3, R31). -/
def lineEntriesOf : List Byte → Option (List LineEntry)
  | [] => some []
  | a :: f :: c :: z :: q :: rest => do
    let e ← lineEntryOf a f c z q
    let es ← lineEntriesOf rest
    pure (e :: es)
  | _ => none

/-- A SUBMIT ORDER whose fields are all in range (R31). -/
structure Submission where
  webNumber : Word32
  priority : Nat
  alterLevel : Nat
  entries : List LineEntry
deriving DecidableEq, Repr

/-- The fields of a SUBMIT ORDER body; nothing when one is out of range (A.3, R31). -/
def submissionOf (body : List Byte) : Option Submission :=
  match body with
  | w3 :: w2 :: w1 :: w0 :: pr :: al :: n :: rest =>
    if 3 < pr.toNat ∨ 2 < al.toNat ∨ n.toNat = 0 ∨ 8 < n.toNat then none
    else
      (lineEntriesOf rest).map fun es =>
        { webNumber := BitVec.ofNat 32 (number4 w3 w2 w1 w0), priority := pr.toNat, alterLevel := al.toNat
          entries := es }
  | _ => none

/-- The lowest position of a line entry that names an EMPTY artwork (R31). -/
def emptyArtworkAt (s : State) (es : List LineEntry) : Option Nat :=
  es.findIdx? fun e => (tget s.artworks e.artwork).design.isNone

/-- The web order number is that of a descriptor that is not FREE (R23, R31). -/
def webNumberInUse (s : State) (w : Word32) : Bool :=
  (List.finRange 128).any fun i =>
    match s.order i with
    | some o => decide (o.webNumber = w)
    | none => false

/-- The value of the sequence counter after it stamps an order (R23). -/
def nextSequence (q : Nat) : Nat := if q = Config.sequenceMax then 1 else q + 1

/-- The lowest-numbered free line record (log entry 12). -/
def lowestFreeLine (s : State) : Option LineNo := lowest s.book.lines fun l => l.isNone

/-- One line record is taken for an entry, and its artwork's reference count rises by 1 (R32 steps 2 and 3). -/
def takeLine (i : OrderNo) (s : State) (e : LineEntry) (position : Fin 8) : State :=
  match lowestFreeLine s with
  | none => s
  | some n =>
    let l : Line :=
      { order := i, position := position, artwork := e.artwork, sku := e.sku, quantity := e.quantity
        good := 0, inFlight := 0, scrap := 0 }
    let s1 := setRefs e.artwork (fun r => r + 1) (putLine n (some l) s)
    modifyOrder i (fun o => { o with lines := o.lines ++ [n] }) s1

/-- The line records are taken in list order (R32). -/
def takeLines (i : OrderNo) (s : State) (es : List LineEntry) : State :=
  ((es.take 8).zip (List.finRange 8)).foldl (fun s x => takeLine i s x.1 x.2) s

/-- Steps 1 to 4 of R32, in the descriptor `i`. -/
def acceptOrder (i : OrderNo) (x : Submission) (s : State) : State :=
  let o : Order :=
    { state := .active, webNumber := x.webNumber, sequence := s.book.sequence, priority := x.priority
      alterLevel := x.alterLevel, holdReason := none, bin := none, lines := [] }
  let s1 := putOrder i (some o) s
  let s2 := s1.setBook { s1.book with sequence := nextSequence s.book.sequence }
  joinActive i (takeLines i s2 x.entries)

/-- The outcome class of a submission or release by the shirts its uptake took (R32, R34). -/
def shelfReply (taken : Nat) (results : List Byte) : Reply :=
  if taken = 0 then .done results else .condition .shelfUsed results

/-- SUBMIT ORDER (R31, R32). -/
def submitOrder : Handler := fun _ body s =>
  match submissionOf body with
  | none => (refuse .badField, s)
  | some x =>
    match emptyArtworkAt s x.entries with
    | some k => (.refused .artwork (bytes1 k), s)
    | none =>
      if webNumberInUse s x.webNumber then (refuse .duplicate, s)
      else
        match lowestFreeOrder s with
        | none => (refuse .full, s)
        | some i =>
          if freeLines s < x.entries.length then (refuse .full, s)
          else
            let s1 := acceptOrder i x s
            let u := orphanUptake i s1
            (shelfReply u.2 (handleBytes (s.handleOf i) ++ bytes4 s.book.sequence ++ bytes1 u.2), u.1)

/-- SUBMIT_ORDER (R32). -/
def execSubmitOrder (p : Port) (s : State) : Host.Outcome State Fault Refusal := serve .submitOrder submitOrder p s

/-! ### HOLD ORDER and RELEASE ORDER (R30, R33, R34) -/

/-- A port's authority level (2.4); the Engine port has none. -/
def authorityLevel : Port → Option Nat
  | .order => some 0
  | .pack => some 1
  | .load => some 2
  | .engine => none

/-- The authority test of R30. -/
def hasAuthority (p : Port) (o : Order) : Bool :=
  match authorityLevel p with
  | some level => decide (level ≤ o.alterLevel)
  | none => false

/-- HOLD ORDER (R33): handle, authority, state; HELD with reason ORDERED, and ORDER HELD posted. -/
def holdOrder : Handler := fun p body s =>
  match body with
  | [g, ix] =>
    withHandle g ix s fun i o =>
      if !hasAuthority p o then (refuse .level, s)
      else if o.state ≠ .active then (refuse .state, s)
      else
        let s1 := leaveActive i (putOrder i (some { o with state := .held, holdReason := some .ordered }) s)
        (.done [], post .order (.orderHeldOrdered (s.handleOf i) o.webNumber ((authorityLevel p).getD 0)) s1)
  | _ => (refuse .badLength, s)

/-- HOLD_ORDER (R33). -/
def execHoldOrder (p : Port) (s : State) : Host.Outcome State Fault Refusal := serve .holdOrder holdOrder p s

/-- RELEASE ORDER (R34): handle, authority, state; ACTIVE in its sorted place, then orphan uptake. -/
def releaseOrder : Handler := fun p body s =>
  match body with
  | [g, ix] =>
    withHandle g ix s fun i o =>
      if !hasAuthority p o then (refuse .level, s)
      else if o.state ≠ .held then (refuse .state, s)
      else
        let s1 := joinActive i (putOrder i (some { o with state := .active, holdReason := none }) s)
        let u := orphanUptake i s1
        (shelfReply u.2 (bytes1 u.2), u.1)
  | _ => (refuse .badLength, s)

/-- RELEASE_ORDER (R34). -/
def execReleaseOrder (p : Port) (s : State) : Host.Outcome State Fault Refusal := serve .releaseOrder releaseOrder p s

/-! ### CANCEL ORDER (R35) -/

/-- Steps 1 and 2 of R35: out of the Active Order List, hold reason cleared, the bin emptied to the shelf. -/
def withdrawOrder (i : OrderNo) (o : Order) (s : State) : State :=
  emptyBin i (leaveActive i (putOrder i (some { o with holdReason := none }) s))

/-- CANCEL ORDER of an ACTIVE or HELD order (R35). -/
def cancelLive (i : OrderNo) (o : Order) (s : State) : State :=
  let s1 := withdrawOrder i o s
  if totalInFlight s o = 0 then freeOrder i .cancelled s1
  else modifyOrder i (fun x => { x with state := .cancelling }) s1

/-- The results of CANCEL ORDER: the resulting state and the total in-flight count (R35, A.7). -/
def cancelResults (after : Option OrderState) (inFlight : Nat) : List Byte :=
  bytes1 (orderStateCode after) ++ bytes2 inFlight

/-- CANCEL ORDER by R35's table. -/
def cancelOrder : Handler := fun _ body s =>
  match body with
  | [g, ix] =>
    withHandle g ix s fun i o =>
      match o.state with
      | .complete => (refuse .state, s)
      | .cancelling => (.condition .already (cancelResults (some .cancelling) (totalInFlight s o)), s)
      | .active | .held =>
        let s1 := cancelLive i o s
        (.done (cancelResults ((s1.order i).map (·.state)) (totalInFlight s o)), s1)
  | _ => (refuse .badLength, s)

/-- CANCEL_ORDER (R35). -/
def execCancelOrder (p : Port) (s : State) : Host.Outcome State Fault Refusal := serve .cancelOrder cancelOrder p s

/-! ### READ ORDER (R38, R175) -/

/-- A line as READ ORDER reports it (A.7). -/
def lineBytes (l : Line) : List Byte :=
  bytes1 l.artwork.val ++ skuBytes l.sku ++ bytes1 l.quantity ++ bytes1 l.good ++ bytes1 l.inFlight
    ++ bytes1 l.scrap ++ bytes1 l.need

/-- The picture of an order with its lines from a position onward (R38, R175, A.7). -/
def orderPicture (s : State) (o : Order) (first : Nat) : List Byte :=
  bytes1 (orderStateCode (some o.state)) ++ bytes4 o.webNumber.toNat ++ bytes4 o.sequence ++ bytes1 o.priority
    ++ bytes1 o.alterLevel ++ orNone 1 (fun r => bytes1 r.code) o.holdReason
    ++ orNone 1 (fun b => bytes1 b.val) o.bin ++ bytes1 o.lines.length
    ++ ((linesOf s o).drop first).flatMap lineBytes

/-- READ ORDER: handle check, then LIMIT for a first line position beyond the list (R38, R175). -/
def readOrder : Handler := fun _ body s =>
  match body with
  | [g, ix] => withHandle g ix s fun _ o => (.done (orderPicture s o 0), s)
  | [g, ix, first] =>
    withHandle g ix s fun _ o =>
      if o.lines.length ≤ first.toNat then (refuse .limit, s) else (.done (orderPicture s o first.toNat), s)
  | _ => (refuse .badLength, s)

/-- READ_ORDER (R38). -/
def execReadOrder (p : Port) (s : State) : Host.Outcome State Fault Refusal := serve .readOrder readOrder p s

end Sys2Proof.Machine
end

