-- ==== Sys2Proof/Machine/Tunnel.lean ====
section
/-! DEFINITION. Chapter 7: the Tunnel station's arrival, the entry sensor with normal and forced entry, the belt
step with its missing-garment test, zone readings, the cure tick, the exit sensor, the cure profile. -/

namespace Sys2Proof.Machine

/-! ### The Tunnel station (R126, R128) -/

/-- The station becomes IDLE with no held unit and releases its hold (R128, R132). -/
def tunnelRelease (s : State) : State :=
  releaseHold .tunnel (s.setTunnel { s.tunnel with state := .idle, held := none })

/-- The Tunnel station holds a unit and makes the entry test (R128). -/
def tunnelHold (u : UnitNo) (s : State) : State :=
  s.setTunnel { s.tunnel with state := if entryTest s then .transferWait else .inhibited, held := some u }

/-- The Tunnel station takes its platen-arrived event (R128). -/
def tunnelArrival (s : State) : State :=
  match s.ring.arrivals.tunnel with
  | none => s
  | some a =>
    let s1 := takeArrival .tunnel s
    match (tget s1.ring.platens a.platen).unit with
    | none => releaseHold .tunnel s1
    | some u => tunnelHold u s1

/-- TUNNEL_ARRIVAL (R128). Where no event waits to be taken nothing changes (log entry 9). -/
def execTunnelArrival (s : State) : Host.Outcome State Fault Refusal := .next (tunnelArrival s)

/-! ### The cure record (R129) -/

/-- E_req of an unfaulted unit (R129): the fabric's base, the ink's and the fluid's share, clamped. -/
def requiredExposure (pr : CureProfile) (sh : Shirt) : Nat :=
  let ink := sh.print.getD { white := 0, colour := 0, fired := 0, dry := 0 }
  let fluid := (sh.dose.map (·.fluid)).getD 0
  min (tget pr.base sh.sku.fabric + (ink.white * pr.whiteWeight + ink.colour * pr.colourWeight) / 256 + fluid / 128)
    Config.exposureMax

/-- The scorch limit for a required exposure (R129). -/
def scorchLimit (pr : CureProfile) (sh : Shirt) (required : Nat) : Nat :=
  min (required + tget pr.margin sh.sku.fabric) Config.exposureMax

/-- The cure record written at an entry (R129): a faulted unit requires nothing. -/
def entryRecord (pr : CureProfile) (sh : Shirt) : CureRecord :=
  let required := if sh.fault.isSome then 0 else requiredExposure pr sh
  { required := some required, exposure := 0, scorch := some (scorchLimit pr sh required)
    result := if sh.fault.isSome then .notRequired else .pending }

/-- The cure record of a unit forced onto the exit list (R130). -/
def unmeasuredRecord (sh : Shirt) : CureRecord :=
  { required := none, exposure := 0, scorch := none
    result := if sh.fault.isSome then .notRequired else .unmeasured }

/-! ### The entry sensor (R129, R130) -/

/-- A unit is freed as lost and UNIT LOST is posted (7.3). Every number the notice carries is taken before the
freeing. A queue record of no unit in use, which arises in no run, just leaves (log entry 23). -/
def loseUnit (u : UnitNo) (reason : LostReason) (s : State) : State :=
  match s.shirt u with
  | none => leaveQueue u s
  | some sh => post .pack (.unitLost (s.tagOf u) sh.order sh.line.val reason) (freeUnit .lost u s)

/-- A unit joins the tunnel queue at a transfer: cure record, CURING, and the flag UNREADY ENTRY when it was
forced in (R129, R130). -/
def enterQueue (u : UnitNo) (forced : Bool) (s : State) : State :=
  joinQueue u
    (modifyShirt u
      (fun sh => { sh with
        state := .curing
        cure := some (entryRecord s.tunnel.profile sh)
        flags := { sh.flags with unreadyEntry := sh.flags.unreadyEntry || forced } }) s)

/-- A unit is forced onto the exit list (R130). -/
def forceToExits (u : UnitNo) (s : State) : State :=
  joinExits u (modifyShirt u (fun sh => { sh with cure := some (unmeasuredRecord sh) }) s)

/-- A forced entry by R130's table. -/
def forcedEntry (u : UnitNo) (s : State) : State :=
  if s.tunnel.queue.length < Config.tunnelQueueMax ∧ s.tunnel.quiesce ≠ .quiesced then enterQueue u true s
  else if s.pack.exits.length < Config.exitListMax then forceToExits u s
  else loseUnit u .noRoom s

/-- The unit is lifted: it leaves its platen, and a held unit's station becomes IDLE and releases (R129, R130). -/
def liftUnit (u : UnitNo) (s : State) : State :=
  let s1 := leavePlaten u s
  if s.tunnel.held = some u then tunnelRelease s1 else s1

/-- An arrival of the tunnel entry sensor by R129's table; the entry test is made as the arrival finds the part. -/
def tunnelEntry (s : State) : State :=
  match unitAt s Holder.tunnel.position with
  | none => post .order (.ghostEntry s.tunnel.belt) s
  | some u => if entryTest s then enterQueue u false (liftUnit u s) else forcedEntry u (liftUnit u s)

/-- TUNNEL_ENTRY_SENSOR (R129). -/
def execTunnelEntrySensor (s : State) : Host.Outcome State Fault Refusal := .next (tunnelEntry s)

/-! ### The belt (R124, R142) -/

/-- The travel of a queue record, modulo 2^32 (7.2). -/
def travelOf (s : State) (r : QueueRecord) : Nat := (s.tunnel.belt - r.entry).toNat

/-- The missing-garment test, repeated on each new oldest record (R142). `fuel` bounds it by the queue's length. -/
def missingGarments : Nat → State → State
  | 0, s => s
  | fuel + 1, s =>
    match s.tunnel.queue with
    | [] => s
    | r :: _ =>
      if s.tunnel.profile.length + s.tunnel.profile.window < travelOf s r then
        missingGarments fuel (loseUnit r.unit .missing s)
      else s

/-- A belt step: the belt position rises, then the missing-garment test is made (R124). -/
def beltStep (s : State) : State :=
  let s1 := s.setTunnel { s.tunnel with belt := s.tunnel.belt + 1 }
  missingGarments s1.tunnel.queue.length s1

/-- BELT_STEP (R124). -/
def execBeltStep (s : State) : Host.Outcome State Fault Refusal := .next (beltStep s)

/-! ### Zone readings (R135) -/

/-- A zone record is written. -/
def putZone (z : ZoneNo) (x : Zone) (s : State) : State := s.setTunnel { s.tunnel with zones := tset s.tunnel.zones z x }

/-- The reading that reports the sensor's own fault (R135). -/
def faultReading : BitVec 10 := 1023

/-- A zone that has heard a reading: heard yes, missed ticks 0 (R135). -/
def Zone.hear (x : Zone) : Zone := { x with heard := true, missed := 0 }

/-- A valid reading: LIVE with the reading; a zone that was not LIVE begins its stale count again (R135). -/
def Zone.valid (x : Zone) (reading : Nat) : Zone :=
  match x.state with
  | .live => { x.hear with lastValid := some reading }
  | .stale | .lapsed => { x.hear with lastValid := some reading, staleTicks := 0, state := .live }

/-- A reading by R135's table. -/
def zoneReading (z : ZoneNo) (reading : BitVec 10) (s : State) : State :=
  let x := tget s.tunnel.zones z
  if reading = faultReading then
    match x.state with
    | .live => post .order (.zoneStale z .faultReading) (putZone z { x.hear with state := .stale, staleTicks := 0 } s)
    | .stale | .lapsed => putZone z x.hear s
  else putZone z (x.valid reading.toNat) s

/-- ZONE_READING (R135). -/
def execZoneReading (z : ZoneNo) (reading : BitVec 10) (s : State) : Host.Outcome State Fault Refusal :=
  .next (zoneReading z reading s)

/-! ### The cure tick (R136 to R140) -/

/-- Something is done to each zone, in zone order. -/
def eachZone (f : ZoneNo → State → State) (s : State) : State := (List.finRange 4).foldl (fun s z => f z s) s

/-- Every zone record is revised. -/
def mapZones (f : Zone → Zone) (s : State) : State := s.setTunnel { s.tunnel with zones := tmap f s.tunnel.zones }

/-- R137 item 1: the temperature is the last valid reading, halved and floored. -/
def Zone.takeTemperature (x : Zone) : Zone :=
  match x.lastValid with
  | some r => { x with temperature := r / 2 }
  | none => x

/-- R137 item 2 for one zone: a tick without a reading; the third makes a LIVE zone STALE. -/
def absenceTick (z : ZoneNo) (s : State) : State :=
  let x := tget s.tunnel.zones z
  if x.heard then s
  else
    let missed := min (x.missed + 1) Config.missedMax
    if missed = Config.missedMax ∧ x.state = .live then
      post .order (.zoneStale z .noReading) (putZone z { x with missed := missed, state := .stale, staleTicks := 0 } s)
    else putZone z { x with missed := missed } s

/-- R137 item 3 for one zone: a STALE zone counts its tick, and lapses at the ninth. -/
def staleTick (z : ZoneNo) (s : State) : State :=
  let x := tget s.tunnel.zones z
  if x.state = .stale then
    if x.staleTicks + 1 < Config.lapseTick then putZone z { x with staleTicks := x.staleTicks + 1 } s
    else
      post .order (.zoneLapsed z)
        (putZone z { x with staleTicks := Config.lapseTick, state := .lapsed, duty := 0, overtemp := false } s)
  else s

/-- The sensor states are revised (R137 items 2 and 3): all absences, heard becomes no, then the stale counts
(log entry 14). -/
def reviseSensors (s : State) : State :=
  eachZone staleTick (mapZones (fun x => { x with heard := false }) (eachZone absenceTick s))

/-- The zone of a travel: min(3, floor(travel × 4 / L)) (R138). -/
def zoneOf (length travel : Nat) : ZoneNo :=
  match travel * 4 / length with
  | 0 => 0
  | 1 => 1
  | 2 => 2
  | _ => 3

/-- A zone's contribution to exposure (R138). -/
def Zone.contribution (floor : Nat) (x : Zone) : Nat :=
  match x.state with
  | .lapsed => 0
  | .live | .stale => x.temperature - floor

/-- An exposure with a contribution added, saturating (R138). -/
def exposed (e contribution : Nat) : Nat := min (e + contribution) Config.exposureMax

/-- One queue record's unit takes the heat of its zone (R138). -/
def exposeOne (s : State) (r : QueueRecord) : State :=
  let pr := s.tunnel.profile
  let heat := (tget s.tunnel.zones (zoneOf pr.length (travelOf s r))).contribution pr.floor
  modifyShirt r.unit
    (fun sh => { sh with cure := sh.cure.map fun c => { c with exposure := exposed c.exposure heat } }) s

/-- Exposure is added to every unit in the queue, head to tail (R138). -/
def addExposure (s : State) : State := s.tunnel.queue.foldl exposeOne s

/-- The OVERTEMP test of a LIVE zone (R139). -/
def Zone.overtempAfter (limit : Nat) (x : Zone) : Bool :=
  if x.overtemp then decide (limit < x.temperature + 10) else decide (limit ≤ x.temperature)

/-- The control law (R139): duty + floor((SP − T) × G / 16), floor toward minus infinity, clamped to 0..255. -/
def controlLaw (duty setpoint temperature gain : Nat) : Nat :=
  (max 0 (min 255 ((duty : Int) + ((setpoint : Int) - temperature) * gain / 16))).toNat

/-- A LIVE zone after the OVERTEMP test and the duty revision (R139). -/
def Zone.revised (pr : CureProfile) (z : ZoneNo) (x : Zone) : Zone :=
  let hot := x.overtempAfter pr.limit
  { x with overtemp := hot
           duty := if hot then 0 else controlLaw x.duty (tget pr.setpoints z) x.temperature pr.gain }

/-- R139 for one zone, with OVERTEMP posted on entry. The zones are taken in zone order, so the OVERTEMP notices of
one tick join in that order: the model's choice (log entry 14). -/
def dutyTick (z : ZoneNo) (s : State) : State :=
  let x := tget s.tunnel.zones z
  match x.state with
  | .live =>
    let y := x.revised s.tunnel.profile z
    let s1 := putZone z y s
    if !x.overtemp && y.overtemp then post .order (.overtemp z x.temperature) s1 else s1
  | .stale => s
  | .lapsed => putZone z { x with duty := 0 } s

/-- A zone stands at its setpoint: LIVE, T_z within 5 °C (R140). -/
def Zone.settled (setpoint : Nat) (x : Zone) : Bool :=
  decide (x.state = .live) && decide (x.temperature ≤ setpoint + 5) && decide (setpoint ≤ x.temperature + 5)

/-- The tick is settled: every zone is (R140). -/
def settledTick (s : State) : Bool :=
  (List.finRange 4).all fun z => (tget s.tunnel.zones z).settled (tget s.tunnel.profile.setpoints z)

/-- The TUNNEL READY test (R140). -/
def readyTest (s : State) : State :=
  if s.tunnel.ready then s
  else if !settledTick s then s.setTunnel { s.tunnel with readyRun := 0 }
  else if s.tunnel.readyRun + 1 < Config.readyTicks then s.setTunnel { s.tunnel with readyRun := s.tunnel.readyRun + 1 }
  else retest (post .order .tunnelReady (s.setTunnel { s.tunnel with readyRun := Config.readyTicks, ready := true }))

/-- One cure tick: the five parts of R136 in order, the timer started again at the moment it is taken. -/
def cureTick (s : State) : State :=
  let s1 := s.setTunnel { s.tunnel with tickStart := s.time.now }
  readyTest (eachZone dutyTick (addExposure (reviseSensors (mapZones Zone.takeTemperature s1))))

/-- CURE_TICK is due: the tick period has elapsed since the timer's last start (R136). -/
def cureTickDue (s : State) : Bool := decide (s.tunnel.profile.tickPeriod ≤ elapsedSince s s.tunnel.tickStart)

/-- CURE_TICK (R136). Before the period has elapsed nothing changes (log entries 8, 27). -/
def execCureTick (s : State) : Host.Outcome State Fault Refusal := .next (if cureTickDue s then cureTick s else s)

/-! ### The exit sensor (R141) -/

/-- The cure result at an exit (R141). -/
def CureRecord.judged (c : CureRecord) : CureResult :=
  if c.result = .notRequired then .notRequired
  else if c.exposure < c.required.getD 0 then .undercured
  else if c.exposure ≤ c.scorch.getD 0 then .cured
  else .scorched

/-- An exit (R141): from the queue to the tail of the exit list, and the cure result is set. -/
def exitUnit (u : UnitNo) (s : State) : State :=
  modifyShirt u (fun sh => { sh with cure := sh.cure.map fun c => { c with result := c.judged } })
    (joinExits u (leaveQueue u s))

/-- An arrival of the tunnel exit sensor by R141's table. -/
def tunnelExit (s : State) : State :=
  match s.tunnel.queue with
  | [] => post .pack (.ghostExit s.tunnel.belt none) s
  | r :: _ =>
    if travelOf s r < s.tunnel.profile.length - s.tunnel.profile.window then
      post .pack (.ghostExit s.tunnel.belt (some (s.tagOf r.unit, s.tunnel.belt - r.entry))) s
    else if s.pack.exits.length < Config.exitListMax then exitUnit r.unit s
    else loseUnit r.unit .exitFull s

/-- TUNNEL_EXIT_SENSOR (R141). -/
def execTunnelExitSensor (s : State) : Host.Outcome State Fault Refusal := .next (tunnelExit s)

/-! ### WRITE CURE PROFILE (R123) -/

/-- A table from a list of numbers, from an index of the list onward. -/
def tableFrom {n : Nat} (l : List Nat) (first : Nat) : Vector Nat n := tableOf fun i => (l[first + i.val]?).getD 0

/-- The profile a WRITE CURE PROFILE body carries (A.7). -/
def profileOf (body : List Byte) : Option CureProfile :=
  match body with
  | t1 :: t0 :: l1 :: l0 :: w1 :: w0 :: s0 :: s1 :: s2 :: s3 :: fl :: g :: m1 :: m0 :: kw :: kc :: rest =>
    let ns := numbers2 rest
    some
      { tickPeriod := number2 t1 t0, length := number2 l1 l0, window := number2 w1 w0
        setpoints := tableFrom [s0.toNat, s1.toNat, s2.toNat, s3.toNat] 0
        floor := fl.toNat, gain := g.toNat, limit := number2 m1 m0
        whiteWeight := kw.toNat, colourWeight := kc.toNat, base := tableFrom ns 0, margin := tableFrom ns 8 }
  | _ => none

/-- The ranges of the cure profile (R122, R123). -/
def CureProfile.inRange (x : CureProfile) : Bool :=
  (x.tickPeriod == 250 || x.tickPeriod == 500 || x.tickPeriod == 1000 || x.tickPeriod == 2000)
    && decide (200 ≤ x.length) && decide (x.length ≤ 4000) && decide (x.window ≤ x.length / 4)
    && x.setpoints.toList.all (fun t => decide (100 ≤ t) && decide (t ≤ 220))
    && decide (60 ≤ x.floor) && decide (x.floor ≤ 200) && decide (1 ≤ x.gain) && decide (x.gain ≤ 64)
    && decide (150 ≤ x.limit) && decide (x.limit ≤ 260) && x.base.toList.all (fun e => decide (e ≤ 20000))

/-- An accepted WRITE CURE PROFILE (R123): the profile whole, TUNNEL READY cleared, the timer started afresh. -/
def acceptProfile (x : CureProfile) (s : State) : State :=
  s.setTunnel { s.tunnel with profile := x, ready := false, readyRun := 0, tickStart := s.time.now }

/-- WRITE CURE PROFILE (R123): fields, then the gate. -/
def writeCureProfile : Handler := fun _ body s =>
  match profileOf body with
  | none => (refuse .badLength, s)
  | some x =>
    if !x.inRange then (refuse .badField, s)
    else if s.tunnel.quiesce ≠ .quiesced then (refuse .notQuiesced, s)
    else (.done [], acceptProfile x s)

/-- WRITE_CURE_PROFILE (R123). -/
def execWriteCureProfile (p : Port) (s : State) : Host.Outcome State Fault Refusal :=
  serve .writeCureProfile writeCureProfile p s

/-! ### READ TUNNEL (R143) -/

/-- The profile as the WRITE CURE PROFILE body lays it out (A.7). -/
def profileBytes (x : CureProfile) : List Byte :=
  bytes2 x.tickPeriod ++ bytes2 x.length ++ bytes2 x.window ++ x.setpoints.toList.flatMap bytes1 ++ bytes1 x.floor
    ++ bytes1 x.gain ++ bytes2 x.limit ++ bytes1 x.whiteWeight ++ bytes1 x.colourWeight
    ++ x.base.toList.flatMap bytes2 ++ x.margin.toList.flatMap bytes2

/-- A zone record as READ TUNNEL reports it (A.7). -/
def zoneBytes (x : Zone) : List Byte :=
  bytes1 x.state.code ++ orNone 2 bytes2 x.lastValid ++ bytes2 x.temperature ++ bytes1 x.missed ++ bytes1 x.staleTicks
    ++ bytes1 (yesNoCode x.heard) ++ bytes1 x.duty ++ bytes1 (yesNoCode x.overtemp)

/-- A tunnel queue record as READ TUNNEL reports it (A.7). -/
def queueRecordBytes (s : State) (r : QueueRecord) : List Byte :=
  let sh := s.shirt r.unit
  let cure := sh.bind (·.cure)
  tagBytes (s.tagOf r.unit) ++ bytes4 (travelOf s r) ++ orNone 2 (fun c => bytes2 c.exposure) cure
    ++ orNone 2 bytes2 (cure.bind (·.required)) ++ orNone 2 bytes2 (cure.bind (·.scorch))
    ++ bytes1 ((sh.map (·.flags.tunnelBits)).getD 0)

/-- READ TUNNEL (R143, A.7). -/
def readTunnel : Handler := fun _ _ s =>
  let t := s.tunnel
  let results :=
    profileBytes t.profile ++ bytes1 t.state.code ++ orNone 2 (fun u => tagBytes (s.tagOf u)) t.held
      ++ bytes1 t.quiesce.code ++ bytes1 (yesNoCode (transferInhibit s)) ++ bytes4 t.belt.toNat
      ++ bytes1 (yesNoCode t.ready) ++ bytes1 t.readyRun ++ bytes2 (elapsedSince s t.tickStart)
      ++ t.zones.toList.flatMap zoneBytes ++ bytes1 t.queue.length ++ t.queue.flatMap (queueRecordBytes s)
  (.done results, s)

/-- READ_TUNNEL (R143). -/
def execReadTunnel (p : Port) (s : State) : Host.Outcome State Fault Refusal := serve .readTunnel readTunnel p s

end Sys2Proof.Machine
end

