-- ==== Sys2Proof/Machine/Pack.lean ====
section
/-! DEFINITION. Chapter 8: MATCH, SCRAP, RECURE, BIN CLOSED, CLEAR SHELF SLOT and READ PACK. -/

namespace Sys2Proof.Machine

/-! ### MATCH (R145 to R149) -/

/-- The dispositions of a MATCH (8.2). -/
inductive MatchResult where
  | scrap | recureOrScrap | orphan (slot : SlotNo) | discard | bin (b : BinNo)
deriving DecidableEq, Repr

/-- The codes of the dispositions (A.4). -/
def MatchResult.code : MatchResult → Nat
  | .scrap => 0
  | .recureOrScrap => 1
  | .orphan _ => 2
  | .discard => 3
  | .bin _ => 4

/-- The bin or the slot a disposition names (A.4). -/
def MatchResult.place : MatchResult → Option Nat
  | .orphan sl => some sl.val
  | .bin b => some b.val
  | .scrap | .recureOrScrap | .discard => none

/-- The results of a MATCH, with the values the unit held when the disposition was decided (R149, A.4).
DESIGN CHOICE: A.4 names bits 0 to 5 of the indications; bits 6 and 7 are sent as 0 (log entry 35). -/
def matchResults (d : MatchResult) (tag : Tag) (sh : Shirt) (c : CureRecord) (web : Word32) (complete : Bool) :
    List Byte :=
  bytes1 d.code ++ orNone 1 bytes1 d.place ++ tagBytes tag ++ handleBytes sh.order ++ bytes4 web.toNat
    ++ bytes1 sh.line.val ++ bytes1 c.result.code ++ bytes2 c.exposure ++ bytes2 (c.required.getD 0)
    ++ bytes2 (c.scorch.getD 0) ++ bytes1 (faultCode sh.fault)
    ++ bytes1 (sh.flags.bits + bit 4 complete + bit 5 (c.required.isSome && c.scorch.isSome))

/-- Whether an order has become COMPLETE. -/
def isComplete (s : State) (i : OrderNo) : Bool := (s.order i).any fun o => decide (o.state = .complete)

/-- A CURED unit of a CANCELLING order (R147). -/
def matchOrphan (u : UnitNo) (sh : Shirt) (c : CureRecord) (o : Order) (s : State) : Reply × State :=
  match lowestFreeSlot s with
  | some sl =>
    (.done (matchResults (.orphan sl) (s.tagOf u) sh c o.webNumber false),
      freeUnit .orphaned u (placeEntry sl sh.artwork sh.sku s))
  | none => (.done (matchResults .discard (s.tagOf u) sh c o.webNumber false), freeUnit .scrapped u s)

/-- The additions of REFUSED NO BIN (R149, A.1). -/
def noBinAdditions (tag : Tag) (sh : Shirt) (o : Order) : List Byte :=
  tagBytes tag ++ handleBytes sh.order ++ bytes4 o.webNumber.toNat

/-- A CURED unit of an ACTIVE or HELD order (R148). -/
def matchBin (u : UnitNo) (sh : Shirt) (c : CureRecord) (o : Order) (s : State) : Reply × State :=
  match assignBin sh.order.index s with
  | none => (.refused .noBin (noBinAdditions (s.tagOf u) sh o), s)
  | some (b, s1) =>
    let s2 := freeUnit .binned u s1
    (.done (matchResults (.bin b) (s.tagOf u) sh c o.webNumber (isComplete s2 sh.order.index)), s2)

/-- The four tests of R145 for an EXITED unit. The tests cover every run; elsewhere the reply is STATE (log entry 23). -/
def matchExited (u : UnitNo) (sh : Shirt) (c : CureRecord) (o : Order) (s : State) : Reply × State :=
  if sh.fault.isSome ∨ c.result = .scorched then
    (.done (matchResults .scrap (s.tagOf u) sh c o.webNumber false), freeUnit .scrapped u s)
  else if c.result = .undercured ∨ c.result = .unmeasured then
    (.done (matchResults .recureOrScrap (s.tagOf u) sh c o.webNumber false), s)
  else if c.result = .cured then
    match o.state with
    | .cancelling => matchOrphan u sh c o s
    | .active | .held => matchBin u sh c o s
    | .complete => (refuse .state, s)
  else (refuse .state, s)

/-- MATCH (R145). -/
def matchShirt : Handler := fun _ body s =>
  match body with
  | [hi, lo] =>
    withTag hi lo s fun u sh =>
      if sh.state ≠ .exited then (refuse .notExited, s)
      else
        match sh.cure, s.order sh.order.index with
        | some c, some o => matchExited u sh c o s
        | _, _ => (refuse .state, s)
  | _ => (refuse .badLength, s)

/-- MATCH (R145). -/
def execMatch (p : Port) (s : State) : Host.Outcome State Fault Refusal := serve .matchShirt matchShirt p s

/-! ### SCRAP (R150, R151) -/

/-- The unit is in process and cannot be scrapped (R150). -/
def inProcess (s : State) (u : UnitNo) (sh : Shirt) : Bool :=
  decide (sh.state = .pretreating) || (s.print.state.working && decide (s.print.held = some (s.tagOf u)))

/-- The unit's removal from the Print station (R119): release, then PLATEN WITHDRAWN where stage asked was yes. -/
def printWithdraw (u : UnitNo) (sh : Shirt) (s : State) : State :=
  let s1 := printRelease s
  if s.print.stageAsked then post .engine (.platenWithdrawn (s.tagOf u) sh.artwork) s1 else s1

/-- The station's side of an accepted SCRAP by R151's table. -/
def scrapStation (u : UnitNo) (sh : Shirt) (s : State) : State :=
  if pretreatHolds s u then pretreatRelease s
  else if s.print.held = some (s.tagOf u) then printWithdraw u sh s
  else if s.tunnel.held = some u then tunnelRelease s
  else s

/-- The results of SCRAP: handle, line position, scrap count and need after it, order state after it (R150, A.7). -/
def scrapResults (s : State) (sh : Shirt) (after : State) : List Byte :=
  let l := lineAfter s sh .scrapped
  handleBytes sh.order ++ bytes1 sh.line.val ++ bytes1 ((l.map (·.scrap)).getD 0) ++ bytes1 ((l.map (·.need)).getD 0)
    ++ bytes1 (orderStateCode ((after.order sh.order.index).map (·.state)))

/-- SCRAP (R150). -/
def scrap : Handler := fun _ body s =>
  match body with
  | [hi, lo] =>
    withTag hi lo s fun u sh =>
      if inProcess s u sh then (refuse .inProcess, s)
      else
        let s1 := freeUnit .scrapped u (scrapStation u sh s)
        (.done (scrapResults s sh s1), s1)
  | _ => (refuse .badLength, s)

/-- SCRAP (R150). -/
def execScrap (p : Port) (s : State) : Host.Outcome State Fault Refusal := serve .scrap scrap p s

/-! ### RECURE (R153, R154) -/

/-- The cure record of a recured unit (R154 steps 2 and 3). -/
def recured (pr : CureProfile) (sh : Shirt) (c : CureRecord) : CureRecord :=
  match c.result with
  | .unmeasured =>
    let required := requiredExposure pr sh
    { required := some required, exposure := c.exposure, scorch := some (scorchLimit pr sh required), result := .pending }
  | .pending | .cured | .undercured | .scorched | .notRequired => { c with result := .pending }

/-- An accepted RECURE (R154). -/
def acceptRecure (u : UnitNo) (c : CureRecord) (s : State) : State :=
  joinQueue u
    (modifyShirt u
      (fun sh => { sh with state := .curing, cure := some c, flags := { sh.flags with recured := true } })
      (leaveExits u s))

/-- The results of RECURE (R154, A.7). -/
def recureResults (c : CureRecord) : List Byte :=
  orNone 2 bytes2 c.required ++ orNone 2 bytes2 c.scorch ++ bytes2 c.exposure

/-- The checks of R153 from the cure result on. -/
def recureChecked (u : UnitNo) (sh : Shirt) (c : CureRecord) (s : State) : Reply × State :=
  if c.result ≠ .undercured ∧ c.result ≠ .unmeasured then (refuse .state, s)
  else if sh.flags.recured then (refuse .recureLimit, s)
  else if s.tunnel.quiesce ≠ .running then (refuse .quiesced, s)
  else if Config.tunnelQueueMax ≤ s.tunnel.queue.length then (refuse .full, s)
  else
    let c1 := recured s.tunnel.profile sh c
    (.done (recureResults c1), acceptRecure u c1 s)

/-- RECURE (R153). -/
def recure : Handler := fun _ body s =>
  match body with
  | [hi, lo] =>
    withTag hi lo s fun u sh =>
      if sh.state ≠ .exited then (refuse .notExited, s)
      else
        match sh.cure with
        | some c => recureChecked u sh c s
        | none => (refuse .state, s)
  | _ => (refuse .badLength, s)

/-- RECURE (R153). -/
def execRecure (p : Port) (s : State) : Host.Outcome State Fault Refusal := serve .recure recure p s

/-! ### BIN CLOSED (R156) and CLEAR SHELF SLOT (R160) -/

/-- BIN CLOSED (R156): the bin becomes free and its COMPLETE order returns to FREE. -/
def binClosed : Handler := fun _ body s =>
  match body with
  | [num] =>
    match recordNo 24 num with
    | none => (refuse .badField, s)
    | some b =>
      match tget s.pack.bins b with
      | none => (refuse .state, s)
      | some h =>
        match s.order h.index with
        | none => (refuse .state, s)
        | some o =>
          if o.state ≠ .complete then (refuse .state, s)
          else
            (.done (handleBytes h ++ bytes4 o.webNumber.toNat), freeOrder h.index .closed (releaseBin b h.index s))
  | _ => (refuse .badLength, s)

/-- BIN_CLOSED (R156). -/
def execBinClosed (p : Port) (s : State) : Host.Outcome State Fault Refusal := serve .binClosed binClosed p s

/-- CLEAR SHELF SLOT (R160): the entry leaves the shelf and its age order. -/
def clearShelfSlot : Handler := fun _ body s =>
  match body with
  | [num] =>
    match recordNo 16 num with
    | none => (refuse .badField, s)
    | some sl =>
      match tget s.pack.shelf sl with
      | none => (refuse .state, s)
      | some e => (.done (bytes1 e.artwork.val ++ skuBytes e.sku ++ bytes4 e.stamp.toNat), removeEntry sl s)
  | _ => (refuse .badLength, s)

/-- CLEAR_SHELF_SLOT (R160). -/
def execClearShelfSlot (p : Port) (s : State) : Host.Outcome State Fault Refusal :=
  serve .clearShelfSlot clearShelfSlot p s

/-! ### READ PACK (R161) -/

/-- An entry of the exit list (R161, A.7). -/
def exitBytes (s : State) (u : UnitNo) : List Byte :=
  match s.shirt u with
  | none => noneBytes 12
  | some sh =>
    tagBytes (s.tagOf u) ++ handleBytes sh.order ++ bytes1 sh.line.val ++ orNone 1 (fun c => bytes1 c.result.code) sh.cure
      ++ orNone 2 (fun c => bytes2 c.exposure) sh.cure ++ orNone 2 bytes2 (sh.cure.bind (·.required))
      ++ bytes1 (faultCode sh.fault) ++ bytes1 sh.flags.bits

/-- A bin: its owner's handle and web order number and the shirts in it; none, none and 0 when free (R161, A.7). -/
def binBytes (s : State) (owner : Option Handle) : List Byte :=
  let o := owner.bind fun h => s.order h.index
  orNone 2 handleBytes owner ++ orNone 4 (fun x => bytes4 x.webNumber.toNat) o ++ bytes2 ((o.map (totalGood s)).getD 0)

/-- A slot of the shelf: its entry and its place in the age order; none in every field when empty (R161, A.7). -/
def slotBytes (s : State) (sl : SlotNo) : List Byte :=
  match tget s.pack.shelf sl with
  | none => noneBytes 9
  | some e => bytes1 e.artwork.val ++ skuBytes e.sku ++ bytes4 e.stamp.toNat ++ bytes1 (s.pack.age.idxOf sl)

/-- READ PACK's results for a part code (R161, A.2, A.7; entry counts of BINS and SHELF: log entry 17). -/
def packPart (s : State) (part : Byte) : Option (List Byte) :=
  if part = 0 then some (bytes1 0 ++ bytes1 s.pack.exits.length ++ s.pack.exits.flatMap (exitBytes s))
  else if part = 1 then some (bytes1 1 ++ bytes1 24 ++ s.pack.bins.toList.flatMap (binBytes s))
  else if part = 2 then some (bytes1 2 ++ bytes1 16 ++ (List.finRange 16).flatMap (slotBytes s))
  else none

/-- READ PACK (R161). -/
def readPack : Handler := fun _ body s =>
  match body with
  | [part] =>
    match packPart s part with
    | some results => (.done results, s)
    | none => (refuse .badField, s)
  | _ => (refuse .badLength, s)

/-- READ_PACK (R161). -/
def execReadPack (p : Port) (s : State) : Host.Outcome State Fault Refusal := serve .readPack readPack p s

end Sys2Proof.Machine
end

