-- ==== Sys2Proof/Machine/Reset.lean ====
section
/-! DEFINITION. The two resets: POWER ON (R17, R170 and every rule that gives a power-on value) and LINE RESET
(R18, R19, R90). -/

namespace Sys2Proof.Machine

/-- POWER_ON (R17, R170): every record, queue, output and timer takes its power-on value, each port the rate of its
strap. The commands that wait are outside the part and are kept (log entry 26). -/
def execPowerOn (straps : Straps) (s : State) : Host.Outcome State Fault Refusal :=
  .next { State.powerOn straps with pending := s.pending }

/-! ### LINE RESET (R18, R19) -/

/-- A unit record freed with disposition LINE RESET; a free record is left alone (R11, R16, R18 step 1). -/
def UnitRecord.freed (r : UnitRecord) : UnitRecord :=
  if r.shirt.isSome then { generation := nextUnitGeneration r.generation, shirt := none } else r

/-- R18 step 1: every unit is freed; platens, tunnel queue and exit list are left empty. -/
def resetUnits (s : State) : State :=
  let s1 := s.setUnits (tmap UnitRecord.freed s.units)
  let s2 := s1.setRing { s.ring with platens := tmap (fun p => { p with unit := none }) s.ring.platens }
  (s2.setTunnel { s.tunnel with queue := [] }).setPack { s.pack with exits := [] }

/-- R18 step 2, first half: the in-flight count of every line is 0. -/
def resetLines (s : State) : State :=
  s.setBook { s.book with lines := tmap (fun l => l.map fun x => { x with inFlight := 0 }) s.book.lines }

/-- What the return of the CANCELLING orders leaves: the state, and handle and web order number of each. -/
structure Returned where
  state : State
  freed : List (Handle × Word32)

/-- One CANCELLING order returns to FREE (R18 step 2, R37 steps 1 to 3). -/
def returnCancelling (r : Returned) (i : OrderNo) : Returned :=
  match r.state.order i with
  | some o =>
    if o.state = .cancelling then
      { state := returnDescriptor i r.state, freed := r.freed ++ [(r.state.handleOf i, o.webNumber)] }
    else r
  | none => r

/-- R18 step 2, second half: every CANCELLING order, in ascending order index. -/
def resetOrders (s : State) : Returned := (List.finRange 128).foldl returnCancelling { state := s, freed := [] }

/-- R18 step 3: holds, arrivals not yet taken and the pending request are cleared; ring state and grant stay. -/
def resetRing (s : State) : State :=
  s.setRing { s.ring with
    holds := { pretreat := false, print := false, tunnel := false }
    arrivals := { pretreat := none, print := none, tunnel := none }
    pendingIndex := false }

/-- The Print station after line reset: power-on values but for the next swath number and the engine profile
(R95, R115, R117). -/
def Print.cleared (x : Print) : Print := { Print.initial with nextNumber := x.nextNumber, watchdogLimit := x.watchdogLimit }

/-- R18 steps 4 to 7: the stations idle and RUNNING, the bar stopped (R90). -/
def resetStations (s : State) : State :=
  let s1 := s.setLoad { s.load with quiesce := .running }
  let s2 := s1.setPretreat { s.pretreat with state := .idle, plan := none, quiesce := .running }
  let s3 := s2.setBar (s.bar.stop (elapsedSince s s.bar.sweepStart))
  let s4 := s3.setPrint s.print.cleared
  s4.setTunnel { s.tunnel with state := .idle, held := none, quiesce := .running }

/-- A port's notice queue emptied and its OVERRUN flag cleared (R19). A frame partly received, and a junk run under
way, are kept as they stand: the model's choice (log entry 34). -/
def PortState.emptied (x : PortState) : PortState := { x with notices := [], overrun := false }

/-- R19: every queue is emptied, LINE RESET is posted to each port, then ORDER FREED for each returned order. -/
def resetNotices (freed : List (Handle × Word32)) (s : State) : State :=
  let s1 := s.setPorts
    { order := s.ports.order.emptied, load := s.ports.load.emptied
      engine := s.ports.engine.emptied, pack := s.ports.pack.emptied }
  let s2 := [Port.order, .load, .engine, .pack].foldl (fun s p => post p .lineReset s) s1
  freed.foldl (fun s x => post .order (.orderFreed x.1 x.2 .cancelled) s) s2

/-- The units in use, which line reset frees. -/
def unitsInUse (s : State) : Nat := countOf s.units fun r => r.shirt.isSome

/-- The line is cleared as R18 gives, then R19. -/
def clearLine (s : State) : State :=
  let r := resetOrders (resetLines (resetUnits s))
  let s1 := resetStations (resetRing r.state)
  resetNotices r.freed (s1.setTime { s1.time with lastReset := .lineReset })

/-- LINE RESET (R18): DONE with the number of unit records freed. -/
def lineReset : Handler := fun _ _ s => (.done (bytes1 (unitsInUse s)), clearLine s)

/-- LINE_RESET (R18). -/
def execLineReset (p : Port) (s : State) : Host.Outcome State Fault Refusal := serve .lineReset lineReset p s

end Sys2Proof.Machine
end

