-- ==== Sys2Proof/Machine/Rest.lean ====
section
/-! DEFINITION. Chapter 9: QUIESCE STATION and RESUME STATION. -/

namespace Sys2Proof.Machine

/-- A station has work in hand (chapter 9). -/
def workInHand (s : State) : Station → Bool
  | .load => false
  | .pretreat => decide (s.pretreat.state = .spraying)
  | .print => s.print.state.working
  | .tunnel => !s.tunnel.queue.isEmpty

/-- What a station does with a unit it has not begun when it ceases to be RUNNING (R167). -/
def restUnit (st : Station) (s : State) : State :=
  match st with
  | .load => s
  | .pretreat => if pretreatWaiting s then setPretreatState .quiesceWait none s else s
  | .print => if s.print.state = .waitArtwork then setPrintState .quiesceWait s else s
  | .tunnel => retest s

/-- QUIESCE STATION by R164's table. -/
def quiesceStation : Handler := fun _ body s =>
  match body with
  | [code] =>
    match stationOf code with
    | none => (refuse .badField, s)
    | some st =>
      match s.quiesce st with
      | .running =>
        if workInHand s st then
          (.done (bytes1 Quiesce.quiescing.code), restUnit st (setQuiesce st .quiescing s))
        else
          (.done (bytes1 Quiesce.quiesced.code), post .order (.quiesced st) (restUnit st (setQuiesce st .quiesced s)))
      | .quiescing => (.condition .already (bytes1 Quiesce.quiescing.code), s)
      | .quiesced => (.condition .already (bytes1 Quiesce.quiesced.code), s)
  | _ => (refuse .badLength, s)

/-- QUIESCE_STATION (R164). -/
def execQuiesceStation (p : Port) (s : State) : Host.Outcome State Fault Refusal :=
  serve .quiesceStation quiesceStation p s

/-- A station that has become RUNNING from QUIESCED begins a held unit as though it had just arrived (R167). -/
def beginHeld (st : Station) (s : State) : State :=
  match st with
  | .load => s
  | .pretreat => if s.pretreat.state = .quiesceWait then pretreatStartTest s else s
  | .print => if s.print.state = .quiesceWait then printStartTest s else s
  | .tunnel => retest s

/-- A station that has become RUNNING from QUIESCING: the Tunnel station's held unit is tested at once (R167). -/
def resumeWorking (st : Station) (s : State) : State :=
  match st with
  | .tunnel => retest s
  | .load | .pretreat | .print => s

/-- RESUME STATION by R166's table. -/
def resumeStation : Handler := fun _ body s =>
  match body with
  | [code] =>
    match stationOf code with
    | none => (refuse .badField, s)
    | some st =>
      let s1 := post .order (.resumed st (s.quiesce st)) (setQuiesce st .running s)
      match s.quiesce st with
      | .running => (.condition .already [], s)
      | .quiescing => (.done [], resumeWorking st s1)
      | .quiesced => (.done [], beginHeld st s1)
  | _ => (refuse .badLength, s)

/-- RESUME_STATION (R166). -/
def execResumeStation (p : Port) (s : State) : Host.Outcome State Fault Refusal :=
  serve .resumeStation resumeStation p s

end Sys2Proof.Machine
end

