-- ==== Sys2Proof/Machine/Ring.lean ====
section
/-! DEFINITION. Chapter 1 but for line reset: SET PLATEN, the index handshake, the Time Base's millisecond. -/

namespace Sys2Proof.Machine

/-- TIME_BASE_TICK (R17): the count advances by one and wraps to 0 after 4,294,967,295. -/
def execTimeBaseTick (s : State) : Host.Outcome State Fault Refusal :=
  .next (s.setTime { s.time with now := s.time.now + 1 })

/-- SET PLATEN (R3): fields, then IN USE while the platen carries a unit, then both fields are replaced. -/
def setPlaten : Handler := fun _ body s =>
  match body with
  | [pl, cls, en] =>
    match recordNo 12 pl, sizeClassOf cls, yesNoOf en with
    | some p, some c, some e =>
      let x := tget s.ring.platens p
      if x.unit.isSome then (refuse .inUse, s)
      else
        (.done [], s.setRing { s.ring with platens := tset s.ring.platens p { x with sizeClass := c, enabled := e } })
    | _, _, _ => (refuse .badField, s)
  | _ => (refuse .badLength, s)

/-- SET_PLATEN (R3). -/
def execSetPlaten (p : Port) (s : State) : Host.Outcome State Fault Refusal := serve .setPlaten setPlaten p s

/-- INDEX REQUEST by R7's table: granted at once on a STILL ring with every hold clear, made pending or absorbed
while a hold is set, absorbed while MOVING. -/
def indexRequest (s : State) : State :=
  match s.ring.state with
  | .moving => s
  | .still =>
    if s.ring.holds.allClear then s.setRing s.ring.grant
    else s.setRing { s.ring with pendingIndex := true }

/-- INDEX_REQUEST (R7). -/
def execIndexRequest (s : State) : Host.Outcome State Fault Refusal := .next (indexRequest s)

/-- Every platen's position advances by one, 11 to 0 (R9 step 1). -/
def advancePlatens (v : Vector Platen 12) : Vector Platen 12 := tmap (fun p => { p with position := p.position + 1 }) v

/-- The platen-arrived event for a station, as the platens stand (R5, R9 step 3). -/
def arrivalAt (s : State) (w : Holder) : Option Arrival :=
  (platenAt s w.position).map fun p => { platen := p, unit := (tget s.ring.platens p).unit }

/-- INDEX DONE (R9, R10): on a MOVING ring the platens advance, the grant is withdrawn and the three arrivals are
delivered with their holds set; on a STILL ring INDEX FAULT is posted and nothing else changes. -/
def indexDone (s : State) : State :=
  match s.ring.state with
  | .still => post .order .indexFault s
  | .moving =>
    let s1 := s.setRing { s.ring with
      platens := advancePlatens s.ring.platens, indexGrant := false, state := .still }
    s1.setRing { s1.ring with
      holds := { pretreat := true, print := true, tunnel := true }
      arrivals :=
        { pretreat := arrivalAt s1 .pretreat, print := arrivalAt s1 .print, tunnel := arrivalAt s1 .tunnel } }

/-- INDEX_DONE (R9, R10). -/
def execIndexDone (s : State) : Host.Outcome State Fault Refusal := .next (indexDone s)

end Sys2Proof.Machine
end

