-- ==== Sys2Proof/Machine/Spray.lean ====
section
/-! DEFINITION. Chapter 5's commands that reach the bar and the Pretreat station together: BAR IN POSITION, BAR
FAULT, BAR CLEAR, the spray settings and READ SPRAY BAR. -/

namespace Sys2Proof.Machine

/-- The unit a plan was made for. -/
def SprayPlan.unit (p : SprayPlan) : UnitNo := p.tag.unit

/-- The sequence ends with the bar parked (R89). -/
def sequenceParked (p : SprayPlan) (s : State) : State :=
  let s1 := s.setBar { s.bar.park with plan := none }
  let s2 := pretreatRelease (setUnitState p.unit .pretreated s1)
  completeQuiesce .pretreat (postPretreated p.unit s2)

/-- The bar becomes PARKED with no sequence ended: a waiting plan's first move follows at once (R86). -/
def Bar.parkAndGo (b : Bar) : Bar := if b.planWaiting then b.park.firstMove else b.park

/-- BAR IN POSITION by R86's table. -/
def barInPosition (s : State) : State :=
  match s.bar.state with
  | .moving =>
    match s.bar.target with
    | some (.band _) => s.setBar (s.bar.startSweep s.time.now)
    | some .home =>
      match s.bar.plan with
      | some p => if s.bar.planWaiting then s.setBar s.bar.parkAndGo else sequenceParked p s
      | none => s.setBar s.bar.parkAndGo
    | none => s
  | .faulted =>
    if s.bar.clearPending then
      let s1 := s.setBar { s.bar.park with clearPending := false }
      if s1.pretreat.state = .barFault then pretreatStartTest s1 else s1
    else s
  | .parked | .sweeping | .centring => s

/-- BAR_IN_POSITION (R86). -/
def execBarInPosition (s : State) : Host.Outcome State Fault Refusal := .next (barInPosition s)

/-- A sequence ends by a bar fault (R91 steps 1 to 4). Where the plan waited for the bar to park, band and sweeps
done are none. -/
def sequenceFaulted (p : SprayPlan) (s : State) : State :=
  let was := s.bar
  let s1 := s.setBar was.fail
  let s2 := setUnitState p.unit .pretreated (noteFault p.unit .pretreatFault s1)
  let s3 := completeQuiesce .pretreat (pretreatRelease s2)
  post .load
    (.barFault (some p.tag) was.state (if was.planWaiting then none else was.band)
      (if was.planWaiting then none else some was.sweepsDone)) s3

/-- BAR FAULT is posted with no unit; band and sweeps done are none (R91, log entry 18). -/
def postBareFault (st : BarState) (s : State) : State := post .load (.barFault none st none none) s

/-- A fault that ends no sequence: the bar is FAULTED, and a unit held in LOW FLUID is held in BAR FAULT (R91, R75). -/
def bareFault (s : State) : State :=
  let st := s.bar.state
  let s1 := s.setBar s.bar.fail
  let s2 := if s1.pretreat.state = .lowFluid then setPretreatState .barFault s1.pretreat.plan s1 else s1
  postBareFault st s2

/-- BAR FAULT by R91's table. -/
def barFault (s : State) : State :=
  match s.bar.state with
  | .faulted =>
    if s.bar.clearPending then
      postBareFault .faulted (s.setBar { s.bar with clearPending := false, target := none })
    else s
  | .parked => bareFault s
  | .moving | .sweeping | .centring =>
    match s.bar.plan with
    | some p => sequenceFaulted p s
    | none => bareFault s

/-- BAR_FAULT (R91). -/
def execBarFault (s : State) : Host.Outcome State Fault Refusal := .next (barFault s)

/-- BAR CLEAR by R92's table. -/
def barClear : Handler := fun _ _ s =>
  match s.bar.state with
  | .faulted =>
    if s.bar.clearPending then (.condition .already [], s)
    else (.done [], s.setBar { s.bar with clearPending := true, target := some .home })
  | .parked | .moving | .sweeping | .centring => (refuse .state, s)

/-- BAR_CLEAR (R92). -/
def execBarClear (p : Port) (s : State) : Host.Outcome State Fault Refusal := serve .barClear barClear p s

/-- The five settings a WRITE SPRAY SETTINGS body carries (A.7). -/
def settingsOf (body : List Byte) : Option SpraySettings :=
  match body with
  | [t1, t0, a, h1, h0, p, d] =>
    some { sweepTime := number2 t1 t0, amplitude := a.toNat, halfPeriod := number2 h1 h0
           passCapacity := p.toNat, minDose := d.toNat }
  | _ => none

/-- The ranges of the spray settings (R81, R82). -/
def SpraySettings.inRange (x : SpraySettings) : Bool :=
  decide (200 ≤ x.sweepTime) && decide (x.sweepTime ≤ 2000) && decide (x.sweepTime % 10 = 0)
    && decide (x.amplitude ≤ 7) && decide (50 ≤ x.halfPeriod) && decide (x.halfPeriod ≤ 400)
    && decide (20 ≤ x.passCapacity) && decide (x.passCapacity ≤ 200) && decide (x.minDose ≤ 100)

/-- A dither-off write: amplitude 0 and every other setting as in force (R82). -/
def ditherOffWrite (inForce x : SpraySettings) : Bool :=
  decide (x.amplitude = 0) && decide (x.sweepTime = inForce.sweepTime) && decide (x.halfPeriod = inForce.halfPeriod)
    && decide (x.passCapacity = inForce.passCapacity) && decide (x.minDose = inForce.minDose)

/-- The dither-off write's effect on a dithered sweep in progress: the sweep ends at the first crossing that
follows the write (R83). The first such write of a sweep decides (log entry 21). -/
def Bar.ditherOff (w : Nat) (b : Bar) : Bar :=
  let b1 := { b with settings := { b.settings with amplitude := 0 } }
  if b.state = .sweeping ∧ b.dithering = true then { b1 with ditherOffAt := b.ditherOffAt.orElse fun _ => some w }
  else b1

/-- WRITE SPRAY SETTINGS (R82, R83). -/
def writeSpraySettings : Handler := fun _ body s =>
  match settingsOf body with
  | none => (refuse .badLength, s)
  | some x =>
    if !x.inRange then (refuse .badField, s)
    else if ditherOffWrite s.bar.settings x then
      (.done [], s.setBar (s.bar.ditherOff (elapsedSince s s.bar.sweepStart)))
    else if s.pretreat.quiesce ≠ .quiesced then (refuse .notQuiesced, s)
    else (.done [], s.setBar { s.bar with settings := x })

/-- WRITE_SPRAY_SETTINGS (R82). -/
def execWriteSpraySettings (p : Port) (s : State) : Host.Outcome State Fault Refusal :=
  serve .writeSpraySettings writeSpraySettings p s

/-- The target READ SPRAY BAR reports: while MOVING (R84). -/
def Bar.reportedTarget (b : Bar) : Option Target := if b.state = .moving then b.target else none

/-- READ SPRAY BAR (R84, A.7). -/
def readSprayBar : Handler := fun _ _ s =>
  let b := s.bar
  let x := b.settings
  let results :=
    bytes2 x.sweepTime ++ bytes1 x.amplitude ++ bytes2 x.halfPeriod ++ bytes1 x.passCapacity ++ bytes1 x.minDose
      ++ bytes1 b.state.code ++ orNone 1 (fun t => bytes1 t.code) b.reportedTarget
      ++ orNone 2 (fun p => tagBytes p.tag) b.plan ++ bytes1 (yesNoCode b.planWaiting) ++ orNone 1 bytes1 b.band
      ++ bytes1 b.sweepsDone ++ bytes1 b.nextDirection.code ++ bytes1 (yesNoCode b.dithering)
      ++ bytes1 (yesNoCode b.clearPending)
  (.done results, s)

/-- READ_SPRAY_BAR (R84). -/
def execReadSprayBar (p : Port) (s : State) : Host.Outcome State Fault Refusal := serve .readSprayBar readSprayBar p s

end Sys2Proof.Machine
end

