-- ==== Sys2Proof/Machine/Status.lean ====
section
/-! DEFINITION. Chapter 10's own requests: FETCH NOTICE and READ STATUS. -/

namespace Sys2Proof.Machine

/-- The results of FETCH NOTICE: OVERRUN, the records left, the record or kind NONE (R177, A.4). -/
def fetchResults (x : PortState) : List Byte :=
  bytes1 (yesNoCode x.overrun) ++ bytes1 x.notices.tail.length
    ++ match x.notices with
      | r :: _ => noticeBytes r
      | [] => noNoticeBytes

/-- FETCH NOTICE (R177): the oldest record leaves the queue of the port and OVERRUN is cleared. -/
def fetchNotice : Handler := fun p _ s =>
  let x := s.port p
  (.done (fetchResults x), s.setPort p { x with notices := x.notices.tail, overrun := false })

/-- FETCH_NOTICE (R177). -/
def execFetchNotice (p : Port) (s : State) : Host.Outcome State Fault Refusal := serve .fetchNotice fetchNotice p s

/-- The results of READ STATUS (R178, A.4). -/
def statusResults (p : Port) (s : State) : List Byte :=
  bytes1 s.time.lastReset.code ++ bytes4 s.time.now.toNat ++ bytes1 s.ring.state.code ++ bytes1 (statusBits s)
    ++ bytes1 s.pretreat.state.code ++ bytes1 s.print.state.code ++ bytes1 s.tunnel.state.code
    ++ bytes1 s.load.quiesce.code ++ bytes1 s.pretreat.quiesce.code ++ bytes1 s.print.quiesce.code
    ++ bytes1 s.tunnel.quiesce.code ++ bytes1 s.bar.state.code ++ bytes1 s.tunnel.queue.length
    ++ bytes1 s.pack.exits.length ++ s.tunnel.zones.toList.flatMap (fun z => bytes1 z.state.code ++ bytes1 z.duty)
    ++ bytes4 s.pretreat.reservoir ++ bytes1 (stagedCount s) ++ bytes1 (freeUnits s) ++ bytes2 (freeLines s)
    ++ bytes1 (freeOrders s) ++ bytes1 (freeBins s) ++ bytes1 (freeSlots s) ++ bytes1 s.book.active.length
    ++ bytes2 (s.port p).frameErrors

/-- READ STATUS (R178): after the reply has been formed the port's frame error count is 0. -/
def readStatus : Handler := fun p _ s => (.done (statusResults p s), s.setPort p { s.port p with frameErrors := 0 })

/-- READ_STATUS (R178). -/
def execReadStatus (p : Port) (s : State) : Host.Outcome State Fault Refusal := serve .readStatus readStatus p s

end Sys2Proof.Machine
end

