-- ==== Sys2Proof/Machine/Dispatch.lean ====
section
/-! DEFINITION. The command's effect on everything but the queue of commands: one arm per constructor of `Instr`. -/

namespace Sys2Proof.Machine

def exec (i : Instr) (s : State) : Host.Outcome State Fault Refusal :=
  match i with
  | .powerOn straps => Sys2Proof.Machine.execPowerOn straps s
  | .timeBaseTick => Sys2Proof.Machine.execTimeBaseTick s
  | .frameReceived port chars => Sys2Proof.Machine.execFrameReceived port chars s
  | .intercharacterTimeout port => Sys2Proof.Machine.execIntercharacterTimeout port s
  | .setPlaten port => Sys2Proof.Machine.execSetPlaten port s
  | .lineReset port => Sys2Proof.Machine.execLineReset port s
  | .indexRequest => Sys2Proof.Machine.execIndexRequest s
  | .indexDone => Sys2Proof.Machine.execIndexDone s
  | .pretreatArrival => Sys2Proof.Machine.execPretreatArrival s
  | .printArrival => Sys2Proof.Machine.execPrintArrival s
  | .tunnelArrival => Sys2Proof.Machine.execTunnelArrival s
  | .submitOrder port => Sys2Proof.Machine.execSubmitOrder port s
  | .holdOrder port => Sys2Proof.Machine.execHoldOrder port s
  | .releaseOrder port => Sys2Proof.Machine.execReleaseOrder port s
  | .cancelOrder port => Sys2Proof.Machine.execCancelOrder port s
  | .readOrder port => Sys2Proof.Machine.execReadOrder port s
  | .defineArtwork port => Sys2Proof.Machine.execDefineArtwork port s
  | .removeArtwork port => Sys2Proof.Machine.execRemoveArtwork port s
  | .readArtwork port => Sys2Proof.Machine.execReadArtwork port s
  | .artworkStaged port => Sys2Proof.Machine.execArtworkStaged port s
  | .artworkEvicted port => Sys2Proof.Machine.execArtworkEvicted port s
  | .load port => Sys2Proof.Machine.execLoad port s
  | .unload port => Sys2Proof.Machine.execUnload port s
  | .bypassPretreat port => Sys2Proof.Machine.execBypassPretreat port s
  | .writeColourTable port => Sys2Proof.Machine.execWriteColourTable port s
  | .writeSizeMap port => Sys2Proof.Machine.execWriteSizeMap port s
  | .writeDarkThreshold port => Sys2Proof.Machine.execWriteDarkThreshold port s
  | .writeScrapLimit port => Sys2Proof.Machine.execWriteScrapLimit port s
  | .readLoadTables port => Sys2Proof.Machine.execReadLoadTables port s
  | .writeDoseTable port => Sys2Proof.Machine.execWriteDoseTable port s
  | .refill port => Sys2Proof.Machine.execRefill port s
  | .readPretreat port => Sys2Proof.Machine.execReadPretreat port s
  | .writeSpraySettings port => Sys2Proof.Machine.execWriteSpraySettings port s
  | .readSprayBar port => Sys2Proof.Machine.execReadSprayBar port s
  | .barClear port => Sys2Proof.Machine.execBarClear port s
  | .barInPosition => Sys2Proof.Machine.execBarInPosition s
  | .sweepEnd => Sys2Proof.Machine.execSweepEnd s
  | .centringEnd => Sys2Proof.Machine.execCentringEnd s
  | .barFault => Sys2Proof.Machine.execBarFault s
  | .registered port => Sys2Proof.Machine.execRegistered port s
  | .registerFault port => Sys2Proof.Machine.execRegisterFault port s
  | .nextSwath port => Sys2Proof.Machine.execNextSwath port s
  | .swathDone port => Sys2Proof.Machine.execSwathDone port s
  | .carriageParked port => Sys2Proof.Machine.execCarriageParked port s
  | .watchdogExpiry => Sys2Proof.Machine.execWatchdogExpiry s
  | .readPrint port => Sys2Proof.Machine.execReadPrint port s
  | .readErrorRecord port => Sys2Proof.Machine.execReadErrorRecord port s
  | .writeEngineProfile port => Sys2Proof.Machine.execWriteEngineProfile port s
  | .writeCureProfile port => Sys2Proof.Machine.execWriteCureProfile port s
  | .beltStep => Sys2Proof.Machine.execBeltStep s
  | .tunnelEntrySensor => Sys2Proof.Machine.execTunnelEntrySensor s
  | .zoneReading zone reading => Sys2Proof.Machine.execZoneReading zone reading s
  | .cureTick => Sys2Proof.Machine.execCureTick s
  | .tunnelExitSensor => Sys2Proof.Machine.execTunnelExitSensor s
  | .readTunnel port => Sys2Proof.Machine.execReadTunnel port s
  | .matchShirt port => Sys2Proof.Machine.execMatch port s
  | .scrap port => Sys2Proof.Machine.execScrap port s
  | .recure port => Sys2Proof.Machine.execRecure port s
  | .binClosed port => Sys2Proof.Machine.execBinClosed port s
  | .clearShelfSlot port => Sys2Proof.Machine.execClearShelfSlot port s
  | .readPack port => Sys2Proof.Machine.execReadPack port s
  | .quiesceStation port => Sys2Proof.Machine.execQuiesceStation port s
  | .resumeStation port => Sys2Proof.Machine.execResumeStation port s
  | .fetchNotice port => Sys2Proof.Machine.execFetchNotice port s
  | .readStatus port => Sys2Proof.Machine.execReadStatus port s
  | .frameErrorDiscard port chars => Sys2Proof.Machine.execFrameErrorDiscard port chars s

end Sys2Proof.Machine
end

