-- ==== Sys2Proof/Safety.lean ====
section
/-! DEFINITION. What counts as a sound state and a lawful change, in the words the statements use: a request
offered and answered, the bounds and invariants of each block, what a unit keeps through its life, and which
command each request is. -/

namespace Sys2Proof.Machine

/-! ### A request offered, and answered -/

/-- The oldest frame of port `p` is `f`, `rest` waits behind it, and `f` passes the frame checks of R173 as the
request `r`. -/
abbrev Offered (s : State) (p : Port) (r : Request) (f : Frame) (rest : List Frame) : Prop :=
  (s.port p).input = f :: rest ∧ f.portCode = portCode p ∧ f.code = r.code ∧ r.takenOn p = true
    ∧ r.lengthOk f.body = true

/-- The state once the oldest frame of a port has left its buffer, `rest` waiting behind it (R172). -/
def State.without (s : State) (p : Port) (rest : List Frame) : State := s.setPort p { s.port p with input := rest }

/-- The outcome in which `t` is left and the reply `r` to the frame `f` has been sent on port `p`. -/
def answer (t : State) (p : Port) (f : Frame) (r : Reply) : Host.Outcome State Fault Refusal :=
  .next (t.send p (replyFrame p f r))

/-- The command that takes a request from a port. -/
def Request.command : Request → Port → Instr
  | .setPlaten, p => .setPlaten p
  | .lineReset, p => .lineReset p
  | .submitOrder, p => .submitOrder p
  | .holdOrder, p => .holdOrder p
  | .releaseOrder, p => .releaseOrder p
  | .cancelOrder, p => .cancelOrder p
  | .readOrder, p => .readOrder p
  | .defineArtwork, p => .defineArtwork p
  | .removeArtwork, p => .removeArtwork p
  | .readArtwork, p => .readArtwork p
  | .artworkStaged, p => .artworkStaged p
  | .artworkEvicted, p => .artworkEvicted p
  | .load, p => .load p
  | .unload, p => .unload p
  | .bypassPretreat, p => .bypassPretreat p
  | .writeColourTable, p => .writeColourTable p
  | .writeSizeMap, p => .writeSizeMap p
  | .writeDarkThreshold, p => .writeDarkThreshold p
  | .writeScrapLimit, p => .writeScrapLimit p
  | .readLoadTables, p => .readLoadTables p
  | .writeDoseTable, p => .writeDoseTable p
  | .refill, p => .refill p
  | .readPretreat, p => .readPretreat p
  | .writeSpraySettings, p => .writeSpraySettings p
  | .barClear, p => .barClear p
  | .readSprayBar, p => .readSprayBar p
  | .registered, p => .registered p
  | .registerFault, p => .registerFault p
  | .nextSwath, p => .nextSwath p
  | .swathDone, p => .swathDone p
  | .carriageParked, p => .carriageParked p
  | .readPrint, p => .readPrint p
  | .readErrorRecord, p => .readErrorRecord p
  | .writeEngineProfile, p => .writeEngineProfile p
  | .writeCureProfile, p => .writeCureProfile p
  | .readTunnel, p => .readTunnel p
  | .matchShirt, p => .matchShirt p
  | .scrap, p => .scrap p
  | .recure, p => .recure p
  | .binClosed, p => .binClosed p
  | .clearShelfSlot, p => .clearShelfSlot p
  | .readPack, p => .readPack p
  | .quiesceStation, p => .quiesceStation p
  | .resumeStation, p => .resumeStation p
  | .fetchNotice, p => .fetchNotice p
  | .readStatus, p => .readStatus p

/-- A request whose first two body bytes are an order handle (R22). -/
def Request.namesOrder (r : Request) : Bool := decide (r ∈ [.holdOrder, .releaseOrder, .cancelOrder, .readOrder])

/-- A request whose two body bytes are a garment tag (R15). -/
def Request.namesUnit (r : Request) : Bool :=
  decide (r ∈ [.unload, .bypassPretreat, .registered, .registerFault, .carriageParked, .matchShirt, .scrap, .recure])

/-! ### Bodies written out (A.3, A.4) -/

/-- A line entry in its five bytes (A.3). -/
def LineEntry.bytes (e : LineEntry) : List Byte := bytes1 e.artwork.val ++ skuBytes e.sku ++ bytes1 e.quantity

/-- A SUBMIT ORDER body (A.3). -/
def Submission.bytes (x : Submission) : List Byte :=
  bytes4 x.webNumber.toNat ++ bytes1 x.priority ++ bytes1 x.alterLevel ++ bytes1 x.entries.length
    ++ x.entries.flatMap LineEntry.bytes

/-- The fields of a submission lie in the ranges of R31's first check. -/
def Submission.inRange (x : Submission) : Prop :=
  x.priority ≤ 3 ∧ x.alterLevel ≤ 2 ∧ 1 ≤ x.entries.length ∧ x.entries.length ≤ 8
    ∧ ∀ e ∈ x.entries, 1 ≤ e.quantity ∧ e.quantity ≤ 48

/-- A DEFINE ARTWORK body (A.3). -/
def Design.bytes (a : ArtworkNo) (d : Design) : List Byte :=
  bytes1 a.val ++ bytes1 d.coverage.length ++ [d.zoneMask] ++ bytes1 d.whitePasses ++ bytes1 d.colourPasses
    ++ d.coverage.flatMap coverageBytes

/-- The fields of a design lie in R39's ranges. -/
def Design.inRange (d : Design) : Prop :=
  1 ≤ d.coverage.length ∧ d.coverage.length ≤ 24 ∧ d.zoneMask ≠ 0 ∧ 1 ≤ d.whitePasses ∧ d.whitePasses ≤ 2
    ∧ 1 ≤ d.colourPasses ∧ d.colourPasses ≤ 4 ∧ ∀ c ∈ d.coverage, c.white ≤ 255 ∧ c.colour ≤ 255

/-- The code of a swath result other than OK (A.2). -/
def failureOf : PrintCause → Option Byte
  | .nozzle => some 1
  | .strike => some 2
  | .registerFault | .registerTimeout | .swathTimeout => none

/-! ### The ring -/

/-- INDEX GRANT is asserted exactly while MOVING, the ring is MOVING only with no hold set, and a request is
pending only behind a hold (R6, R7). -/
def Ring.sound (r : Ring) : Prop :=
  (r.indexGrant = true ↔ r.state = .moving) ∧ (r.state = .moving → r.holds.allClear = true)
    ∧ (r.pendingIndex = true → r.holds.allClear = false)

/-- Every platen has advanced by one and the same number of positions, so no two stand at one position (R1). -/
def Ring.spaced (r : Ring) : Prop := ∃ k : Position, ∀ p : PlatenNo, (tget r.platens p).position = p + k

/-- The ring's invariant. -/
def State.ringSound (s : State) : Prop := s.ring.sound ∧ s.ring.spaced

/-! ### The ports -/

/-- A port's buffer, queue and count stay within their sizes (R171, R172, R176). -/
def PortState.bounded (x : PortState) : Prop :=
  x.input.length ≤ Config.inputBufferSize ∧ x.notices.length ≤ Config.noticeQueueSize
    ∧ x.frameErrors ≤ Config.frameErrorMax

/-- The ports' invariant. -/
def State.portsBounded (s : State) : Prop := ∀ p : Port, (s.port p).bounded

/-! ### The tunnel and the pack table -/

/-- A zone record's values lie in R134's ranges; an OVERTEMP zone is off, a LAPSED zone is off and not OVERTEMP
(R134, R137, R139). -/
def Zone.sound (x : Zone) : Prop :=
  (∀ r, x.lastValid = some r → r ≤ 1022) ∧ x.temperature ≤ 511 ∧ x.missed ≤ Config.missedMax
    ∧ x.staleTicks ≤ Config.lapseTick ∧ x.duty ≤ 255 ∧ (x.overtemp = true → x.duty = 0)
    ∧ (x.state = .lapsed → x.duty = 0 ∧ x.overtemp = false)

/-- The tunnel's invariant: queue and exit list within their sizes, zone records in range, profile in range, and
the ready run at 8 exactly when TUNNEL READY is set (R122, R125, R134, R140, R144). -/
def State.tunnelSound (s : State) : Prop :=
  s.tunnel.queue.length ≤ Config.tunnelQueueMax ∧ s.pack.exits.length ≤ Config.exitListMax
    ∧ (∀ z : ZoneNo, (tget s.tunnel.zones z).sound) ∧ s.tunnel.profile.inRange = true
    ∧ s.tunnel.readyRun ≤ Config.readyTicks ∧ (s.tunnel.readyRun = Config.readyTicks ↔ s.tunnel.ready = true)

/-- The Tunnel station has a held unit exactly while it is not IDLE, and it is then in TRANSFER WAIT exactly when the
entry test passes: RUNNING, TUNNEL READY, room in the tunnel queue and in the exit list (R126, R127). -/
def State.transferFollows (s : State) : Prop :=
  (s.tunnel.state ≠ .idle ↔ s.tunnel.held.isSome = true)
    ∧ (s.tunnel.state ≠ .idle → (s.tunnel.state = .transferWait ↔
        s.tunnel.quiesce = .running ∧ s.tunnel.ready = true ∧ s.tunnel.queue.length < 10 ∧ s.pack.exits.length < 16))

/-- Exposure, required exposure and scorch limit of every unit in use never pass 65535 (R129, R138). -/
def State.exposuresBounded (s : State) : Prop :=
  ∀ (u : UnitNo) (sh : Shirt) (c : CureRecord), s.shirt u = some sh → sh.cure = some c →
    c.exposure ≤ Config.exposureMax ∧ (∀ r, c.required = some r → r ≤ Config.exposureMax)
      ∧ (∀ r, c.scorch = some r → r ≤ Config.exposureMax)

/-! ### Tables and counters -/

/-- Every line table and counter of the Load, Pretreat and Print stations lies in the range its rule gives. -/
def State.tablesInRange (s : State) : Prop :=
  (∀ c : Fin 64, tget s.load.colours c ≤ 255) ∧ s.load.darkThreshold ≤ 255 ∧ s.load.scrapLimit ≤ 7
    ∧ (∀ f : Fin 8, tget s.pretreat.doses f ≤ 400) ∧ s.pretreat.reservoir ≤ Config.reservoirMax
    ∧ s.bar.settings.inRange = true ∧ s.print.watchdogLimit ∈ [2000, 4000, 8000, 16000]
    ∧ s.print.inFlight.length ≤ Config.inFlightMax ∧ s.print.nextNumber ≤ 255 ∧ s.print.errorCount ≤ 255

/-- Generations and the sequence counter are never 0 and stay in range; every scrap count is at most 255
(R11, R21, R23, R24). -/
def State.countersInRange (s : State) : Prop :=
  (∀ u : UnitNo, 1 ≤ s.generation u ∧ s.generation u ≤ Config.unitGenerationMax)
    ∧ (∀ i : OrderNo, 1 ≤ (s.handleOf i).generation ∧ (s.handleOf i).generation ≤ Config.orderGenerationMax)
    ∧ 1 ≤ s.book.sequence ∧ s.book.sequence ≤ Config.sequenceMax
    ∧ (∀ (n : LineNo) (l : Line), s.line n = some l → l.scrap ≤ Config.scrapCountMax)

/-! ### What a unit keeps (R12) -/

/-- A flag once set stays set. -/
def UnitFlags.within (a b : UnitFlags) : Prop :=
  (a.bypassed = true → b.bypassed = true) ∧ (a.saturated = true → b.saturated = true)
    ∧ (a.unreadyEntry = true → b.unreadyEntry = true) ∧ (a.recured = true → b.recured = true)

/-- What a unit in use keeps from one moment to a later one: what LOAD copied; its flags; its first fault; the
presence of each sub-record (R12). -/
def Shirt.kept (a b : Shirt) : Prop :=
  b.order = a.order ∧ b.line = a.line ∧ b.sku = a.sku ∧ b.artwork = a.artwork ∧ b.darkness = a.darkness
    ∧ b.dark = a.dark ∧ a.flags.within b.flags ∧ (∀ f, a.fault = some f → b.fault = some f)
    ∧ (a.dose.isSome = true → b.dose.isSome = true) ∧ (a.print.isSome = true → b.print.isSome = true)
    ∧ (a.cure.isSome = true → b.cure.isSome = true)

/-! ### The Active Order List (R29) -/

/-- The list holds the index of every ACTIVE order, once each, and of no other, and no order stands before one of
smaller priority, or of equal priority and smaller sequence (R29). -/
def State.activeListed (s : State) : Prop :=
  (∀ i : OrderNo, i ∈ s.book.active ↔ ∃ o, s.order i = some o ∧ o.state = .active) ∧ s.book.active.Nodup
    ∧ s.book.active.Pairwise fun i j => ∀ a b, s.order i = some a → s.order j = some b → b.before a = false

/-! ### The places of the units (R14) -/

/-- The unit named by each record of the tunnel queue, head first. -/
def State.queued (s : State) : List UnitNo := s.tunnel.queue.map (·.unit)

/-- Every unit in use is in exactly one place: a platen and its unit name each other; a unit on no platen is named
once in the tunnel queue or once in the exit list, not in both; no record there names another unit, and an EXITED
unit is in the exit list (R13, R14). -/
def State.placed (s : State) : Prop :=
  (∀ (p : PlatenNo) (u : UnitNo),
      (tget s.ring.platens p).unit = some u ↔ ∃ sh, s.shirt u = some sh ∧ sh.platen = some p)
    ∧ s.queued.Nodup ∧ s.pack.exits.Nodup
    ∧ (∀ u : UnitNo, u ∈ s.queued ∨ u ∈ s.pack.exits → ∃ sh, s.shirt u = some sh ∧ sh.platen = none)
    ∧ (∀ (u : UnitNo) (sh : Shirt), s.shirt u = some sh → sh.platen = none →
        (u ∈ s.queued ↔ u ∉ s.pack.exits))
    ∧ (∀ (u : UnitNo) (sh : Shirt), s.shirt u = some sh → sh.state = .exited → u ∈ s.pack.exits)

/-! ### Orders, lines, units and artworks count alike (R24, R25, R28, R40) -/

/-- A line record is the record at its own position of its own order's list, and every record of an order's list
is that order's at that position (R21, R24). -/
def State.linesOwned (s : State) : Prop :=
  (∀ (n : LineNo) (l : Line), s.line n = some l →
      ∃ o, s.order l.order = some o ∧ o.lines[l.position.val]? = some n)
    ∧ ∀ (i : OrderNo) (o : Order) (k : Nat) (n : LineNo), s.order i = some o → o.lines[k]? = some n →
        ∃ l, s.line n = some l ∧ l.order = i ∧ l.position.val = k

/-- The handle of every unit in use resolves, and its order has the line it names (R26). -/
def State.unitsOwned (s : State) : Prop :=
  ∀ (u : UnitNo) (sh : Shirt), s.shirt u = some sh →
    s.handleOf sh.order.index = sh.order ∧ (lineNoOf s sh.order.index sh.line).isSome = true

/-- The units in use that name a line position of an order (R25). -/
def State.unitsOf (s : State) (i : OrderNo) (k : Fin 8) : List UnitNo :=
  (List.finRange 40).filter fun u => (s.shirt u).any fun sh => decide (sh.order.index = i ∧ sh.line = k)

/-- The line records in use that name an artwork (R40). -/
def State.linesNaming (s : State) (a : ArtworkNo) : List LineNo :=
  (List.finRange 384).filter fun n => decide ((s.line n).map (·.artwork) = some a)

/-- The counts of lines, units and artworks agree: a line's quantity is 1..48, good plus in-flight stays within it and
in-flight counts its units (R24, R25); every line of a COMPLETE order has all its shirts good (R28); an artwork's
references count its lines, at most 384, and a referenced artwork is DEFINED (R40). -/
def State.countsAgree (s : State) : Prop :=
  s.linesOwned ∧ s.unitsOwned
    ∧ (∀ (n : LineNo) (l : Line), s.line n = some l →
        1 ≤ l.quantity ∧ l.quantity ≤ 48 ∧ l.good + l.inFlight ≤ l.quantity
          ∧ l.inFlight = (s.unitsOf l.order l.position).length)
    ∧ (∀ (i : OrderNo) (o : Order), s.order i = some o → o.state = .complete → ∀ l ∈ linesOf s o, l.good = l.quantity)
    ∧ ∀ a : ArtworkNo, (tget s.artworks a).refs = (s.linesNaming a).length ∧ (tget s.artworks a).refs ≤ 384
        ∧ (0 < (tget s.artworks a).refs → (tget s.artworks a).design.isSome = true)

/-! ### Bins and the shelf (R155, R158) -/

/-- An owned bin names the handle of an order that names the bin and is not CANCELLING, an order's bin names the
order, and a COMPLETE order has one (R28, R155). -/
def State.binsOwned (s : State) : Prop :=
  (∀ (b : BinNo) (h : Handle), tget s.pack.bins b = some h →
      s.handleOf h.index = h ∧ ∃ o, s.order h.index = some o ∧ o.bin = some b ∧ o.state ≠ .cancelling)
    ∧ (∀ (i : OrderNo) (o : Order) (b : BinNo), s.order i = some o → o.bin = some b →
        tget s.pack.bins b = some (s.handleOf i))
    ∧ ∀ (i : OrderNo) (o : Order), s.order i = some o → o.state = .complete → o.bin.isSome = true

/-- The age order holds the number of every slot with an entry, once each, and of no other (R158). -/
def State.shelfAged (s : State) : Prop :=
  s.pack.age.Nodup ∧ ∀ sl : SlotNo, sl ∈ s.pack.age ↔ (tget s.pack.shelf sl).isSome = true

/-- The entry of a slot has the artwork and the SKU of a line (R159). -/
def State.fits (s : State) (l : Line) (sl : SlotNo) : Prop :=
  ∃ e, tget s.pack.shelf sl = some e ∧ e.artwork = l.artwork ∧ e.sku = l.sku

/-! ### The swath pipeline (R96, R105, R114) -/

/-- The Print station has a held unit exactly while it is not IDLE, its hold is then set and no arrival waits; orders are
in flight only in PASSING and ABORTING; orders in flight and numbers terminated for one registration are at most 3
together, and none is terminated before the station aborts (R96, R97, R98, R105, R114). -/
def State.pipelineSound (s : State) : Prop :=
  s.ring.sound ∧ (s.print.state ≠ .idle ↔ s.print.held.isSome = true)
    ∧ (s.print.state ≠ .idle → s.ring.holds.print = true ∧ s.ring.arrivals.print = none)
    ∧ (s.ring.arrivals.print.isSome = true → s.ring.holds.print = true)
    ∧ s.print.terminated.length + s.print.inFlight.length ≤ 3
    ∧ (s.print.state = .registering ∨ s.print.state = .passing → s.print.terminated = [])
    ∧ (s.print.state ≠ .passing → s.print.state ≠ .aborting → s.print.inFlight = [])

/-! ### What LINE RESET returns (R18, R19) -/

/-- The CANCELLING orders with their indexes, in ascending index. -/
def State.cancelling (s : State) : List (OrderNo × Order) :=
  (List.finRange 128).filterMap fun i =>
    (s.order i).bind fun o => if o.state = .cancelling then some (i, o) else none

/-- A line record of a CANCELLING order. -/
def State.ofCancelling (s : State) (n : LineNo) : Bool := s.cancelling.any fun x => x.2.lines.contains n

end Sys2Proof.Machine
end

