-- ==== Sys2Proof/Certificates/Slice0/Obligations.lean ====
section
/-! DEFINITION. The statements put to the provers. Each `Obligations.<Name>` is one proposition; its docstring says
what it states and the rule it comes from. A request statement supposes `Offered s p r f rest` (the oldest frame
of port p is f, `rest` waits behind it, the frame checks pass) and concludes with `answer t p f reply`: the
command ANSWERS THE NEXT STATE in which t is left and the reply has been sent. -/

open Sys2Proof Sys2Proof.Machine

/-! ### The step, the resets, the whole machine -/

/-- A step takes the command at the front of the queue and runs it with the queue's rest (log entry 1). -/
def Obligations.StepTakesFrontCommand : Prop :=
  ∀ (c : Instr) (s : State), step { s with pending := c :: s.pending } = exec c s

/-- Every invariant stated below holds at reset. -/
def Obligations.InvariantsHoldAtReset : Prop :=
  State.reset.ringSound ∧ State.reset.portsBounded ∧ State.reset.tunnelSound ∧ State.reset.exposuresBounded
    ∧ State.reset.tablesInRange ∧ State.reset.countersInRange ∧ State.reset.activeListed ∧ State.reset.placed
    ∧ State.reset.countsAgree ∧ State.reset.pipelineSound ∧ stagedCount State.reset ≤ 16 ∧ State.reset.binsOwned
    ∧ State.reset.shelfAged ∧ State.reset.bar.clearPending = false ∧ State.reset.transferFollows

/-- Power-on gives every block its power-on value, whatever the state before it, and each port the rate of its
strap (R1, R4, R6, R11, R17, R21, R23, R24, R29, R39, R46 to R50, R61, R73, R79 to R81, R95, R115, R117, R122, R124 to
R126, R134, R136, R140, R144, R155, R158, R163, R171, R172, R176).
The model's choices: the commands that wait are kept, being outside the part (log entry 26); the values the spec gives
no power-on value for are not stated here (log entry 11). -/
def Obligations.PowerOnInitialValues : Prop :=
  ∀ (straps : Straps) (s : State), ∃ t, exec (.powerOn straps) s = .next t
    ∧ t.time.now = 0 ∧ t.time.lastReset = .powerOn
    ∧ (∀ p : PlatenNo, tget t.ring.platens p = { sizeClass := .adult, enabled := true, unit := none, position := p })
    ∧ t.ring.state = .still ∧ t.ring.pendingIndex = false ∧ t.ring.indexGrant = false ∧ t.ring.holds.allClear = true
    ∧ t.ring.arrivals = { pretreat := none, print := none, tunnel := none }
    ∧ (∀ u : UnitNo, t.shirt u = none ∧ t.generation u = 1)
    ∧ (∀ i : OrderNo, t.order i = none ∧ (t.handleOf i).generation = 1) ∧ (∀ n : LineNo, t.line n = none)
    ∧ t.book.active = [] ∧ t.book.sequence = 1
    ∧ (∀ a : ArtworkNo, tget t.artworks a = { design := none, refs := 0, staged := false })
    ∧ (∀ c : Fin 64, tget t.load.colours c = 0) ∧ (∀ z : Fin 8, tget t.load.sizeMap z = .adult)
    ∧ t.load.darkThreshold = 96 ∧ t.load.scrapLimit = 3
    ∧ (∀ f : Fin 8, tget t.pretreat.doses f = 0) ∧ t.pretreat.reservoir = 0 ∧ t.pretreat.state = .idle
    ∧ t.pretreat.plan = none
    ∧ t.bar.settings = { sweepTime := 500, amplitude := 0, halfPeriod := 100, passCapacity := 80, minDose := 0 }
    ∧ t.bar.state = .parked ∧ t.bar.target = none ∧ t.bar.plan = none ∧ t.bar.planWaiting = false ∧ t.bar.band = none
    ∧ t.bar.sweepsDone = 0 ∧ t.bar.nextDirection = .forward ∧ t.bar.dithering = false ∧ t.bar.clearPending = false
    ∧ (∀ z : Fin 8, tget t.bar.valves z = 0) ∧ t.bar.traverse = none ∧ t.bar.dither = none
    ∧ t.print =
      { state := .idle, held := none, stageAsked := false, cursor := none, inFlight := [], nextNumber := 0
        watchdog := none, terminated := [], lateTag := none, quiesce := .running, errorRecord := none
        errorCount := 0, watchdogLimit := 8000 }
    ∧ t.tunnel.profile.tickPeriod = 1000 ∧ t.tunnel.profile.length = 1200 ∧ t.tunnel.profile.window = 60
    ∧ (∀ z : ZoneNo, tget t.tunnel.profile.setpoints z = 160) ∧ t.tunnel.profile.floor = 120
    ∧ t.tunnel.profile.gain = 8 ∧ t.tunnel.profile.limit = 230 ∧ t.tunnel.profile.whiteWeight = 40
    ∧ t.tunnel.profile.colourWeight = 20 ∧ (∀ f : Fin 8, tget t.tunnel.profile.base f = 3000)
    ∧ (∀ f : Fin 8, tget t.tunnel.profile.margin f = 2500)
    ∧ t.tunnel.state = .idle ∧ t.tunnel.held = none ∧ t.tunnel.belt = 0 ∧ t.tunnel.queue = []
    ∧ t.tunnel.ready = false ∧ t.tunnel.readyRun = 0 ∧ t.tunnel.tickStart = 0
    ∧ (∀ z : ZoneNo, tget t.tunnel.zones z =
      { state := .lapsed, lastValid := none, temperature := 0, missed := 0, staleTicks := 0, heard := false, duty := 0
        overtemp := false })
    ∧ t.pack.exits = [] ∧ (∀ b : BinNo, tget t.pack.bins b = none) ∧ (∀ sl : SlotNo, tget t.pack.shelf sl = none)
    ∧ t.pack.age = [] ∧ (∀ st : Station, t.quiesce st = .running)
    ∧ (∀ p : Port, (t.port p).input = [] ∧ (t.port p).notices = [] ∧ (t.port p).frameErrors = 0
        ∧ (t.port p).overrun = false ∧ (t.port p).receiver.held = [])
    ∧ t.ports.order.rate = straps.order ∧ t.ports.load.rate = straps.load ∧ t.ports.engine.rate = straps.engine
    ∧ t.ports.pack.rate = straps.pack ∧ t.pending = s.pending

/-- Every command answers a next state: nothing stops the part. -/
def Obligations.EveryCommandAnswers : Prop := ∀ (c : Instr) (s : State), ∃ t, exec c s = .next t

/-- A REFUSED request changes nothing: the state after it is the state before it but for the frame taken and the
reply sent. -/
def Obligations.RefusedRequestChangesNothing : Prop :=
  ∀ (r : Request) (s t : State) (p : Port) (f : Frame) (rest : List Frame) (e : StatusCode) (more : List Byte),
    Offered s p r f rest → exec (r.command p) s = .next t →
    (t.port p).sent = (s.port p).sent ++ [replyFrame p f (.refused e more)] →
    t = (s.without p rest).send p (replyFrame p f (.refused e more))

/-- The gated tables change only while their gating station is QUIESCED; the one exception is the dither-off write, a
WRITE SPRAY SETTINGS that clears the amplitude alone. -/
def Obligations.GatedTablesChangeOnlyAtRest : Prop :=
  ∀ (c : Instr) (s t : State), exec c s = .next t → (∀ straps, c ≠ .powerOn straps) →
    (s.load.quiesce ≠ .quiesced →
        t.load.colours = s.load.colours ∧ t.load.sizeMap = s.load.sizeMap
          ∧ t.load.darkThreshold = s.load.darkThreshold ∧ t.load.scrapLimit = s.load.scrapLimit)
      ∧ (s.pretreat.quiesce ≠ .quiesced →
          t.pretreat.doses = s.pretreat.doses
            ∧ (t.bar.settings = s.bar.settings
              ∨ (∃ p, c = .writeSpraySettings p) ∧ t.bar.settings = { s.bar.settings with amplitude := 0 }))
      ∧ (s.print.quiesce ≠ .quiesced → t.print.watchdogLimit = s.print.watchdogLimit)
      ∧ (s.tunnel.quiesce ≠ .quiesced → t.tunnel.profile = s.tunnel.profile)

/-- What a unit keeps while it is in use, through every command: what LOAD copied, its generation, its flags once
set, its first fault, and the presence of each sub-record. Every step keeps every unit in use in exactly one place: a
platen, the tunnel queue or the exit list. -/
def Obligations.UnitsKeepTheirRecord : Prop :=
  (∀ (c : Instr) (s t : State) (u : UnitNo) (a b : Shirt), exec c s = .next t → s.shirt u = some a →
      t.shirt u = some b → a.kept b ∧ t.generation u = s.generation u)
    ∧ ∀ s t : State, s.placed → step s = .next t → t.placed

/-! ### Invariants that every step keeps -/

/-- Every step keeps the ring's invariant: INDEX GRANT exactly while MOVING, MOVING only with every hold clear, a
request pending only behind a hold, the platens one to a position. -/
def Obligations.RingInvariantKept : Prop := ∀ s t : State, s.ringSound → step s = .next t → t.ringSound

/-- Every step keeps the tunnel's invariant: at most 10 in the queue and 16 in the exit list, every zone record and
the profile in range, an OVERTEMP or LAPSED zone at duty 0, the ready run at 8 exactly with TUNNEL READY.
Every step keeps the Tunnel station following the entry test: it has a held unit exactly while it is not IDLE, and is
then in TRANSFER WAIT exactly when it is RUNNING, TUNNEL READY is set, the queue holds fewer than 10 and the exit list
fewer than 16, else INHIBITED. -/
def Obligations.TunnelInvariantKept : Prop :=
  (∀ s t : State, s.tunnelSound → step s = .next t → t.tunnelSound)
    ∧ ∀ s t : State, s.transferFollows → step s = .next t → t.transferFollows

/-- Every step keeps each of these ranges: the ports' buffers, queues and counts (4 frames, 16 notices, 65535 errors);
exposure, required exposure and scorch limit of every unit (65535); the line tables, the reservoir and the swath
pipeline; generations and the sequence counter (never 0) with scrap counts (255); at most 16 artworks staged; at most
3 swath numbers terminated, with the orders in flight; a line's good plus in-flight within its quantity, its in-flight
count its units in use; an artwork's reference count its lines, within 384. -/
def Obligations.BoundsKept : Prop :=
  (∀ s t : State, s.portsBounded → step s = .next t → t.portsBounded)
    ∧ (∀ s t : State, s.exposuresBounded → step s = .next t → t.exposuresBounded)
    ∧ (∀ s t : State, s.tablesInRange → step s = .next t → t.tablesInRange)
    ∧ (∀ s t : State, s.countersInRange → step s = .next t → t.countersInRange)
    ∧ (∀ s t : State, stagedCount s ≤ 16 → step s = .next t → stagedCount t ≤ 16)
    ∧ (∀ s t : State, s.pipelineSound → step s = .next t → t.pipelineSound)
    ∧ (∀ s t : State, s.countsAgree → step s = .next t → t.countsAgree)

/-- Every step keeps the Active Order List: every ACTIVE order once, no other, sorted by priority and sequence. -/
def Obligations.ActiveOrderListKept : Prop := ∀ s t : State, s.activeListed → step s = .next t → t.activeListed

/-! ### Frames and ports -/

/-- The characters of any frame with a body of at most 240 bytes, arriving while the port hunts, are assembled into
exactly that frame: it joins the input buffer, or is answered REFUSED BUSY when the buffer holds 4; nothing else
changes but the receiver, which hunts again.
The model's choices: the characters' one arrival time (log entry 5), BUSY sent as the frame arrives, ahead of the replies of the frames that wait
(log entry 30). -/
def Obligations.FrameIsAssembled : Prop :=
  ∀ (s : State) (p : Port) (f : Frame), f.body.length ≤ 240 → (s.port p).receiver.held = [] →
    exec (.frameReceived p f.chars) s = .next (s.setPort p
      { s.port p with
        input := if (s.port p).input.length < 4 then (s.port p).input ++ [f] else (s.port p).input
        sent :=
          if (s.port p).input.length < 4 then (s.port p).sent
          else (s.port p).sent ++ [replyFrame p f (.refused .busy [])]
        receiver := { held := [], junkRun := false, lastChar := s.time.now } })

/-- A run of characters other than A5h, a length above 240 and a bad CRC are each one frame error: the count rises by
1 and saturates at 65535, nothing joins the buffer, no reply is sent (one command carries one run: log entry 6). A
frame begun and silent for more than 20 ms is one too, and hunting begins again; before that INTERCHARACTER TIMEOUT
changes nothing (log entry 8). -/
def Obligations.FrameErrorsAreCounted : Prop :=
  (∀ (s : State) (p : Port) (chars : List Byte), (s.port p).receiver.held = [] → (s.port p).receiver.junkRun = false →
      (chars ≠ [] ∧ (∀ c ∈ chars, c ≠ 0xA5#8)
        ∨ (∃ len : Byte, chars = [0xA5#8, len] ∧ 240 < len.toNat)
        ∨ (∃ (f : Frame) (crc : List Byte), f.body.length ≤ 240 ∧ crc.length = 2 ∧ crc ≠ crcBytes (crc16 f.covered)
            ∧ chars = 0xA5#8 :: (f.covered ++ crc))) →
      exec (.frameErrorDiscard p chars) s = .next (s.setPort p
        { s.port p with
          frameErrors := if (s.port p).frameErrors < 65535 then (s.port p).frameErrors + 1 else (s.port p).frameErrors
          receiver := { held := [], junkRun := false, lastChar := s.time.now } }))
    ∧ (∀ (s : State) (p : Port),
      ((s.port p).receiver.held ≠ [] ∧ 20 < (s.time.now - (s.port p).receiver.lastChar).toNat →
          exec (.intercharacterTimeout p) s = .next (s.setPort p
            { s.port p with
              frameErrors :=
                if (s.port p).frameErrors < 65535 then (s.port p).frameErrors + 1 else (s.port p).frameErrors
              receiver := { held := [], junkRun := false, lastChar := (s.port p).receiver.lastChar } }))
        ∧ ((s.port p).receiver.held = [] ∨ (s.time.now - (s.port p).receiver.lastChar).toNat ≤ 20 →
          exec (.intercharacterTimeout p) s = .next s))

/-- The frame checks come in R173's order, whatever the request: port code, reserved code, port permission, body
length. Each refusal takes the frame, sends the reply and changes nothing else.
The checks of R22 and R15 come next and before the request's own: a handle whose index is above 127 is BAD FIELD, one
whose descriptor is FREE or has another generation is STALE HANDLE; a tag whose unit number is above 39 or whose record
is free is UNKNOWN TAG, one whose record has another generation is STALE TAG.
The model's choice: a frame of a reserved code is taken by whichever request command comes next (log entry 3). -/
def Obligations.FrameChecksInOrder : Prop :=
  (∀ (r : Request) (s : State) (p : Port) (f : Frame) (rest : List Frame), (s.port p).input = f :: rest →
      (f.code = r.code ∨ reservedCode f.code = true) →
      (f.portCode ≠ portCode p → exec (r.command p) s = answer (s.without p rest) p f (.refused .wrongPort []))
        ∧ (f.portCode = portCode p → reservedCode f.code = true →
            exec (r.command p) s = answer (s.without p rest) p f (.refused .badField []))
        ∧ (f.portCode = portCode p → f.code = r.code → r.takenOn p = false →
            exec (r.command p) s = answer (s.without p rest) p f (.refused .wrongPort []))
        ∧ (f.portCode = portCode p → f.code = r.code → r.takenOn p = true → r.lengthOk f.body = false →
            exec (r.command p) s = answer (s.without p rest) p f (.refused .badLength [])))
    ∧ (∀ (r : Request) (s : State) (p : Port) (f : Frame) (rest : List Frame) (g ix : Byte) (more : List Byte),
      r.namesOrder = true → Offered s p r f rest → f.body = g :: ix :: more →
      (127 < ix.toNat → exec (r.command p) s = answer (s.without p rest) p f (.refused .badField []))
        ∧ ∀ i : OrderNo, ix.toNat = i.val → (s.order i = none ∨ (s.handleOf i).generation ≠ g.toNat) →
          exec (r.command p) s = answer (s.without p rest) p f (.refused .staleHandle []))
    ∧ (∀ (r : Request) (s : State) (p : Port) (f : Frame) (rest : List Frame) (hi lo : Byte) (n : Nat),
      r.namesUnit = true → Offered s p r f rest → f.body = [hi, lo] → n = hi.toNat * 256 + lo.toNat →
      (39 < n % 64 → exec (r.command p) s = answer (s.without p rest) p f (.refused .unknownTag []))
        ∧ ∀ u : UnitNo, n % 64 = u.val →
          (s.shirt u = none → exec (r.command p) s = answer (s.without p rest) p f (.refused .unknownTag []))
          ∧ ((s.shirt u).isSome = true → s.generation u ≠ n / 64 →
            exec (r.command p) s = answer (s.without p rest) p f (.refused .staleTag [])))

/-- A notice posted joins the tail of the named port's queue with the Time Base as its stamp; on a queue of 16 it is
discarded and OVERRUN is set. FETCH NOTICE returns and removes the oldest record, or kind NONE, with OVERRUN and the
count left, and clears OVERRUN. READ STATUS returns its 39 result bytes in the layout of A.4 and clears its own port's
frame error count.
Every notice record is 21 bytes: the code of its kind, its stamp and its four arguments, by the table of A.4.
The model's choices: bits 6 and 7 of the READ STATUS flag byte, which A.4 does not name, are 0 (log entry 35); a number
too great for its field leaves its low-order bytes (log entry 25). -/
def Obligations.NoticesPostedAndFetched : Prop :=
  (∀ (p : Port) (n : Notice) (s : State),
      ((s.port p).notices.length < 16 →
          post p n s = s.setPort p { s.port p with notices := (s.port p).notices ++ [{ notice := n, stamp := s.time.now }] })
        ∧ ((s.port p).notices.length = 16 → post p n s = s.setPort p { s.port p with overrun := true }))
    ∧ (∀ (s : State) (p : Port) (f : Frame) (rest : List Frame),
      (Offered s p .fetchNotice f rest →
          (∀ (n : NoticeRecord) (ns : List NoticeRecord), (s.port p).notices = n :: ns →
            exec (.fetchNotice p) s = answer
              ((s.without p rest).setPort p { s.port p with input := rest, notices := ns, overrun := false }) p f
              (.done (bytes1 (yesNoCode (s.port p).overrun) ++ bytes1 ns.length ++ noticeBytes n)))
          ∧ ((s.port p).notices = [] →
            exec (.fetchNotice p) s = answer
              ((s.without p rest).setPort p { s.port p with input := rest, overrun := false }) p f
              (.done (bytes1 (yesNoCode (s.port p).overrun) ++ [0] ++ List.replicate 21 0))))
        ∧ (Offered s p .readStatus f rest → ∃ (r : List Byte) (bits : Byte),
          exec (.readStatus p) s = answer
            ((s.without p rest).setPort p { s.port p with input := rest, frameErrors := 0 }) p f (.done r)
          ∧ r.length = 39
          ∧ r = bytes1 (match s.time.lastReset with | .powerOn => 0 | .lineReset => 1) ++ bytes4 s.time.now.toNat
            ++ bytes1 (match s.ring.state with | .still => 0 | .moving => 1) ++ [bits]
            ++ bytes1 s.pretreat.state.code ++ bytes1 s.print.state.code ++ bytes1 s.tunnel.state.code
            ++ bytes1 s.load.quiesce.code ++ bytes1 s.pretreat.quiesce.code ++ bytes1 s.print.quiesce.code
            ++ bytes1 s.tunnel.quiesce.code ++ bytes1 s.bar.state.code
            ++ bytes1 s.tunnel.queue.length ++ bytes1 s.pack.exits.length
            ++ ((List.finRange 4).flatMap fun z =>
              bytes1 (tget s.tunnel.zones z).state.code ++ bytes1 (tget s.tunnel.zones z).duty)
            ++ bytes4 s.pretreat.reservoir
            ++ bytes1 ((List.finRange 64).filter fun a => (tget s.artworks a).staged).length
            ++ bytes1 ((List.finRange 40).filter fun u => (s.shirt u).isNone).length
            ++ bytes2 ((List.finRange 384).filter fun n => (s.line n).isNone).length
            ++ bytes1 ((List.finRange 128).filter fun i => (s.order i).isNone).length
            ++ bytes1 ((List.finRange 24).filter fun b => (tget s.pack.bins b).isNone).length
            ++ bytes1 ((List.finRange 16).filter fun sl => (tget s.pack.shelf sl).isNone).length
            ++ bytes1 s.book.active.length ++ bytes2 (s.port p).frameErrors
          ∧ bits.getLsbD 0 = s.ring.pendingIndex ∧ bits.getLsbD 1 = s.ring.holds.pretreat
          ∧ bits.getLsbD 2 = s.ring.holds.print ∧ bits.getLsbD 3 = s.ring.holds.tunnel
          ∧ (bits.getLsbD 4 = true ↔ s.tunnel.state = .inhibited ∨ s.tunnel.quiesce ≠ .running)
          ∧ bits.getLsbD 5 = s.tunnel.ready ∧ bits.getLsbD 6 = false ∧ bits.getLsbD 7 = false))
    ∧ ∀ (n : Notice) (w : Word32), ∃ (code : Byte) (a b c d : Nat),
      noticeBytes { notice := n, stamp := w } =
          [code] ++ bytes4 w.toNat ++ bytes4 a ++ bytes4 b ++ bytes4 c ++ bytes4 d
        ∧ (noticeBytes { notice := n, stamp := w }).length = 21
        ∧ (code, [a, b, c, d]) = (match n with
          | .orderComplete h web bin => (0x01#8, [h.number, web.toNat, argument (bin.map (·.val)), 0])
          | .orderHeldOrdered h web level => (0x02#8, [h.number, web.toNat, 0, level])
          | .orderHeldScrap h web line => (0x02#8, [h.number, web.toNat, 1, line])
          | .orderFreed h web .cancelled => (0x03#8, [h.number, web.toNat, 0, 0])
          | .orderFreed h web .closed => (0x03#8, [h.number, web.toNat, 1, 0])
          | .quiesced st => (0x04#8, [st.code, 0, 0, 0])
          | .resumed st q => (0x05#8, [st.code, q.code, 0, 0])
          | .indexFault => (0x06#8, [0, 0, 0, 0])
          | .ghostEntry belt => (0x07#8, [belt.toNat, 0, 0, 0])
          | .overtemp z t => (0x08#8, [z.val, t, 0, 0])
          | .zoneStale z .faultReading => (0x09#8, [z.val, 0, 0, 0])
          | .zoneStale z .noReading => (0x09#8, [z.val, 0, 1, 0])
          | .zoneLapsed z => (0x09#8, [z.val, 1, 0xFFFFFFFF, 0])
          | .tunnelReady => (0x0A#8, [0, 0, 0, 0])
          | .printFault cause t => (0x0B#8, [cause.code, t.number, 0, 0])
          | .lineReset => (0x0C#8, [0, 0, 0, 0])
          | .pretreated t fluid sweeps saturated => (0x10#8, [t.number, fluid, sweeps, if saturated then 4 else 0])
          | .lowFluid t fluid level => (0x11#8, [t.number, fluid, level, 0])
          | .barFault t st band sweeps =>
            (0x12#8, [argument (t.map fun x => x.number), st.code, argument band, argument sweeps])
          | .platenReady t a bands dark => (0x18#8, [t.number, a.val, bands, if dark then 1 else 0])
          | .stageNeeded a t => (0x19#8, [a.val, t.number, 0, 0])
          | .artworkRemoved a => (0x1A#8, [a.val, 0, 0, 0])
          | .platenWithdrawn t a => (0x1B#8, [t.number, a.val, 0, 0])
          | .binReady bin h web => (0x20#8, [argument (bin.map (·.val)), h.number, web.toNat, 0])
          | .shelfToBin slot bin h line => (0x21#8, [slot.val, bin.val, h.number, line])
          | .binToShelf bin made wasted h => (0x22#8, [bin.val, made, wasted, h.number])
          | .ghostExit belt oldest =>
            (0x23#8, [belt.toNat, argument (oldest.map fun x => x.1.number), argument (oldest.map fun x => x.2.toNat), 0])
          | .unitLost t h line .noRoom => (0x24#8, [t.number, h.number, line, 0])
          | .unitLost t h line .exitFull => (0x24#8, [t.number, h.number, line, 1])
          | .unitLost t h line .missing => (0x24#8, [t.number, h.number, line, 2]))

/-! ### Chapter 1 -/

/-- TIME BASE TICK: the count rises by one, from 4,294,967,295 to 0, and nothing else changes. Outside it and power-on no
command moves the Time Base; only LINE RESET writes the last reset cause, and only INDEX DONE a platen's position. -/
def Obligations.TimeBaseTicksAlone : Prop :=
  (∀ s : State, ∃ t, exec .timeBaseTick s = .next t ∧ t = { s with time := { s.time with now := t.time.now } }
      ∧ t.time.now.toNat = if s.time.now.toNat = 4294967295 then 0 else s.time.now.toNat + 1)
    ∧ (∀ (c : Instr) (s t : State), exec c s = .next t → (∀ straps, c ≠ .powerOn straps) →
      (c ≠ .timeBaseTick → t.time.now = s.time.now)
        ∧ ((∀ p, c ≠ .lineReset p) → t.time.lastReset = s.time.lastReset)
        ∧ (c ≠ .indexDone → ∀ p : PlatenNo, (tget t.ring.platens p).position = (tget s.ring.platens p).position))

/-- SET PLATEN: BAD FIELD for a platen above 11 or an undefined class or enabled value; then IN USE for a platen that
carries a unit; otherwise class and enabled flag are replaced and nothing else changes. -/
def Obligations.SetPlatenReplacesClassAndFlag : Prop :=
  ∀ (s : State) (p : Port) (f : Frame) (rest : List Frame) (n c e : Byte),
    Offered s p .setPlaten f rest → f.body = [n, c, e] →
    ((11 < n.toNat ∨ 2 < c.toNat ∨ 1 < e.toNat) →
        exec (.setPlaten p) s = answer (s.without p rest) p f (.refused .badField []))
      ∧ ∀ (pl : PlatenNo) (cls : SizeClass) (en : Bool), n.toNat = pl.val → c.toNat = cls.code →
          e.toNat = yesNoCode en →
          ((tget s.ring.platens pl).unit.isSome = true →
              exec (.setPlaten p) s = answer (s.without p rest) p f (.refused .inUse []))
            ∧ ((tget s.ring.platens pl).unit = none →
              exec (.setPlaten p) s = answer
                ((s.without p rest).setRing { s.ring with
                  platens := tset s.ring.platens pl
                    { sizeClass := cls, enabled := en, unit := none
                      position := (tget s.ring.platens pl).position } })
                p f (.done []))

/-- INDEX REQUEST by R7's table: granted on a STILL ring with every hold clear, pending behind a hold, absorbed when
already pending or while MOVING. -/
def Obligations.IndexRequestTable : Prop :=
  ∀ s : State,
    (s.ring.state = .still → s.ring.holds.allClear = true →
        exec .indexRequest s = .next (s.setRing
          { s.ring with pendingIndex := false, indexGrant := true, state := .moving }))
      ∧ (s.ring.state = .still → s.ring.holds.allClear = false → s.ring.pendingIndex = false →
        exec .indexRequest s = .next (s.setRing { s.ring with pendingIndex := true }))
      ∧ (s.ring.state = .still → s.ring.holds.allClear = false → s.ring.pendingIndex = true →
        exec .indexRequest s = .next s)
      ∧ (s.ring.state = .moving → exec .indexRequest s = .next s)

/-- INDEX DONE on a MOVING ring: every platen advances by one position (11 to 0), the grant is withdrawn, the ring is
STILL, the three holds are set and each station's arrival names the platen now at its position with its unit field;
nothing outside the ring changes. On a STILL ring nothing changes and INDEX FAULT is posted to the Order port. -/
def Obligations.IndexDoneTable : Prop :=
  (∀ s : State, s.ringSound → s.ring.state = .moving →
      ∃ t, exec .indexDone s = .next t ∧ t = s.setRing t.ring
        ∧ (∀ p : PlatenNo, tget t.ring.platens p =
            { tget s.ring.platens p with position := (tget s.ring.platens p).position + 1 })
        ∧ t.ring.indexGrant = false ∧ t.ring.state = .still ∧ t.ring.pendingIndex = s.ring.pendingIndex
        ∧ t.ring.holds = { pretreat := true, print := true, tunnel := true }
        ∧ ∀ (w : Holder) (p : PlatenNo), (tget t.ring.platens p).position = w.position →
            t.ring.arrivals.get w = some { platen := p, unit := (tget s.ring.platens p).unit })
    ∧ (∀ s : State, s.ring.state = .still → exec .indexDone s = .next (post .order .indexFault s))

/-- The release of a hold: one already clear changes nothing; one that leaves all three clear on a STILL ring with a
request pending clears the request, asserts INDEX GRANT and makes the ring MOVING; any other just clears the
hold. With one hold set, request and release give one outcome in either order. -/
def Obligations.HoldReleaseGrants : Prop :=
  ∀ (w : Holder) (s : State),
    (s.ring.holds.get w = false → releaseHold w s = s)
      ∧ (s.ring.holds.get w = true → (s.ring.holds.put w false).allClear = true → s.ring.state = .still →
          s.ring.pendingIndex = true →
          releaseHold w s = s.setRing { s.ring with
            holds := s.ring.holds.put w false, pendingIndex := false, indexGrant := true, state := .moving })
      ∧ (s.ring.holds.get w = true →
          ((s.ring.holds.put w false).allClear = false ∨ s.ring.state = .moving ∨ s.ring.pendingIndex = false) →
          releaseHold w s = s.setRing { s.ring with holds := s.ring.holds.put w false })
      ∧ (s.ring.state = .still → s.ring.holds.get w = true → (s.ring.holds.put w false).allClear = true →
          releaseHold w (indexRequest s) = indexRequest (releaseHold w s))

/-- LINE RESET answers DONE with the number of units it freed. Every unit is freed with its generation advanced; every
CANCELLING order returns to FREE with its generation advanced and its lines back in the pool; every other order and
every other line is kept but for the in-flight count, now 0; of the Artwork Table only the reference counts of
returned lines fall. The ring keeps state and grant with holds, arrivals and pending request cleared; stations are IDLE
and RUNNING. Each notice queue holds LINE RESET, the Order port's then ORDER FREED for each returned order in ascending
index with its handle before the advance, as far as the queue has room (OVERRUN beyond, R176). Tables, heater control,
shelf, bins, Time Base, sequence counter, buffers and frame error counts are kept.
The stop of line reset on the bar: plan, waiting, band and sweeps done go, valves close, the traverse idles; a
dithered sweep becomes CENTRING, an undithered one and a move go home, PARKED and FAULTED stay.
The model's choices: log entry 20 (the fields that return in every bar state), log entry 21 (a crossing at the stop),
log entry 34 (a frame partly received is kept). -/
def Obligations.LineResetClearsLineAndBar : Prop :=
  (∀ (s : State) (p : Port) (f : Frame) (rest : List Frame), Offered s p .lineReset f rest →
      ∃ t, exec (.lineReset p) s = answer t p f
          (.done (bytes1 ((List.finRange 40).filter fun u => (s.shirt u).isSome).length))
        ∧ (∀ u : UnitNo, t.shirt u = none ∧ t.generation u =
            if (s.shirt u).isSome = true then (if s.generation u = 1023 then 1 else s.generation u + 1)
            else s.generation u)
        ∧ (∀ (i : OrderNo) (o : Order), s.order i = some o →
            (o.state = .cancelling → t.order i = none
              ∧ (t.handleOf i).generation =
                if (s.handleOf i).generation = 255 then 1 else (s.handleOf i).generation + 1)
            ∧ (o.state ≠ .cancelling → t.order i = some o ∧ t.handleOf i = s.handleOf i))
        ∧ (∀ i : OrderNo, s.order i = none → t.order i = none ∧ t.handleOf i = s.handleOf i)
        ∧ (∀ n : LineNo, t.line n =
            if s.ofCancelling n = true then none else (s.line n).map fun l => { l with inFlight := 0 })
        ∧ (∀ a : ArtworkNo, tget t.artworks a =
            { tget s.artworks a with
              refs := (tget s.artworks a).refs - ((s.linesNaming a).filter s.ofCancelling).length })
        ∧ t.book.sequence = s.book.sequence ∧ t.book.active = s.book.active
        ∧ t.tunnel = { s.tunnel with queue := [], state := .idle, held := none, quiesce := .running }
        ∧ t.pack = { s.pack with exits := [] }
        ∧ t.ring = { s.ring with
            platens := tmap (fun x => { x with unit := none }) s.ring.platens
            holds := { pretreat := false, print := false, tunnel := false }
            arrivals := { pretreat := none, print := none, tunnel := none }, pendingIndex := false }
        ∧ t.load = { s.load with quiesce := .running }
        ∧ t.pretreat = { s.pretreat with state := .idle, plan := none, quiesce := .running }
        ∧ t.print = { Print.initial with nextNumber := s.print.nextNumber, watchdogLimit := s.print.watchdogLimit }
        ∧ t.bar = s.bar.stop (s.time.now - s.bar.sweepStart).toNat
        ∧ t.time = { s.time with lastReset := .lineReset }
        ∧ t.port .order = { s.port .order with
            input := if p = .order then rest else (s.port .order).input
            notices := ((Notice.lineReset :: s.cancelling.map fun x =>
                .orderFreed (s.handleOf x.1) x.2.webNumber .cancelled).take 16).map fun n =>
                  { notice := n, stamp := s.time.now }
            overrun := decide (15 < s.cancelling.length) }
        ∧ (∀ q : Port, q ≠ .order → t.port q = { s.port q with
            input := if q = p then rest else (s.port q).input
            notices := [{ notice := .lineReset, stamp := s.time.now }], overrun := false })
        ∧ t.pending = s.pending)
    ∧ (∀ (w : Nat) (b : Bar),
      (b.stop w).plan = none ∧ (b.stop w).planWaiting = false ∧ (b.stop w).band = none ∧ (b.stop w).sweepsDone = 0
        ∧ (b.stop w).nextDirection = .forward ∧ (∀ z : Fin 8, tget (b.stop w).valves z = 0)
        ∧ (b.stop w).traverse = none ∧ (b.stop w).clearPending = b.clearPending ∧ (b.stop w).settings = b.settings
        ∧ (b.state = .parked ∨ b.state = .faulted ∨ b.state = .centring →
            (b.stop w).state = b.state ∧ (b.stop w).dither = b.dither ∧ (b.stop w).target = b.target)
        ∧ (b.state = .moving → (b.stop w).state = .moving ∧ (b.stop w).target = some .home)
        ∧ (b.state = .sweeping → b.dithering = false →
            (b.stop w).state = .moving ∧ (b.stop w).target = some .home ∧ (b.stop w).dither = none)
        ∧ (b.state = .sweeping → b.dithering = true →
            (b.stop w).state = .centring ∧ (b.stop w).dither = b.dither ∧ (b.stop w).stopAt = some w
              ∧ (b.stop w).sweepStart = b.sweepStart ∧ (b.stop w).sweepHalf = b.sweepHalf))

/-- The three stations take their platen-arrived events. Each releases an empty platen. The Pretreat station releases a
bypassed unit, and holds any other and gives it the start test. The Print station releases a dark unit whose fault is
PRETREAT FAULT, and a dark bypassed unit still LOADED and without fault, which it gives the fault NO PRETREAT; the unit
it takes is PrintStartTest's (O41). The Tunnel station holds every unit and gives it the entry test. -/
def Obligations.StationsTakeArrivals : Prop :=
  ∀ (s : State) (a : Arrival) (u : UnitNo) (sh : Shirt),
    (s.ring.arrivals.pretreat = some a →
        ((tget s.ring.platens a.platen).unit = none →
          exec .pretreatArrival s =
            .next (releaseHold .pretreat (setPretreatState .idle none (takeArrival .pretreat s))))
        ∧ ((tget s.ring.platens a.platen).unit = some u → s.shirt u = some sh → sh.flags.bypassed = true →
          exec .pretreatArrival s =
            .next (releaseHold .pretreat (setPretreatState .idle none (takeArrival .pretreat s))))
        ∧ ((tget s.ring.platens a.platen).unit = some u → s.shirt u = some sh → sh.flags.bypassed = false →
          exec .pretreatArrival s = .next (startTestFor u sh (takeArrival .pretreat s))))
      ∧ (s.ring.arrivals.print = some a →
        ((tget s.ring.platens a.platen).unit = none →
          exec .printArrival s = .next (releaseHold .print (takeArrival .print s)))
        ∧ ((tget s.ring.platens a.platen).unit = some u → s.shirt u = some sh → sh.dark = true →
            sh.fault = some .pretreatFault →
          exec .printArrival s = .next (releaseHold .print (takeArrival .print s)))
        ∧ ((tget s.ring.platens a.platen).unit = some u → s.shirt u = some sh → sh.dark = true → sh.fault = none →
            sh.state = .loaded → sh.flags.bypassed = true →
          exec .printArrival s =
            .next (releaseHold .print
              (putShirt u (some { sh with fault := some .noPretreat }) (takeArrival .print s)))))
      ∧ (s.ring.arrivals.tunnel = some a →
        ((tget s.ring.platens a.platen).unit = none →
          exec .tunnelArrival s = .next (releaseHold .tunnel (takeArrival .tunnel s)))
        ∧ ((tget s.ring.platens a.platen).unit = some u →
          exec .tunnelArrival s = .next ((takeArrival .tunnel s).setTunnel { s.tunnel with
            held := some u, state := if entryTest s then .transferWait else .inhibited })))

/-! ### Chapter 2 -/

/-- SUBMIT ORDER refused by R31's checks in their order, nothing changed: BAD FIELD for a priority above 3, an alter level
above 2, a line count outside 1..8 or a line with a field out of range; ARTWORK with the lowest position that names an
EMPTY artwork; DUPLICATE for a web order number in use; FULL without a FREE descriptor or enough free lines.
Otherwise it is accepted: the lowest FREE descriptor becomes ACTIVE with the fields carried, one free line record for
each entry names it, each line raises its artwork's reference count by one, the sequence counter advances, the order
joins the Active Order List, and no other block changes; orphan uptake follows, and the reply carries the shirts it
took, SHELF USED above 0.
The model's choice: which free line records are taken (log entry 12) is left open here. -/
def Obligations.SubmitOrderAccepted : Prop :=
  (∀ (s : State) (p : Port) (f : Frame) (rest : List Frame), Offered s p .submitOrder f rest →
      (∀ (w3 w2 w1 w0 pr al n : Byte) (more : List Byte), f.body = w3 :: w2 :: w1 :: w0 :: pr :: al :: n :: more →
          (3 < pr.toNat ∨ 2 < al.toNat ∨ n = 0 ∨ 8 < n.toNat
            ∨ ∃ (k : Nat) (a fb c z q : Byte), (more.drop (5 * k)).take 5 = [a, fb, c, z, q]
              ∧ (63 < a.toNat ∨ 7 < fb.toNat ∨ 63 < c.toNat ∨ 7 < z.toNat ∨ q = 0 ∨ 48 < q.toNat)) →
          exec (.submitOrder p) s = answer (s.without p rest) p f (.refused .badField []))
        ∧ ∀ x : Submission, x.inRange → f.body = x.bytes →
          (∀ (k : Nat) (e : LineEntry), x.entries[k]? = some e → (tget s.artworks e.artwork).design = none →
              (∀ (j : Nat) (e' : LineEntry), j < k → x.entries[j]? = some e' →
                (tget s.artworks e'.artwork).design.isSome = true) →
              exec (.submitOrder p) s = answer (s.without p rest) p f (.refused .artwork (bytes1 k)))
          ∧ ((∀ e ∈ x.entries, (tget s.artworks e.artwork).design.isSome = true) →
            ((∃ j o, s.order j = some o ∧ o.webNumber = x.webNumber) →
              exec (.submitOrder p) s = answer (s.without p rest) p f (.refused .duplicate []))
            ∧ ((∀ j o, s.order j = some o → o.webNumber ≠ x.webNumber) →
              ((∀ j : OrderNo, (s.order j).isSome = true) ∨ freeLines s < x.entries.length) →
              exec (.submitOrder p) s = answer (s.without p rest) p f (.refused .full []))))
    ∧ ∀ (s : State) (p : Port) (f : Frame) (rest : List Frame) (x : Submission) (i : OrderNo),
      Offered s p .submitOrder f rest → x.inRange → f.body = x.bytes →
      (∀ e ∈ x.entries, (tget s.artworks e.artwork).design.isSome = true) →
      (∀ j o, s.order j = some o → o.webNumber ≠ x.webNumber) →
      s.order i = none → (∀ j : OrderNo, j < i → (s.order j).isSome = true) → x.entries.length ≤ freeLines s →
      ∃ (t u : State) (ls : List LineNo) (taken : Nat),
        orphanUptake i t = (u, taken)
        ∧ exec (.submitOrder p) s = answer u p f
          (if taken = 0 then .done (handleBytes (s.handleOf i) ++ bytes4 s.book.sequence ++ [0])
          else .condition .shelfUsed (handleBytes (s.handleOf i) ++ bytes4 s.book.sequence ++ bytes1 taken))
        ∧ (s.pack.age = [] → u = t ∧ taken = 0)
        ∧ t.order i = some
            { state := .active, webNumber := x.webNumber, sequence := s.book.sequence, priority := x.priority
              alterLevel := x.alterLevel, holdReason := none, bin := none, lines := ls }
        ∧ t.handleOf i = s.handleOf i ∧ (∀ j : OrderNo, j ≠ i → t.order j = s.order j)
        ∧ ls.length = x.entries.length ∧ ls.Nodup ∧ (∀ n ∈ ls, s.line n = none)
        ∧ (∀ n : LineNo, n ∉ ls → t.line n = s.line n)
        ∧ (∀ (k : Fin 8) (e : LineEntry) (n : LineNo), x.entries[k.val]? = some e → ls[k.val]? = some n →
            t.line n = some
              { order := i, position := k, artwork := e.artwork, sku := e.sku, quantity := e.quantity
                good := 0, inFlight := 0, scrap := 0 })
        ∧ (∀ a : ArtworkNo, tget t.artworks a =
            { tget s.artworks a with
              refs := (tget s.artworks a).refs + (x.entries.filter fun e => decide (e.artwork = a)).length })
        ∧ i ∈ t.book.active
        ∧ t.book.sequence = (if s.book.sequence = 4294967295 then 1 else s.book.sequence + 1)
        ∧ t = { s.without p rest with book := t.book, artworks := t.artworks }

/-- HOLD ORDER and RELEASE ORDER: LEVEL before STATE; an ACTIVE order becomes HELD with reason ORDERED, leaves the
list and ORDER HELD is posted; a HELD order becomes ACTIVE in its sorted place, orphan uptake follows, and the reply
carries the shirts it took, SHELF USED above 0. -/
def Obligations.HoldAndReleaseOrder : Prop :=
  ∀ (s : State) (p : Port) (f : Frame) (rest : List Frame) (i : OrderNo) (o : Order) (level : Nat),
    f.body = handleBytes (s.handleOf i) → (s.handleOf i).generation ≤ 255 → s.order i = some o →
    authorityLevel p = some level →
    (Offered s p .holdOrder f rest →
        (o.alterLevel < level → exec (.holdOrder p) s = answer (s.without p rest) p f (.refused .level []))
        ∧ (level ≤ o.alterLevel → o.state ≠ .active →
            exec (.holdOrder p) s = answer (s.without p rest) p f (.refused .state []))
        ∧ (level ≤ o.alterLevel → o.state = .active →
            exec (.holdOrder p) s = answer
              (post .order (.orderHeldOrdered (s.handleOf i) o.webNumber level)
                (leaveActive i (putOrder i (some { o with state := .held, holdReason := some .ordered })
                  (s.without p rest)))) p f (.done [])))
      ∧ (Offered s p .releaseOrder f rest →
        (o.alterLevel < level → exec (.releaseOrder p) s = answer (s.without p rest) p f (.refused .level []))
        ∧ (level ≤ o.alterLevel → o.state ≠ .held →
            exec (.releaseOrder p) s = answer (s.without p rest) p f (.refused .state []))
        ∧ (level ≤ o.alterLevel → o.state = .held → ∀ t : State,
            t = joinActive i (putOrder i (some { o with state := .active, holdReason := none }) (s.without p rest)) →
            (s.pack.age = [] → exec (.releaseOrder p) s = answer t p f (.done [0]))
            ∧ ∀ (u : State) (taken : Nat), orphanUptake i t = (u, taken) →
              exec (.releaseOrder p) s = answer u p f
                (if taken = 0 then .done [0] else .condition .shelfUsed (bytes1 taken))))

/-- CANCEL ORDER by the order's state: COMPLETE is refused STATE, CANCELLING is ALREADY; an ACTIVE or HELD order
leaves the list with its hold reason cleared, its bin, where it holds one, is emptied to the shelf and freed, and it
returns to FREE with no shirt in flight, or becomes CANCELLING.
The model's choice: the results an ALREADY reply carries (log entry 28). -/
def Obligations.CancelOrderByState : Prop :=
  ∀ (s : State) (p : Port) (f : Frame) (rest : List Frame) (i : OrderNo) (o : Order),
    Offered s p .cancelOrder f rest → f.body = handleBytes (s.handleOf i) → (s.handleOf i).generation ≤ 255 →
    s.order i = some o →
    (o.state = .complete → exec (.cancelOrder p) s = answer (s.without p rest) p f (.refused .state []))
      ∧ (o.state = .cancelling →
          exec (.cancelOrder p) s = answer (s.without p rest) p f
            (.condition .already ([4] ++ bytes2 (totalInFlight s o))))
      ∧ (o.state = .active ∨ o.state = .held → o.bin = none → totalInFlight s o = 0 →
          exec (.cancelOrder p) s = answer
            (freeOrder i .cancelled (leaveActive i (putOrder i (some { o with holdReason := none })
              (s.without p rest)))) p f (.done [0, 0, 0]))
      ∧ (o.state = .active ∨ o.state = .held → o.bin = none → 0 < totalInFlight s o →
          exec (.cancelOrder p) s = answer
            (leaveActive i (putOrder i (some { o with state := .cancelling, holdReason := none })
              (s.without p rest))) p f (.done ([4] ++ bytes2 (totalInFlight s o))))
      ∧ (o.state = .active ∨ o.state = .held → o.bin.isSome = true → ∀ t : State,
          t = emptyBin i (leaveActive i (putOrder i (some { o with holdReason := none }) (s.without p rest))) →
          (totalInFlight s o = 0 →
            exec (.cancelOrder p) s = answer (freeOrder i .cancelled t) p f (.done [0, 0, 0]))
          ∧ (0 < totalInFlight s o →
            exec (.cancelOrder p) s = answer
              (putOrder i (some { o with state := .cancelling, holdReason := none, bin := none }) t) p f
              (.done ([4] ++ bytes2 (totalInFlight s o)))))

/-- Orphan uptake, shirt by shirt: with no line in need that the shelf has an entry for, it takes nothing; otherwise the
first such line in position order takes the oldest matching entry: into the order's bin, or into the lowest-numbered
free bin given to it (with none free the uptake ends); the entry leaves the shelf, the line's good count rises by 1,
SHELF TO BIN is posted, the completion check is made, and the uptake goes on. Each shirt it counts frees one slot.
A cancelled order's bin is emptied to the shelf: its good shirts, line by line, go to the lowest-numbered free slots
as the newest entries with the present stamp, the others are wasted, the bin becomes free and BIN TO SHELF is posted.
Every step keeps the bins (each free or owned by one order that names it) and the shelf (each entry once in the age
order). -/
def Obligations.ShelfCountsBalance : Prop :=
  (∀ (i : OrderNo) (s : State), freeSlots (orphanUptake i s).1 = freeSlots s + (orphanUptake i s).2)
    ∧ (∀ (s : State) (i : OrderNo) (o : Order), s.order i = some o →
      ((∀ n ∈ o.lines, ∀ l, s.line n = some l → 0 < l.need → ∀ sl ∈ s.pack.age, ¬ s.fits l sl) →
          orphanUptake i s = (s, 0))
        ∧ ∀ (first last : List LineNo) (n : LineNo) (l : Line) (older newer : List SlotNo) (sl : SlotNo),
          o.lines = first ++ n :: last →
          (∀ m ∈ first, ∀ l', s.line m = some l' → 0 < l'.need → ∀ x ∈ s.pack.age, ¬ s.fits l' x) →
          s.line n = some l → 0 < l.need → s.pack.age = older ++ sl :: newer → s.fits l sl →
          (∀ x ∈ older, ¬ s.fits l x) →
          (o.bin = none → (∀ b : BinNo, (tget s.pack.bins b).isSome = true) → orphanUptake i s = (s, 0))
          ∧ ∀ b : BinNo,
            (o.bin = some b ∨ o.bin = none ∧ tget s.pack.bins b = none ∧ ∀ j : BinNo, j < b → (tget s.pack.bins j).isSome = true) →
            ∃ t : State, t = completionCheck i (post .pack (.shelfToBin sl b (s.handleOf i) l.position.val)
                (putLine n (some { l with good := l.good + 1 }) (putOrder i (some { o with bin := some b })
                  (s.setPack { s.pack with
                    bins := if o.bin = none then tset s.pack.bins b (some (s.handleOf i)) else s.pack.bins
                    shelf := tset s.pack.shelf sl none, age := s.pack.age.filter fun x => decide (x ≠ sl) }))))
              ∧ orphanUptake i s = ((orphanUptake i t).1, (orphanUptake i t).2 + 1))
    ∧ (∀ (s : State) (i : OrderNo) (o : Order) (b : BinNo) (shirts : List (ArtworkNo × Sku)) (free : List SlotNo)
      (made wasted : Nat), s.order i = some o → o.bin = some b →
      shirts = (linesOf s o).flatMap (fun l => List.replicate l.good (l.artwork, l.sku)) →
      free = (List.finRange 16).filter (fun sl => (tget s.pack.shelf sl).isNone) →
      made = min free.length shirts.length → wasted = shirts.length - made →
      ∃ shelf : Vector (Option ShelfEntry) 16,
        emptyBin i s = post .pack (.binToShelf b made wasted (s.handleOf i))
          (putOrder i (some { o with bin := none }) (s.setPack { s.pack with
            bins := tset s.pack.bins b none, shelf := shelf, age := s.pack.age ++ free.take made }))
        ∧ (∀ (k : Nat) (sl : SlotNo) (a : ArtworkNo) (x : Sku), free[k]? = some sl → shirts[k]? = some (a, x) →
            tget shelf sl = some { artwork := a, sku := x, stamp := s.time.now })
        ∧ (∀ sl : SlotNo, sl ∉ free.take made → tget shelf sl = tget s.pack.shelf sl)
        ∧ made + wasted = totalGood s o ∧ freeSlots s = freeSlots (emptyBin i s) + made
        ∧ (0 < wasted → freeSlots (emptyBin i s) = 0))
    ∧ (∀ s t : State, s.binsOwned → step s = .next t → t.binsOwned)
    ∧ (∀ s t : State, s.shelfAged → step s = .next t → t.shelfAged)

/-- Freeing a unit: its platen, the tunnel queue and the exit list no longer name it, its line's counts change by the
disposition, its record is free with the generation advanced (1023 to 1), and no other unit's record changes. A unit
of a CANCELLING order is followed by the return check: with no other shirt of the order in flight the order returns to
FREE, its lines with it, and ORDER FREED is posted; otherwise the order stays.
The scrap-limit check holds an ACTIVE or HELD order as the count passes the limit. The completion check makes an order
with good equal to quantity on every line COMPLETE. The descriptor return gives the lines back, each artwork's reference
count falls by its lines among them, the descriptor is FREE with its generation advanced (255 to 1), and ORDER FREED
carries the handle as it stood before.
The model's choice: where a removal from the tunnel queue also completes a quiesce, its QUIESCED notice is posted before
ORDER FREED (log entry 13). -/
def Obligations.FreedUnitAndItsOrder : Prop :=
  (∀ (d : Disposition) (u : UnitNo) (s : State) (sh : Shirt) (n : LineNo) (l m : Line) (o : Order) (i : OrderNo),
      s.shirt u = some sh → i = sh.order.index → s.order i = some o → lineNoOf s i sh.line = some n →
      s.line n = some l →
      m = (match d with
        | .binned => { l with inFlight := l.inFlight - 1, good := l.good + 1 }
        | .scrapped => { l with inFlight := l.inFlight - 1, scrap := if l.scrap < 255 then l.scrap + 1 else l.scrap }
        | .unloaded | .orphaned | .lost | .lineReset => { l with inFlight := l.inFlight - 1 }) →
      ∃ t, freeUnit d u s = t ∧ t.shirt u = none
        ∧ t.generation u = (if s.generation u = 1023 then 1 else s.generation u + 1)
        ∧ (∀ v : UnitNo, v ≠ u → t.shirt v = s.shirt v ∧ t.generation v = s.generation v)
        ∧ (∀ pl, sh.platen = some pl → (tget t.ring.platens pl).unit = none)
        ∧ t.tunnel.queue = s.tunnel.queue.filter (fun r => decide (r.unit ≠ u))
        ∧ t.pack.exits = s.pack.exits.filter (fun v => decide (v ≠ u))
        ∧ (o.state ≠ .cancelling → t.line n = some m ∧ ∀ k : LineNo, k ≠ n → t.line k = s.line k)
        ∧ (o.state = .cancelling → d ∈ [.unloaded, .scrapped, .orphaned, .lost] →
          ((1 < l.inFlight ∨ ∃ k ∈ o.lines, k ≠ n ∧ ∃ l', s.line k = some l' ∧ 0 < l'.inFlight) →
              t.order i = some o ∧ t.line n = some m ∧ ∀ k : LineNo, k ≠ n → t.line k = s.line k)
          ∧ (l.inFlight ≤ 1 → (∀ k ∈ o.lines, k ≠ n → ∀ l', s.line k = some l' → l'.inFlight = 0) →
              t = clearUnit u (freeOrder i .cancelled (putLine n (some m) (leavePlace u s)))
              ∧ t.order i = none ∧ (∀ k ∈ o.lines, t.line k = none) ∧ (∀ k : LineNo, k ∉ o.lines → t.line k = s.line k)
              ∧ ∃ x : PortState, t.port .order =
                x.join { notice := .orderFreed (s.handleOf i) o.webNumber .cancelled, stamp := s.time.now })))
    ∧ (∀ (s : State) (i : OrderNo) (o : Order) (k : Fin 8) (before after : Nat), s.order i = some o →
      ((o.state = .active ∨ o.state = .held) → before ≤ s.load.scrapLimit → s.load.scrapLimit < after →
          scrapLimitCheck i k before after s =
            post .order (.orderHeldScrap (s.handleOf i) o.webNumber k.val)
              (leaveActive i (putOrder i (some { o with state := .held, holdReason := some .scrapLimit }) s)))
        ∧ ((o.state ≠ .active ∧ o.state ≠ .held ∨ s.load.scrapLimit < before ∨ after ≤ s.load.scrapLimit) → scrapLimitCheck i k before after s = s))
    ∧ (∀ (s : State) (i : OrderNo) (o : Order), s.order i = some o →
      ((∀ l ∈ linesOf s o, l.good = l.quantity) →
          completionCheck i s =
            post .pack (.binReady o.bin (s.handleOf i) o.webNumber)
              (post .order (.orderComplete (s.handleOf i) o.webNumber o.bin)
                (leaveActive i (putOrder i (some { o with state := .complete, holdReason := none }) s))))
        ∧ ((∃ l ∈ linesOf s o, l.good ≠ l.quantity) → completionCheck i s = s))
    ∧ (∀ (s : State) (i : OrderNo) (o : Order) (cause : FreedCause), s.order i = some o →
      ∃ t, freeOrder i cause s = post .order (.orderFreed (s.handleOf i) o.webNumber cause) t
        ∧ t.order i = none
        ∧ (t.handleOf i).generation =
            (if (s.handleOf i).generation = 255 then 1 else (s.handleOf i).generation + 1)
        ∧ (∀ n ∈ o.lines, t.line n = none) ∧ (∀ n : LineNo, n ∉ o.lines → t.line n = s.line n)
        ∧ (∀ a : ArtworkNo, tget t.artworks a =
            { tget s.artworks a with
              refs := (tget s.artworks a).refs - ((s.linesNaming a).filter o.lines.contains).length })
        ∧ (∀ j : OrderNo, j ≠ i → t.order j = s.order j ∧ t.handleOf j = s.handleOf j)
        ∧ t = { s with book := t.book, artworks := t.artworks })

/-- DEFINE ARTWORK defines an EMPTY descriptor with the design carried and refuses a DEFINED one with IN USE; REMOVE
ARTWORK refuses an EMPTY one with STATE and a referenced one with IN USE, and otherwise clears the descriptor,
posting ARTWORK REMOVED where it was staged.
ARTWORK STAGED by R43's order of checks, and the start test where the Print station waits for the artwork; ARTWORK
EVICTED: ALREADY for one not staged, IN USE while it is engaged, otherwise the flag is cleared. Both refuse an EMPTY
descriptor with STATE. All four refuse a number above 63, and DEFINE ARTWORK a design out of range, with BAD FIELD. -/
def Obligations.ArtworkRequests : Prop :=
  (∀ (s : State) (p : Port) (f : Frame) (rest : List Frame) (a : ArtworkNo),
      (∀ d : Design, Offered s p .defineArtwork f rest → d.inRange → f.body = d.bytes a →
          ((tget s.artworks a).design = none →
            exec (.defineArtwork p) s = answer
              ((s.without p rest).setArtworks
                (tset s.artworks a { design := some d, refs := 0, staged := false })) p f (.done []))
          ∧ ((tget s.artworks a).design.isSome = true →
            exec (.defineArtwork p) s = answer (s.without p rest) p f (.refused .inUse [])))
        ∧ (Offered s p .removeArtwork f rest → f.body = bytes1 a.val →
          ((tget s.artworks a).design = none →
            exec (.removeArtwork p) s = answer (s.without p rest) p f (.refused .state []))
          ∧ ((tget s.artworks a).design.isSome = true → 0 < (tget s.artworks a).refs →
            exec (.removeArtwork p) s = answer (s.without p rest) p f (.refused .inUse []))
          ∧ ((tget s.artworks a).design.isSome = true → (tget s.artworks a).refs = 0 →
              (tget s.artworks a).staged = false →
            exec (.removeArtwork p) s = answer
              ((s.without p rest).setArtworks (tset s.artworks a { design := none, refs := 0, staged := false }))
              p f (.done []))
          ∧ ((tget s.artworks a).design.isSome = true → (tget s.artworks a).refs = 0 →
              (tget s.artworks a).staged = true →
            exec (.removeArtwork p) s = answer
              (post .engine (.artworkRemoved a)
                ((s.without p rest).setArtworks (tset s.artworks a { design := none, refs := 0, staged := false })))
              p f (.done []))))
    ∧ (∀ (s : State) (p : Port) (f : Frame) (rest : List Frame) (a : ArtworkNo), f.body = bytes1 a.val →
      (tget s.artworks a).design.isSome = true →
      (Offered s p .artworkStaged f rest →
          ((tget s.artworks a).staged = true →
            exec (.artworkStaged p) s = answer (s.without p rest) p f (.condition .already []))
          ∧ ((tget s.artworks a).staged = false → 16 ≤ stagedCount s →
            exec (.artworkStaged p) s = answer (s.without p rest) p f (.refused .full []))
          ∧ ((tget s.artworks a).staged = false → stagedCount s < 16 →
              ¬ (s.print.state = .waitArtwork ∧ heldArtwork s = some a) →
            exec (.artworkStaged p) s = answer
              ((s.without p rest).setArtworks (tset s.artworks a { tget s.artworks a with staged := true }))
              p f (.done []))
          ∧ ((tget s.artworks a).staged = false → stagedCount s < 16 → s.print.state = .waitArtwork →
              heldArtwork s = some a →
            exec (.artworkStaged p) s = answer
              (printStartTest
                ((s.without p rest).setArtworks (tset s.artworks a { tget s.artworks a with staged := true })))
              p f (.done [])))
        ∧ (Offered s p .artworkEvicted f rest →
          ((tget s.artworks a).staged = false →
            exec (.artworkEvicted p) s = answer (s.without p rest) p f (.condition .already []))
          ∧ ((tget s.artworks a).staged = true → s.print.state ∈ [.registering, .passing, .aborting, .parking] →
              heldArtwork s = some a →
            exec (.artworkEvicted p) s = answer (s.without p rest) p f (.refused .inUse []))
          ∧ ((tget s.artworks a).staged = true →
              ¬ (s.print.state ∈ [.registering, .passing, .aborting, .parking] ∧ heldArtwork s = some a) →
            exec (.artworkEvicted p) s = answer
              ((s.without p rest).setArtworks (tset s.artworks a { tget s.artworks a with staged := false }))
              p f (.done []))))
    ∧ (∀ (s : State) (p : Port) (f : Frame) (rest : List Frame),
      (∀ (num bands mask white colour : Byte) (more : List Byte), Offered s p .defineArtwork f rest →
          f.body = num :: bands :: mask :: white :: colour :: more →
          (63 < num.toNat ∨ bands = 0 ∨ 24 < bands.toNat ∨ mask = 0 ∨ white = 0 ∨ 2 < white.toNat ∨ colour = 0
            ∨ 4 < colour.toNat) →
          exec (.defineArtwork p) s = answer (s.without p rest) p f (.refused .badField []))
        ∧ (∀ (r : Request) (num : Byte), r ∈ [.removeArtwork, .artworkStaged, .artworkEvicted] →
          Offered s p r f rest → f.body = [num] → 63 < num.toNat →
          exec (r.command p) s = answer (s.without p rest) p f (.refused .badField []))
        ∧ ∀ (r : Request) (a : ArtworkNo), r ∈ [.artworkStaged, .artworkEvicted] → Offered s p r f rest →
          f.body = bytes1 a.val → (tget s.artworks a).design = none →
          exec (r.command p) s = answer (s.without p rest) p f (.refused .state []))

/-! ### Chapter 3 -/

/-- The candidate search: the line it finds has the scanned SKU and need above 0, stands in an order of the Active
Order List, and no earlier order of the list, nor earlier line of its order, has such a line; it finds nothing
only where no order of the list has one. -/
def Obligations.CandidateIsFirst : Prop :=
  ∀ (s : State) (k : Sku),
    (∀ (i : OrderNo) (n : LineNo) (l : Line), candidate s k = some (i, n, l) →
        s.line n = some l ∧ l.sku = k ∧ 0 < l.need
        ∧ ∃ (before after : List OrderNo) (o : Order) (first last : List LineNo),
            s.book.active = before ++ i :: after ∧ s.order i = some o ∧ o.lines = first ++ n :: last
            ∧ (∀ j ∈ before, candidateIn s k j = none)
            ∧ ∀ m ∈ first, ∀ l', s.line m = some l' → ¬ (l'.sku = k ∧ 0 < l'.need))
      ∧ (candidate s k = none →
          ∀ i ∈ s.book.active, ∀ o, s.order i = some o → ∀ n ∈ o.lines, ∀ l, s.line n = some l →
            ¬ (l.sku = k ∧ 0 < l.need))

/-- The checks of LOAD in order: MOVING, QUIESCED, PLATEN, OCCUPIED, BAD FIELD, NO DEMAND, PLATEN CLASS with reason CLASS or
CAPACITY, each changing nothing. An accepted LOAD: the lowest free record becomes a LOADED unit of the candidate
with the darkness and dark flag of the tables in force, its line's in-flight count rises, the load platen names it. -/
def Obligations.LoadByItsChecks : Prop :=
  (∀ (s : State) (p : Port) (f : Frame) (rest : List Frame) (pl : PlatenNo), Offered s p .load f rest →
      (s.ring.state = .moving → exec (.load p) s = answer (s.without p rest) p f (.refused .moving []))
        ∧ (s.ring.state = .still → s.load.quiesce ≠ .running →
            exec (.load p) s = answer (s.without p rest) p f (.refused .quiesced []))
        ∧ (s.ring.state = .still → s.load.quiesce = .running → platenAt s 0 = some pl →
            ((tget s.ring.platens pl).enabled = false →
                exec (.load p) s = answer (s.without p rest) p f (.refused .platen []))
            ∧ ((tget s.ring.platens pl).enabled = true → (tget s.ring.platens pl).unit.isSome = true →
                exec (.load p) s = answer (s.without p rest) p f (.refused .occupied []))
            ∧ (∀ fb c z : Byte, f.body = [fb, c, z] → (7 < fb.toNat ∨ 63 < c.toNat ∨ 7 < z.toNat) →
                (tget s.ring.platens pl).enabled = true → (tget s.ring.platens pl).unit = none →
                exec (.load p) s = answer (s.without p rest) p f (.refused .badField []))
            ∧ ∀ k : Sku, f.body = skuBytes k → (tget s.ring.platens pl).enabled = true →
                (tget s.ring.platens pl).unit = none →
              (candidate s k = none → exec (.load p) s = answer (s.without p rest) p f (.refused .noDemand []))
              ∧ ∀ (i : OrderNo) (n : LineNo) (l : Line) (d : Design), candidate s k = some (i, n, l) →
                  (tget s.artworks l.artwork).design = some d →
                ((tget s.ring.platens pl).sizeClass ≠ tget s.load.sizeMap k.size →
                  exec (.load p) s = answer (s.without p rest) p f
                    (.refused .platenClass ([0] ++ bytes1 (tget s.load.sizeMap k.size).code
                      ++ bytes1 (tget s.ring.platens pl).sizeClass.code ++ bytes1 d.coverage.length
                      ++ handleBytes (s.handleOf i) ++ bytes1 l.position.val)))
                ∧ ((tget s.ring.platens pl).sizeClass = tget s.load.sizeMap k.size →
                    (tget s.load.sizeMap k.size).capacity < d.coverage.length →
                  exec (.load p) s = answer (s.without p rest) p f
                    (.refused .platenClass ([1] ++ bytes1 (tget s.load.sizeMap k.size).code
                      ++ bytes1 (tget s.ring.platens pl).sizeClass.code ++ bytes1 d.coverage.length
                      ++ handleBytes (s.handleOf i) ++ bytes1 l.position.val)))))
    ∧ (∀ (s : State) (p : Port) (f : Frame) (rest : List Frame) (k : Sku) (pl : PlatenNo) (i : OrderNo) (n : LineNo)
      (l : Line) (o : Order) (u : UnitNo) (d : Design),
      Offered s p .load f rest → f.body = skuBytes k → s.ring.state = .still → s.load.quiesce = .running →
      platenAt s 0 = some pl → (tget s.ring.platens pl).enabled = true → (tget s.ring.platens pl).unit = none →
      candidate s k = some (i, n, l) → s.order i = some o → (tget s.artworks l.artwork).design = some d →
      (tget s.ring.platens pl).sizeClass = tget s.load.sizeMap k.size →
      d.coverage.length ≤ (tget s.load.sizeMap k.size).capacity →
      s.shirt u = none → (∀ v : UnitNo, v < u → (s.shirt v).isSome = true) →
      exec (.load p) s = answer
        (setPlatenUnit pl (some u)
          (putShirt u
            (some
              { state := .loaded, order := s.handleOf i, line := l.position, sku := k, artwork := l.artwork
                darkness := tget s.load.colours k.colour
                dark := decide (s.load.darkThreshold ≤ tget s.load.colours k.colour), platen := some pl
                flags := { bypassed := false, saturated := false, unreadyEntry := false, recured := false }
                fault := none, dose := none, print := none, cure := none })
            (putLine n (some { l with inFlight := l.inFlight + 1 }) (s.without p rest))))
        p f
        (.done (tagBytes (s.tagOf u) ++ handleBytes (s.handleOf i) ++ bytes4 o.webNumber.toNat
          ++ bytes1 l.position.val ++ bytes1 l.artwork.val
          ++ bytes1 (yesNoCode (decide (s.load.darkThreshold ≤ tget s.load.colours k.colour))))))

/-- UNLOAD frees a LOADED unit on the load platen of a STILL ring, refuses MOVING first and any other unit with STATE;
BYPASS PRETREAT by R58's table: flagged at positions 0 to 3, released where the Pretreat station holds it. A unit on no
platen is refused with STATE by both, after MOVING of an UNLOAD.
The model's choices: the need in the reply is taken before any return of the line (log entry 15); STATE for a LOADED
unit on no platen, which the rules never bring about (log entry 23). -/
def Obligations.UnloadAndBypass : Prop :=
  ∀ (s : State) (p : Port) (f : Frame) (rest : List Frame) (u : UnitNo) (sh : Shirt),
    f.body = tagBytes (s.tagOf u) → s.generation u ≤ 1023 → s.shirt u = some sh →
    (∀ pl : PlatenNo, sh.platen = some pl →
      (Offered s p .unload f rest →
        (s.ring.state = .moving → exec (.unload p) s = answer (s.without p rest) p f (.refused .moving []))
        ∧ (s.ring.state = .still → (sh.state ≠ .loaded ∨ (tget s.ring.platens pl).position ≠ 0) →
            exec (.unload p) s = answer (s.without p rest) p f (.refused .state []))
        ∧ (s.ring.state = .still → sh.state = .loaded → (tget s.ring.platens pl).position = 0 →
            ∀ l, lineOf s sh = some l →
            exec (.unload p) s = answer (freeUnit .unloaded u (s.without p rest)) p f
              (.done (handleBytes sh.order ++ bytes1 sh.line.val
                ++ bytes1 (l.quantity - l.good - (l.inFlight - 1))))))
      ∧ (Offered s p .bypassPretreat f rest →
        (sh.state ≠ .loaded → exec (.bypassPretreat p) s = answer (s.without p rest) p f (.refused .state []))
        ∧ (sh.state = .loaded → sh.flags.bypassed = true →
            exec (.bypassPretreat p) s = answer (s.without p rest) p f (.condition .already []))
        ∧ (sh.state = .loaded → sh.flags.bypassed = false → 3 < (tget s.ring.platens pl).position.val →
            exec (.bypassPretreat p) s = answer (s.without p rest) p f (.refused .state []))
        ∧ (sh.state = .loaded → sh.flags.bypassed = false → (tget s.ring.platens pl).position.val ≤ 3 →
            (pretreatHolds s u = false →
              exec (.bypassPretreat p) s = answer
                (putShirt u (some { sh with flags := { sh.flags with bypassed := true } }) (s.without p rest))
                p f (.done []))
            ∧ (pretreatHolds s u = true →
              exec (.bypassPretreat p) s = answer
                (releaseHold .pretreat (setPretreatState .idle none
                  (putShirt u (some { sh with flags := { sh.flags with bypassed := true } }) (s.without p rest))))
                p f (.done [])))))
      ∧ (sh.platen = none →
        (Offered s p .unload f rest →
            (s.ring.state = .moving → exec (.unload p) s = answer (s.without p rest) p f (.refused .moving []))
            ∧ (s.ring.state = .still → exec (.unload p) s = answer (s.without p rest) p f (.refused .state [])))
          ∧ (Offered s p .bypassPretreat f rest →
            (sh.state ≠ .loaded → exec (.bypassPretreat p) s = answer (s.without p rest) p f (.refused .state []))
            ∧ (sh.state = .loaded → sh.flags.bypassed = true →
              exec (.bypassPretreat p) s = answer (s.without p rest) p f (.condition .already []))
            ∧ (sh.state = .loaded → sh.flags.bypassed = false →
              exec (.bypassPretreat p) s = answer (s.without p rest) p f (.refused .state []))))

/-- The four load-gated writes and WRITE DOSE TABLE: BAD FIELD out of range; NOT QUIESCED unless the gating station is
QUIESCED; otherwise the values named are replaced and nothing else changes. -/
def Obligations.LoadAndDoseTableWrites : Prop :=
  ∀ (s : State) (p : Port) (f : Frame) (rest : List Frame) (s0 : State), s0 = s.without p rest →
    (∀ (first : Byte) (vals : List Byte), Offered s p .writeColourTable f rest → f.body = first :: vals →
        ((63 < first.toNat ∨ vals = [] ∨ 64 < first.toNat + vals.length) →
          exec (.writeColourTable p) s = answer s0 p f (.refused .badField []))
        ∧ (vals ≠ [] → first.toNat + vals.length ≤ 64 → s.load.quiesce ≠ .quiesced →
          exec (.writeColourTable p) s = answer s0 p f (.refused .notQuiesced []))
        ∧ (vals ≠ [] → first.toNat + vals.length ≤ 64 → s.load.quiesce = .quiesced →
          ∃ v : Vector Nat 64, exec (.writeColourTable p) s =
              answer (s0.setLoad { s.load with colours := v }) p f (.done [])
            ∧ ∀ c : Fin 64, tget v c =
                if first.toNat ≤ c.val ∧ c.val < first.toNat + vals.length then
                  (vals.getD (c.val - first.toNat) 0).toNat
                else tget s.load.colours c))
      ∧ (∀ b c : Byte, Offered s p .writeSizeMap f rest → f.body = [b, c] →
        ((7 < b.toNat ∨ 2 < c.toNat) → exec (.writeSizeMap p) s = answer s0 p f (.refused .badField []))
        ∧ ∀ (z : Fin 8) (cls : SizeClass), b.toNat = z.val → c.toNat = cls.code →
          (s.load.quiesce ≠ .quiesced → exec (.writeSizeMap p) s = answer s0 p f (.refused .notQuiesced []))
          ∧ (s.load.quiesce = .quiesced → exec (.writeSizeMap p) s =
            answer (s0.setLoad { s.load with sizeMap := tset s.load.sizeMap z cls }) p f (.done [])))
      ∧ (∀ b : Byte, Offered s p .writeDarkThreshold f rest → f.body = [b] →
        (s.load.quiesce ≠ .quiesced → exec (.writeDarkThreshold p) s = answer s0 p f (.refused .notQuiesced []))
        ∧ (s.load.quiesce = .quiesced → exec (.writeDarkThreshold p) s =
          answer (s0.setLoad { s.load with darkThreshold := b.toNat }) p f (.done [])))
      ∧ (∀ b : Byte, Offered s p .writeScrapLimit f rest → f.body = [b] →
        (7 < b.toNat → exec (.writeScrapLimit p) s = answer s0 p f (.refused .badField []))
        ∧ (b.toNat ≤ 7 → s.load.quiesce ≠ .quiesced →
          exec (.writeScrapLimit p) s = answer s0 p f (.refused .notQuiesced []))
        ∧ (b.toNat ≤ 7 → s.load.quiesce = .quiesced → exec (.writeScrapLimit p) s =
          answer (s0.setLoad { s.load with scrapLimit := b.toNat }) p f (.done [])))
      ∧ (∀ (first : Byte) (ds : List Nat), Offered s p .writeDoseTable f rest →
          f.body = first :: ds.flatMap bytes2 → (∀ d ∈ ds, d < 65536) →
        ((7 < first.toNat ∨ ds = [] ∨ 8 < first.toNat + ds.length ∨ ∃ d ∈ ds, 400 < d) →
          exec (.writeDoseTable p) s = answer s0 p f (.refused .badField []))
        ∧ (ds ≠ [] → first.toNat + ds.length ≤ 8 → (∀ d ∈ ds, d ≤ 400) → s.pretreat.quiesce ≠ .quiesced →
          exec (.writeDoseTable p) s = answer s0 p f (.refused .notQuiesced []))
        ∧ (ds ≠ [] → first.toNat + ds.length ≤ 8 → (∀ d ∈ ds, d ≤ 400) → s.pretreat.quiesce = .quiesced →
          ∃ v : Vector Nat 8, exec (.writeDoseTable p) s =
              answer (s0.setPretreat { s.pretreat with doses := v }) p f (.done [])
            ∧ ∀ c : Fin 8, tget v c =
                if first.toNat ≤ c.val ∧ c.val < first.toNat + ds.length then ds.getD (c.val - first.toNat) 0
                else tget s.pretreat.doses c))

/-! ### Chapters 4 and 5 -/

/-- The dose arithmetic for every input in its range: at most 3 sweeps, duty 1..255 exactly for a sprayed band, delivered
dose at most three pass capacities and 397 gsm, fluid at most 3,176 mg, nothing for a dry band. An unsaturated band
takes the least number of full-duty sweeps that reaches its dose; one that would take more than 3 is saturated.
The stages for every input: with s = 128 + floor(d / 2), e the white coverage of a dark unit and the colour coverage of
a light one, and q = 32 + floor(7e / 8), the dose is 0 where e or the raw dose floor((B s q + 32768) / 65536) is 0, else
the raw dose raised to the minimum dose. With D the dose, or 3P where that is less, the duty of a sprayed band is
floor((255 D + floor(nP / 2)) / nP), its delivered dose floor(duty nP / 255) or D where that is less, and its fluid
the delivered dose times the zones; a band of dose 0 has 0 in every field. -/
def Obligations.DoseArithmetic : Prop :=
  (∀ (i : DoseInputs) (c : Coverage), i.base ≤ 400 → i.darkness ≤ 255 → 20 ≤ i.passCapacity → i.passCapacity ≤ 200 →
      i.minDose ≤ 100 → i.zones ≤ 8 → c.white ≤ 255 → c.colour ≤ 255 →
      ∃ b, bandPlan i c = b ∧ bandDose i c ≤ 397 ∧ b.sweeps ≤ 3 ∧ b.duty ≤ 255 ∧ (0 < b.sweeps ↔ 1 ≤ b.duty)
        ∧ b.delivered ≤ 3 * i.passCapacity ∧ b.delivered ≤ 397 ∧ b.delivered ≤ b.sweeps * i.passCapacity
        ∧ b.fluid = b.delivered * i.zones ∧ b.fluid ≤ 3176
        ∧ (b.sweeps = 0 → b.duty = 0 ∧ b.delivered = 0 ∧ b.fluid = 0))
    ∧ (∀ (i : DoseInputs) (c : Coverage), 0 < i.passCapacity → 0 < bandDose i c →
      (bandDose i c ≤ 3 * i.passCapacity →
          bandSaturated i c = false ∧ bandDose i c ≤ (bandPlan i c).sweeps * i.passCapacity
            ∧ ∀ n, bandDose i c ≤ n * i.passCapacity → (bandPlan i c).sweeps ≤ n)
        ∧ (3 * i.passCapacity < bandDose i c →
          bandSaturated i c = true ∧ (bandPlan i c).sweeps = 3 ∧ (bandPlan i c).duty = 255))
    ∧ (∀ (i : DoseInputs) (c : Coverage) (s e q raw : Nat), s = 128 + i.darkness / 2 →
      e = (if i.dark = true then c.white else c.colour) → q = 32 + 7 * e / 8 →
      raw = (i.base * s * q + 32768) / 65536 →
      ((e = 0 ∨ raw = 0) → bandDose i c = 0) ∧ (0 < e → 0 < raw → bandDose i c = max raw i.minDose))
    ∧ (∀ (i : DoseInputs) (c : Coverage), bandDose i c = 0 →
      bandPlan i c = { sweeps := 0, duty := 0, delivered := 0, fluid := 0 } ∧ bandSaturated i c = false)
    ∧ (∀ (i : DoseInputs) (c : Coverage) (dose capacity : Nat) (b : BandPlan), 0 < i.passCapacity → 0 < bandDose i c →
      b = bandPlan i c → dose = min (bandDose i c) (3 * i.passCapacity) → capacity = b.sweeps * i.passCapacity →
      0 < b.sweeps ∧ b.duty = (dose * 255 + capacity / 2) / capacity
        ∧ b.delivered = min dose (b.duty * capacity / 255) ∧ b.fluid = b.delivered * i.zones)

/-- The Pretreat station's start test for a unit, in R70's order: QUIESCE WAIT without a plan; nothing to spray; BAR
FAULT; LOW FLUID with its notice on entry; otherwise the sequence starts: F leaves the reservoir, the dose record
and the flag are written, the unit is PRETREATING and the plan is handed over.
A plan handed to a PARKED bar starts for its lowest band with sweeps; to a bar still going home, or centring, it waits.
The plan of a unit is computed from the dose in force for its fabric class, its own darkness and dark flag, the pass
capacity and the minimum dose in force and the number of zones in its artwork's mask, one entry for each band of the
artwork by its white or colour coverage; F and the sweep count are the sums over the bands, and the plan is saturated
when any band is.
The start test that REFILL, RESUME, a bar cleared and an arrival make is that of the unit on the platen at position 3;
with no unit there it changes nothing. -/
def Obligations.PretreatStartAndHandover : Prop :=
  (∀ (s : State) (u : UnitNo) (sh : Shirt) (plan : SprayPlan), s.shirt u = some sh → sprayPlanOf s u sh = plan →
      (s.pretreat.quiesce ≠ .running →
          startTestFor u sh s = s.setPretreat { s.pretreat with state := .quiesceWait, plan := none })
        ∧ (s.pretreat.quiesce = .running →
          (plan.sweepCount = 0 →
              startTestFor u sh s =
                post .load (.pretreated (s.tagOf u) 0 0 sh.flags.saturated)
                  (releaseHold .pretreat
                    ((putShirt u (some { sh with state := .pretreated, dose := some { sweeps := 0, fluid := 0 } }) s).setPretreat
                      { s.pretreat with state := .idle, plan := none })))
          ∧ (0 < plan.sweepCount → s.bar.state = .faulted →
              startTestFor u sh s = s.setPretreat { s.pretreat with state := .barFault, plan := some plan })
          ∧ (0 < plan.sweepCount → s.bar.state ≠ .faulted → s.pretreat.reservoir < plan.fluidTotal →
              s.pretreat.state ≠ .lowFluid →
              startTestFor u sh s =
                post .load (.lowFluid (s.tagOf u) plan.fluidTotal s.pretreat.reservoir)
                  (s.setPretreat { s.pretreat with state := .lowFluid, plan := some plan }))
          ∧ (0 < plan.sweepCount → s.bar.state ≠ .faulted → s.pretreat.reservoir < plan.fluidTotal →
              s.pretreat.state = .lowFluid →
              startTestFor u sh s = s.setPretreat { s.pretreat with state := .lowFluid, plan := some plan })
          ∧ (0 < plan.sweepCount → s.bar.state ≠ .faulted → plan.fluidTotal ≤ s.pretreat.reservoir →
              startTestFor u sh s =
                ((putShirt u (some { sh with
                    state := .pretreating, dose := some { sweeps := plan.sweepCount, fluid := plan.fluidTotal }
                    flags := { sh.flags with saturated := sh.flags.saturated || plan.saturated } }) s).setPretreat
                  { s.pretreat with
                    reservoir := s.pretreat.reservoir - plan.fluidTotal, state := .spraying, plan := some plan }).setBar
                  (s.bar.takePlan plan))))
    ∧ (∀ (b : Bar) (plan : SprayPlan), 0 < plan.sweepCount →
      (b.state = .parked →
          ∃ k, b.takePlan plan = { b with
              state := .moving, target := some (.band k), plan := some plan, planWaiting := false, band := some k
              sweepsDone := 0, nextDirection := .forward }
            ∧ 0 < plan.sweepsOf k ∧ ∀ j, j < k → plan.sweepsOf j = 0)
        ∧ ((b.state = .moving ∨ b.state = .centring) →
          b.takePlan plan = { b with
            plan := some plan, planWaiting := true, sweepsDone := 0, nextDirection := .forward }))
    ∧ (∀ (s : State) (u : UnitNo) (sh : Shirt) (d : Design) (plan : SprayPlan) (i : DoseInputs),
      (tget s.artworks sh.artwork).design = some d → sprayPlanOf s u sh = plan →
      i = { base := tget s.pretreat.doses sh.sku.fabric, darkness := sh.darkness, dark := sh.dark
            passCapacity := s.bar.settings.passCapacity, minDose := s.bar.settings.minDose
            zones := ((List.range 8).filter fun z => d.zoneMask.getLsbD z).length } →
      plan.tag = s.tagOf u ∧ plan.zoneMask = d.zoneMask ∧ plan.bands.length = d.coverage.length
        ∧ (∀ (k : Nat) (c : Coverage), d.coverage[k]? = some c → plan.bands[k]? = some (bandPlan i c)
          ∧ plan.sweepsOf k = (bandPlan i c).sweeps ∧ plan.dutyOf k = (bandPlan i c).duty
          ∧ (effectiveCoverage i.dark c = if sh.dark = true then c.white else c.colour))
        ∧ plan.fluidTotal = (d.coverage.map fun c => (bandPlan i c).fluid).sum
        ∧ plan.sweepCount = (d.coverage.map fun c => (bandPlan i c).sweeps).sum
        ∧ (plan.saturated = true ↔ ∃ c ∈ d.coverage, bandSaturated i c = true))
    ∧ (∀ (s : State) (pl : PlatenNo) (u : UnitNo) (sh : Shirt),
      (∀ q : PlatenNo, (tget s.ring.platens q).position = 3 ↔ q = pl) → (tget s.ring.platens pl).unit = some u →
      s.shirt u = some sh → pretreatStartTest s = startTestFor u sh s)
    ∧ (∀ s : State, (∀ q : PlatenNo, (tget s.ring.platens q).position = 3 → (tget s.ring.platens q).unit = none) →
      pretreatStartTest s = s)

/-- REFILL: the level rises by the amount and is clamped at 8,000,000 mg; the reply carries the amount taken and the
level, CLAMPED when less than the amount was taken; in LOW FLUID the start test is made within the request and
a started unit's tag and F are carried. -/
def Obligations.RefillRaisesTheLevel : Prop :=
  ∀ (s : State) (p : Port) (f : Frame) (rest : List Frame) (amount level : Nat), Offered s p .refill f rest →
    amount < 4294967296 → f.body = bytes4 amount → s.pretreat.reservoir ≤ 8000000 →
    level = (if 8000000 < s.pretreat.reservoir + amount then 8000000 else s.pretreat.reservoir + amount) →
    (s.pretreat.state ≠ .lowFluid →
        exec (.refill p) s = answer ((s.without p rest).setPretreat { s.pretreat with reservoir := level }) p f
          (if level - s.pretreat.reservoir < amount then
            .condition .clamped (bytes4 (level - s.pretreat.reservoir) ++ bytes4 level ++ noneBytes 6)
          else .done (bytes4 amount ++ bytes4 level ++ noneBytes 6)))
      ∧ (s.pretreat.state = .lowFluid →
        ∃ (t : State) (more : List Byte),
          t = pretreatStartTest ((s.without p rest).setPretreat { s.pretreat with reservoir := level })
          ∧ (t.pretreat.state ≠ .spraying → more = noneBytes 6)
          ∧ (∀ plan, t.pretreat.state = .spraying → t.pretreat.plan = some plan →
              more = tagBytes plan.tag ++ bytes4 plan.fluidTotal)
          ∧ exec (.refill p) s = answer t p f
              (if level - s.pretreat.reservoir < amount then
                .condition .clamped
                  (bytes4 (level - s.pretreat.reservoir) ++ bytes4 t.pretreat.reservoir ++ more)
              else .done (bytes4 amount ++ bytes4 t.pretreat.reservoir ++ more)))

/-- WRITE SPRAY SETTINGS: BAD FIELD out of range; the dither-off write taken in every state, ending a dithered sweep
at the first crossing after it; NOT QUIESCED; otherwise all five settings replaced.
The model's choice: a second dither-off write in one sweep does not move the crossing (log entry 21). -/
def Obligations.WriteSpraySettingsTable : Prop :=
  ∀ (s : State) (p : Port) (f : Frame) (rest : List Frame) (x : SpraySettings),
    Offered s p .writeSpraySettings f rest →
    f.body = bytes2 x.sweepTime ++ bytes1 x.amplitude ++ bytes2 x.halfPeriod ++ bytes1 x.passCapacity
      ++ bytes1 x.minDose →
    x.sweepTime < 65536 → x.amplitude < 256 → x.halfPeriod < 65536 → x.passCapacity < 256 → x.minDose < 256 →
    (x.inRange = false → exec (.writeSpraySettings p) s = answer (s.without p rest) p f (.refused .badField []))
      ∧ (x.inRange = true → x = { s.bar.settings with amplitude := 0 } →
          ¬ (s.bar.state = .sweeping ∧ s.bar.dithering = true) →
          exec (.writeSpraySettings p) s = answer ((s.without p rest).setBar { s.bar with settings := x }) p f (.done []))
      ∧ (x.inRange = true → x = { s.bar.settings with amplitude := 0 } → s.bar.state = .sweeping →
          s.bar.dithering = true → s.bar.ditherOffAt = none →
          exec (.writeSpraySettings p) s = answer
            ((s.without p rest).setBar { s.bar with
              settings := x, ditherOffAt := some (s.time.now - s.bar.sweepStart).toNat }) p f (.done []))
      ∧ (∀ w, x.inRange = true → x = { s.bar.settings with amplitude := 0 } → s.bar.state = .sweeping →
          s.bar.dithering = true → s.bar.ditherOffAt = some w →
          exec (.writeSpraySettings p) s = answer ((s.without p rest).setBar { s.bar with settings := x }) p f (.done []))
      ∧ (x.inRange = true → x ≠ { s.bar.settings with amplitude := 0 } → s.pretreat.quiesce ≠ .quiesced →
          exec (.writeSpraySettings p) s = answer (s.without p rest) p f (.refused .notQuiesced []))
      ∧ (x.inRange = true → x ≠ { s.bar.settings with amplitude := 0 } → s.pretreat.quiesce = .quiesced →
          exec (.writeSpraySettings p) s = answer ((s.without p rest).setBar { s.bar with settings := x }) p f (.done []))

/-- BAR IN POSITION by R86's table: a sweep starts at a band; the home move ends the sequence; a bar with no sequence
parks and a waiting plan makes its first move; a cleared fault parks and gives a unit held in BAR FAULT its start
test; anywhere else nothing changes. A sweep opens the valve of each zone of the plan's mask at the band's duty and
leaves the others at 0.
The model's choice: sweeps done and next direction, to which R89 gives no value, are kept over the parking (log entry
36). -/
def Obligations.BarInPositionTable : Prop :=
  ∀ s : State,
    (∀ (k : Nat) (plan : SprayPlan), s.bar.state = .moving → s.bar.target = some (.band k) →
        s.bar.plan = some plan → s.bar.band = some k →
        exec .barInPosition s = .next (s.setBar { s.bar with
          state := .sweeping, target := none, sweepStart := s.time.now, sweepTime := s.bar.settings.sweepTime
          sweepHalf := s.bar.settings.halfPeriod, dithering := decide (0 < s.bar.settings.amplitude)
          ditherOffAt := none, stopAt := none, traverse := some s.bar.nextDirection
          nextDirection := (match s.bar.nextDirection with | .forward => .reverse | .reverse => .forward)
          valves := openValves plan.zoneMask (plan.dutyOf k)
          dither :=
            if 0 < s.bar.settings.amplitude then
              some { amplitude := s.bar.settings.amplitude, halfPeriod := s.bar.settings.halfPeriod }
            else none }))
      ∧ (∀ (plan : SprayPlan) (sh : Shirt) (d : DoseRecord), s.bar.state = .moving → s.bar.target = some .home →
          s.bar.plan = some plan → s.bar.planWaiting = false → s.shirt plan.tag.unit = some sh → sh.dose = some d →
          exec .barInPosition s = .next (completeQuiesce .pretreat
            (post .load (.pretreated (s.tagOf plan.tag.unit) d.fluid d.sweeps sh.flags.saturated)
              (releaseHold .pretreat
                (((putShirt plan.tag.unit (some { sh with state := .pretreated }) s).setBar
                  { s.bar with state := .parked, target := none, plan := none }).setPretreat
                  { s.pretreat with state := .idle, plan := none })))))
      ∧ (s.bar.state = .moving → s.bar.target = some .home → s.bar.plan = none → s.bar.planWaiting = false →
          exec .barInPosition s = .next (s.setBar { s.bar with state := .parked, target := none }))
      ∧ (∀ (plan : SprayPlan) (k : Nat), s.bar.state = .moving → s.bar.target = some .home → s.bar.plan = some plan →
          s.bar.planWaiting = true → plan.nextBand 0 = some k →
          exec .barInPosition s = .next (s.setBar { s.bar with
            state := .moving, target := some (.band k), band := some k, planWaiting := false }))
      ∧ (s.bar.state = .faulted → s.bar.clearPending = true → s.pretreat.state ≠ .barFault →
          exec .barInPosition s =
            .next (s.setBar { s.bar with state := .parked, target := none, clearPending := false }))
      ∧ (s.bar.state = .faulted → s.bar.clearPending = true → s.pretreat.state = .barFault →
          exec .barInPosition s = .next (pretreatStartTest
            (s.setBar { s.bar with state := .parked, target := none, clearPending := false })))
      ∧ (s.bar.state = .parked ∨ s.bar.state = .sweeping ∨ s.bar.state = .centring
            ∨ (s.bar.state = .faulted ∧ s.bar.clearPending = false) → exec .barInPosition s = .next s)
      ∧ ∀ (mask : BitVec 8) (duty : Nat) (z : Fin 8),
        tget (openValves mask duty) z = if mask.getLsbD z.val = true then duty else 0

/-- A sweep's length: T_sw without dither; with dither the least multiple of H at or above T_sw; after a dither-off write
the least multiple of H above the write. At its end valves, traverse and dither become idle and sweeps done rises; the
band's next sweep starts with T_sw, H and the amplitude then in force, dithering only where that is above 0, and the
valves of the mask's zones at the band's duty; or the bar moves to the next higher band with sweeps, or home. The
centring ends at the first crossing after the stop, and the bar goes home. SWEEP END and CENTRING END before their moment change nothing (log
entries 8, 21). Next direction is kept at the home move, to which R88 gives it no value (log entry 36). -/
def Obligations.SweepTimesAndEnds : Prop :=
  (∀ s : State, s.bar.state = .sweeping → 0 < s.bar.sweepHalf →
      (s.bar.dithering = false → s.bar.sweepLength = s.bar.sweepTime)
        ∧ (s.bar.dithering = true → s.bar.ditherOffAt = none →
            s.bar.sweepHalf ∣ s.bar.sweepLength ∧ s.bar.sweepTime ≤ s.bar.sweepLength
              ∧ s.bar.sweepLength < s.bar.sweepTime + s.bar.sweepHalf)
        ∧ (∀ w, s.bar.dithering = true → s.bar.ditherOffAt = some w →
            s.bar.sweepHalf ∣ s.bar.sweepLength ∧ w < s.bar.sweepLength ∧ s.bar.sweepLength ≤ w + s.bar.sweepHalf)
        ∧ ((s.time.now - s.bar.sweepStart).toNat < s.bar.sweepLength → exec .sweepEnd s = .next s))
    ∧ (∀ (s : State) (plan : SprayPlan) (k : Nat), s.bar.state = .sweeping → s.bar.plan = some plan → s.bar.band = some k →
      s.bar.sweepLength ≤ (s.time.now - s.bar.sweepStart).toNat →
      ∃ b : Bar, exec .sweepEnd s = .next (s.setBar b) ∧ b.plan = some plan ∧ b.settings = s.bar.settings
        ∧ (s.bar.sweepsDone + 1 < plan.sweepsOf k →
            b.state = .sweeping ∧ b.band = some k ∧ b.sweepsDone = s.bar.sweepsDone + 1
            ∧ b.traverse = some s.bar.nextDirection ∧ b.nextDirection ≠ s.bar.nextDirection
            ∧ b.sweepStart = s.time.now ∧ b.valves = openValves plan.zoneMask (plan.dutyOf k)
            ∧ (∀ z : Fin 8, tget b.valves z = if plan.zoneMask.getLsbD z.val = true then plan.dutyOf k else 0)
            ∧ b.sweepTime = s.bar.settings.sweepTime ∧ b.sweepHalf = s.bar.settings.halfPeriod
            ∧ (b.dithering = true ↔ 0 < s.bar.settings.amplitude) ∧ b.ditherOffAt = none
            ∧ (s.bar.settings.amplitude = 0 → b.dither = none)
            ∧ (0 < s.bar.settings.amplitude → b.dither =
                some { amplitude := s.bar.settings.amplitude, halfPeriod := s.bar.settings.halfPeriod }))
        ∧ (plan.sweepsOf k ≤ s.bar.sweepsDone + 1 →
            b.state = .moving ∧ b.traverse = none ∧ b.dither = none ∧ b.dithering = false
            ∧ (∀ z : Fin 8, tget b.valves z = 0) ∧ b.nextDirection = s.bar.nextDirection
            ∧ (∀ j, plan.nextBand (k + 1) = some j →
                b.target = some (.band j) ∧ b.band = some j ∧ b.sweepsDone = 0 ∧ k < j ∧ 0 < plan.sweepsOf j
                  ∧ ∀ m, k < m → m < j → plan.sweepsOf m = 0)
            ∧ (plan.nextBand (k + 1) = none →
                b.target = some .home ∧ b.band = none ∧ ∀ m, k < m → plan.sweepsOf m = 0)))
    ∧ (∀ (s : State) (w n : Nat), s.bar.state = .centring → s.bar.stopAt = some w → 0 < s.bar.sweepHalf →
      w < n * s.bar.sweepHalf → n * s.bar.sweepHalf ≤ w + s.bar.sweepHalf →
      (n * s.bar.sweepHalf ≤ (s.time.now - s.bar.sweepStart).toNat →
          exec .centringEnd s = .next (s.setBar { s.bar with
            state := .moving, target := some .home, dither := none, dithering := false, stopAt := none }))
        ∧ ((s.time.now - s.bar.sweepStart).toNat < n * s.bar.sweepHalf → exec .centringEnd s = .next s))

/-- BAR FAULT by R91's table: it ends the sequence in progress with fault PRETREAT FAULT kept first, the unit
PRETREATED and the hold released; it faults a bar with no sequence and moves a LOW FLUID station to BAR FAULT; it
cancels a pending clear; on a FAULTED bar it changes nothing.
A bar enters FAULTED with its valves closed, its drives idle, no plan, no band, sweeps done 0 and, as every step keeps
clear pending no outside FAULTED, clear pending no.
The model's choices: band and sweeps done none with no unit (log entry 18), sweeps done cleared (log entry 19), the
home command cancelled with the clear (log entry 33). -/
def Obligations.BarFaultTable : Prop :=
  (∀ s : State,
    (∀ (plan : SprayPlan) (sh : Shirt), s.bar.state = .moving ∨ s.bar.state = .sweeping ∨ s.bar.state = .centring →
        s.bar.plan = some plan → s.shirt plan.tag.unit = some sh →
        exec .barFault s = .next (post .load
          (.barFault (some plan.tag) s.bar.state (if s.bar.planWaiting then none else s.bar.band)
            (if s.bar.planWaiting then none else some s.bar.sweepsDone))
          (completeQuiesce .pretreat (releaseHold .pretreat
            (((putShirt plan.tag.unit
                (some { sh with
                  state := .pretreated, fault := sh.fault.orElse fun _ => some .pretreatFault }) s).setBar
              s.bar.fail).setPretreat { s.pretreat with state := .idle, plan := none })))))
      ∧ (s.bar.state = .parked ∨ ((s.bar.state = .moving ∨ s.bar.state = .centring) ∧ s.bar.plan = none) →
        (s.pretreat.state ≠ .lowFluid →
            exec .barFault s = .next (post .load (.barFault none s.bar.state none none) (s.setBar s.bar.fail)))
        ∧ (s.pretreat.state = .lowFluid →
            exec .barFault s = .next (post .load (.barFault none s.bar.state none none)
              ((s.setBar s.bar.fail).setPretreat { s.pretreat with state := .barFault }))))
      ∧ (s.bar.state = .faulted → s.bar.clearPending = true →
          exec .barFault s = .next (post .load (.barFault none .faulted none none)
            (s.setBar { s.bar with clearPending := false, target := none })))
      ∧ (s.bar.state = .faulted → s.bar.clearPending = false → exec .barFault s = .next s)
      ∧ (s.bar.fail.state = .faulted ∧ s.bar.fail.plan = none ∧ s.bar.fail.planWaiting = false
          ∧ s.bar.fail.band = none ∧ s.bar.fail.dithering = false ∧ s.bar.fail.traverse = none
          ∧ s.bar.fail.dither = none ∧ s.bar.fail.target = none ∧ (∀ z : Fin 8, tget s.bar.fail.valves z = 0)
          ∧ s.bar.fail.sweepsDone = 0 ∧ (s.bar.clearPending = false → s.bar.fail.clearPending = false)
          ∧ s.bar.fail.settings = s.bar.settings))
    ∧ ∀ s t : State, (s.bar.state ≠ .faulted → s.bar.clearPending = false) → step s = .next t →
      t.bar.state ≠ .faulted → t.bar.clearPending = false

/-- BAR CLEAR by R92's table: clear pending and the home command on a FAULTED bar, ALREADY when it is pending, STATE in
every other bar state.
The model's choice: the bar record's target is HOME on a FAULTED bar whose clear is pending (log entry 33). -/
def Obligations.BarClearTable : Prop :=
  ∀ (s : State) (p : Port) (f : Frame) (rest : List Frame), Offered s p .barClear f rest →
    (s.bar.state = .faulted → s.bar.clearPending = false →
        exec (.barClear p) s = answer
          ((s.without p rest).setBar { s.bar with clearPending := true, target := some .home }) p f (.done []))
      ∧ (s.bar.state = .faulted → s.bar.clearPending = true →
        exec (.barClear p) s = answer (s.without p rest) p f (.condition .already []))
      ∧ (s.bar.state ≠ .faulted → exec (.barClear p) s = answer (s.without p rest) p f (.refused .state []))

/-! ### Chapter 6 -/

/-- The Print station's start test: QUIESCE WAIT; WAIT ARTWORK with STAGE NEEDED posted once; otherwise registration
begins with PLATEN READY, an empty terminated list and the watchdog started with the limit in force. An arriving
unit it takes is PRINTING, its held unit, with stage asked no. The start test that ARTWORK STAGED and RESUME make is that
of the held unit; with none it changes nothing. -/
def Obligations.PrintStartTest : Prop :=
  (∀ s : State, s.print.held = none → printStartTest s = s)
  ∧ ∀ (s : State) (u : UnitNo) (sh : Shirt), s.shirt u = some sh →
    (s.print.held = some (s.tagOf u) → printStartTest s = printStartTestFor u sh s)
      ∧ (s.print.quiesce ≠ .running →
        printStartTestFor u sh s = s.setPrint { s.print with state := .quiesceWait })
      ∧ (s.print.quiesce = .running → (tget s.artworks sh.artwork).staged = false → s.print.stageAsked = true →
          printStartTestFor u sh s = s.setPrint { s.print with state := .waitArtwork })
      ∧ (s.print.quiesce = .running → (tget s.artworks sh.artwork).staged = false → s.print.stageAsked = false →
          printStartTestFor u sh s = post .engine (.stageNeeded sh.artwork (s.tagOf u))
            (s.setPrint { s.print with state := .waitArtwork, stageAsked := true }))
      ∧ (∀ d : Design, s.print.quiesce = .running → (tget s.artworks sh.artwork).staged = true →
          (tget s.artworks sh.artwork).design = some d →
          printStartTestFor u sh s =
            (post .engine (.platenReady (s.tagOf u) sh.artwork d.coverage.length sh.dark) s).setPrint
              { s.print with
                state := .registering, terminated := []
                watchdog := some { start := s.time.now, limit := s.print.watchdogLimit } })
      ∧ (∀ a : Arrival, s.ring.arrivals.print = some a → (tget s.ring.platens a.platen).unit = some u →
          (sh.dark = false ∨ (sh.state = .pretreated ∧ sh.fault = none)) →
          exec .printArrival s = .next (printStartTestFor u { sh with state := .printing }
            ((putShirt u (some { sh with state := .printing }) (takeArrival .print s)).setPrint
              { s.print with held := some (s.tagOf u), stageAsked := false })))

/-- REGISTERED and REGISTER FAULT by their cases in order: LATE for the late tag; in REGISTERING the held unit's tag is
accepted and another is SEQUENCE; REGISTERED is ALREADY in PASSING for the held unit; else STATE. -/
def Obligations.RegistrationCases : Prop :=
  ∀ (s : State) (p : Port) (f : Frame) (rest : List Frame) (u : UnitNo) (sh : Shirt) (d : Design),
    f.body = tagBytes (s.tagOf u) → s.generation u ≤ 1023 → s.shirt u = some sh →
    (tget s.artworks sh.artwork).design = some d →
    (Offered s p .registered f rest →
        (s.print.lateTag = some (s.tagOf u) →
          exec (.registered p) s = answer (s.without p rest) p f (.refused .late []))
        ∧ (s.print.lateTag ≠ some (s.tagOf u) →
          (s.print.state = .registering → s.print.held ≠ some (s.tagOf u) →
            exec (.registered p) s = answer (s.without p rest) p f (.refused .sequence []))
          ∧ (s.print.state = .passing → s.print.held = some (s.tagOf u) →
            exec (.registered p) s = answer (s.without p rest) p f (.condition .already []))
          ∧ (s.print.state ≠ .registering → ¬ (s.print.state = .passing ∧ s.print.held = some (s.tagOf u)) →
            exec (.registered p) s = answer (s.without p rest) p f (.refused .state []))
          ∧ (s.print.state = .registering → s.print.held = some (s.tagOf u) → d.firstCursor sh.dark ≠ .finished →
            exec (.registered p) s = answer
              ((putShirt u (some { sh with print := some { white := 0, colour := 0, fired := 0, dry := 0 } })
                (s.without p rest)).setPrint
                { s.print with cursor := some (d.firstCursor sh.dark), watchdog := none, state := .passing })
              p f (.done []))
          ∧ (s.print.state = .registering → s.print.held = some (s.tagOf u) → d.firstCursor sh.dark = .finished →
            exec (.registered p) s = answer
              (releasePrinted
                ((putShirt u (some { sh with print := some { white := 0, colour := 0, fired := 0, dry := 0 } })
                  (s.without p rest)).setPrint
                  { s.print with cursor := some .finished, watchdog := none, state := .passing }))
              p f (.done []))))
      ∧ (Offered s p .registerFault f rest →
        (s.print.lateTag = some (s.tagOf u) →
          exec (.registerFault p) s = answer (s.without p rest) p f (.refused .late []))
        ∧ (s.print.lateTag ≠ some (s.tagOf u) →
          (s.print.state ≠ .registering →
            exec (.registerFault p) s = answer (s.without p rest) p f (.refused .state []))
          ∧ (s.print.state = .registering → s.print.held ≠ some (s.tagOf u) →
            exec (.registerFault p) s = answer (s.without p rest) p f (.refused .sequence []))
          ∧ (s.print.state = .registering → s.print.held = some (s.tagOf u) →
            exec (.registerFault p) s = answer
              (releasePrinted (stopWatchdog (writePrintError .registerFault (s.tagOf u) none
                (putShirt u (some { sh with fault := sh.fault.orElse fun _ => some .registerFault })
                  (s.without p rest)))))
              p f (.done []))))

/-- The traverse plan: a cursor rests only on a traverse of a pair with a needed band, of a repeat below the layer's
pass count; the WHITE layer is entered by dark units alone; each advance goes half, repeat, pair, layer, END. A layer
is entered, at registration or after the other, at its lowest pair not skipped; END means that no pair is taken: at
registration none of COLOUR, nor, for a dark unit, of WHITE; later none after the cursor's. -/
def Obligations.CursorWalksThePlan : Prop :=
  ∀ (d : Design) (t : Traverse), t.half ≤ 1 → t.rep < d.passes t.layer → 1 ≤ d.whitePasses → 1 ≤ d.colourPasses →
    (∀ dark t', d.firstCursor dark = .at t' →
        d.takesPair t'.layer t'.pair = true ∧ t'.rep = 0 ∧ t'.half = 0 ∧ (dark = false → t'.layer = .colour)
          ∧ (∀ k, k < t'.pair → d.takesPair t'.layer k = false)
          ∧ (dark = true → t'.layer = .colour → ∀ k, k < d.pairs → d.takesPair .white k = false))
      ∧ (∀ dark, d.firstCursor dark = .finished →
          (∀ k, k < d.pairs → d.takesPair .colour k = false)
            ∧ (dark = true → ∀ k, k < d.pairs → d.takesPair .white k = false))
      ∧ (t.half = 0 → d.nextCursor t = .at { t with half := 1 })
      ∧ (t.half = 1 → t.rep + 1 < d.passes t.layer → d.nextCursor t = .at { t with rep := t.rep + 1, half := 0 })
      ∧ (t.half = 1 → t.rep + 1 = d.passes t.layer → ∀ t', d.nextCursor t = .at t' →
          d.takesPair t'.layer t'.pair = true ∧ t'.rep = 0 ∧ t'.half = 0
            ∧ (t'.layer = t.layer → t.pair < t'.pair
                ∧ ∀ k, t.pair < k → k < t'.pair → d.takesPair t.layer k = false)
            ∧ (t'.layer ≠ t.layer → t.layer = .white ∧ t'.layer = .colour
                ∧ (∀ k, t.pair < k → k < d.pairs → d.takesPair .white k = false)
                ∧ ∀ k, k < t'.pair → d.takesPair .colour k = false))
      ∧ (t.half = 1 → t.rep + 1 = d.passes t.layer → d.nextCursor t = .finished →
          ∀ k, k < d.pairs → (t.pair < k ∨ t.layer = .white) →
            (t.pair < k → d.takesPair t.layer k = false) ∧ (t.layer = .white → d.takesPair .colour k = false))

/-- NEXT SWATH by R104's table, and the order issued: number, tag, band, layer, direction, FIRE or DRY and repeat of the
cursor's traverse; it joins the tail, the number and the cursor advance, and an empty list starts the watchdog. -/
def Obligations.NextSwathTable : Prop :=
  ∀ (s : State) (p : Port) (f : Frame) (rest : List Frame), Offered s p .nextSwath f rest →
    (s.print.state = .idle → exec (.nextSwath p) s = answer (s.without p rest) p f (.done [5]))
      ∧ (s.print.state ∈ [.quiesceWait, .waitArtwork, .registering] →
          exec (.nextSwath p) s = answer (s.without p rest) p f (.done [1]))
      ∧ (s.print.state ∈ [.aborting, .parking] →
          exec (.nextSwath p) s = answer (s.without p rest) p f (.done [4]))
      ∧ (s.print.state = .passing → s.print.cursor = some .finished →
          exec (.nextSwath p) s = answer (s.without p rest) p f (.done [3]))
      ∧ ∀ (t : Traverse) (tag : Tag) (d : Design) (o : SwathOrder), s.print.state = .passing →
          s.print.cursor = some (.at t) → s.print.held = some tag → heldDesign s = some d → t.half ≤ 1 →
          o = { number := s.print.nextNumber, tag := tag
                band := if t.half = 1 ∧ 2 * t.pair + 1 < d.coverage.length then 2 * t.pair + 1 else 2 * t.pair
                layer := t.layer, direction := if t.half = 0 then .forward else .reverse
                fire := d.needed t.layer (2 * t.pair + t.half), rep := t.rep } →
          (3 ≤ s.print.inFlight.length → exec (.nextSwath p) s = answer (s.without p rest) p f (.done [2]))
          ∧ (s.print.inFlight.length < 3 →
              exec (.nextSwath p) s = answer
                ((s.without p rest).setPrint { s.print with
                  inFlight := s.print.inFlight ++ [o], nextNumber := (s.print.nextNumber + 1) % 256
                  cursor := some (d.nextCursor t)
                  watchdog :=
                    if s.print.inFlight = [] then some { start := s.time.now, limit := s.print.watchdogLimit }
                    else s.print.watchdog })
                p f (.done ([0] ++ swathBytes o)))

/-- SWATH DONE by R106's cases, and an OK report of the oldest order: it leaves the list, its band's coverage and its
count go to the unit's print record, the watchdog starts afresh for the next or stops, and the unit is released when
the plan is complete or the station parks when an abort has drained.
A swath reported NOZZLE or STRIKE: the order leaves the list uncounted, in PASSING the unit receives PRINT ABORT
where it has no fault, the failure goes to the print error record, and the station is ABORTING, or PARKING with
nothing left in flight. -/
def Obligations.SwathReports : Prop :=
  (∀ (s : State) (p : Port) (f : Frame) (rest : List Frame) (n result : Byte), Offered s p .swathDone f rest →
      f.body = [n, result] →
      (2 < result.toNat → exec (.swathDone p) s = answer (s.without p rest) p f (.refused .badField []))
        ∧ (result.toNat ≤ 2 →
          (n.toNat ∈ s.print.terminated → exec (.swathDone p) s = answer (s.without p rest) p f (.refused .late []))
          ∧ (n.toNat ∉ s.print.terminated → s.print.state ∉ [.passing, .aborting] →
              exec (.swathDone p) s = answer (s.without p rest) p f (.refused .state []))
          ∧ (n.toNat ∉ s.print.terminated → s.print.state ∈ [.passing, .aborting] →
              (∀ o os, s.print.inFlight = o :: os → o.number ≠ n.toNat) →
              exec (.swathDone p) s = answer (s.without p rest) p f (.refused .sequence []))
          ∧ ∀ (o : SwathOrder) (os : List SwathOrder) (sh : Shirt) (r : PrintRecord) (d : Design),
              n.toNat ∉ s.print.terminated → s.print.state ∈ [.passing, .aborting] → s.print.inFlight = o :: os →
              o.number = n.toNat → result = 0 → s.print.held = some o.tag → s.shirt o.tag.unit = some sh →
              sh.print = some r → heldDesign s = some d →
              ∃ t, t = (putShirt o.tag.unit (some { sh with
                        print := some
                          { white := r.white + if o.fire = true ∧ o.layer = .white then d.coverageAt .white o.band else 0
                            colour := r.colour + if o.fire = true ∧ o.layer = .colour then d.coverageAt .colour o.band else 0
                            fired := r.fired + if o.fire = true then 1 else 0
                            dry := r.dry + if o.fire = true then 0 else 1 } }) (s.without p rest)).setPrint
                      { s.print with
                        inFlight := os
                        watchdog :=
                          if os = [] then none else some { start := s.time.now, limit := s.print.watchdogLimit } }
                ∧ (s.print.state = .passing → s.print.cursor = some .finished → os = [] →
                    exec (.swathDone p) s = answer (releasePrinted t) p f (.done []))
                ∧ (s.print.state = .passing → (s.print.cursor ≠ some .finished ∨ os ≠ []) →
                    exec (.swathDone p) s = answer t p f (.done []))
                ∧ (s.print.state = .aborting → os ≠ [] → exec (.swathDone p) s = answer t p f (.done []))
                ∧ (s.print.state = .aborting → os = [] →
                    exec (.swathDone p) s = answer (t.setPrint { t.print with state := .parking }) p f (.done []))))
    ∧ (∀ (s : State) (p : Port) (f : Frame) (rest : List Frame) (n : Byte) (cause : PrintCause) (code : Byte)
      (o : SwathOrder) (os : List SwathOrder) (sh : Shirt), Offered s p .swathDone f rest → failureOf cause = some code →
      f.body = [n, code] → n.toNat ∉ s.print.terminated → s.print.state ∈ [.passing, .aborting] →
      s.print.inFlight = o :: os → o.number = n.toNat → s.shirt o.tag.unit = some sh →
      ∃ t, exec (.swathDone p) s = answer t p f (.done []) ∧ t.print.inFlight = os
        ∧ t.print.state = (if os = [] then .parking else .aborting) ∧ t.print.cursor = s.print.cursor
        ∧ t.print.held = s.print.held
        ∧ t.print.watchdog = (if os = [] then none else some { start := s.time.now, limit := s.print.watchdogLimit })
        ∧ t.shirt o.tag.unit = some (if s.print.state = .passing then
              { sh with fault := sh.fault.orElse fun _ => some .printAbort } else sh)
        ∧ (∀ v : UnitNo, v ≠ o.tag.unit → t.shirt v = s.shirt v) ∧ t.ring = s.ring
        ∧ (s.print.errorRecord = none →
            t.print.errorCount = 0 ∧ t.print.errorRecord = some
              { cause := cause, tag := o.tag, stamp := s.time.now
                place := some { band := o.band, layer := o.layer, number := o.number } })
        ∧ (s.print.errorRecord.isSome = true → t.print.errorRecord = s.print.errorRecord))

/-- The release of the held unit: PRINTED, watchdog stopped, cursor absent, no held unit, stage asked no, IDLE, the hold
released, a pending quiesce completed. CARRIAGE PARKED releases the held unit in PARKING; another tag is SEQUENCE;
any other state is STATE. -/
def Obligations.CarriageParkedReleases : Prop :=
  (∀ (s : State) (tag : Tag) (sh : Shirt), s.print.held = some tag → s.shirt tag.unit = some sh →
      releasePrinted s = completeQuiesce .print (releaseHold .print
        ((putShirt tag.unit (some { sh with state := .printed }) s).setPrint
          { s.print with state := .idle, held := none, stageAsked := false, watchdog := none, cursor := none })))
    ∧ (∀ (s : State) (p : Port) (f : Frame) (rest : List Frame) (u : UnitNo), Offered s p .carriageParked f rest →
      f.body = tagBytes (s.tagOf u) → s.generation u ≤ 1023 → (s.shirt u).isSome = true →
      (s.print.state = .parking → s.print.held = some (s.tagOf u) →
          exec (.carriageParked p) s = answer (releasePrinted (s.without p rest)) p f (.done []))
        ∧ (s.print.state = .parking → s.print.held ≠ some (s.tagOf u) →
          exec (.carriageParked p) s = answer (s.without p rest) p f (.refused .sequence []))
        ∧ (s.print.state ≠ .parking →
          exec (.carriageParked p) s = answer (s.without p rest) p f (.refused .state [])))

/-- The watchdog's expiry: in REGISTERING the registration ends with the late tag, REGISTER TIMEOUT and the release; in
PASSING and ABORTING the oldest order is terminated, SWATH TIMEOUT recorded, and the station is ABORTING or PARKING.
Before the limit has elapsed nothing changes (log entry 8). -/
def Obligations.WatchdogExpires : Prop :=
  ∀ (s : State) (w : Watchdog), s.print.watchdog = some w →
    ((s.time.now - w.start).toNat < w.limit → exec .watchdogExpiry s = .next s)
      ∧ (w.limit ≤ (s.time.now - w.start).toNat →
        (∀ (tag : Tag) (sh : Shirt), s.print.state = .registering → s.print.held = some tag →
            s.shirt tag.unit = some sh →
            exec .watchdogExpiry s = .next (releasePrinted (writePrintError .registerTimeout tag none
              ((putShirt tag.unit (some { sh with fault := sh.fault.orElse fun _ => some .registerTimeout })
                s).setPrint { s.print with lateTag := some tag }))))
        ∧ (∀ (o : SwathOrder) (os : List SwathOrder) (sh : Shirt), s.print.state ∈ [.passing, .aborting] →
            s.print.inFlight = o :: os → s.shirt o.tag.unit = some sh →
            ∃ t, exec .watchdogExpiry s = .next t ∧ t.print.inFlight = os
              ∧ t.print.terminated = s.print.terminated ++ [o.number]
              ∧ t.print.state = (if os = [] then .parking else .aborting)
              ∧ t.print.watchdog =
                  (if os = [] then none else some { start := s.time.now, limit := s.print.watchdogLimit })
              ∧ t.shirt o.tag.unit = some (if s.print.state = .passing then
                    { sh with fault := sh.fault.orElse fun _ => some .swathTimeout } else sh)
              ∧ (∀ v : UnitNo, v ≠ o.tag.unit → t.shirt v = s.shirt v) ∧ t.ring = s.ring
              ∧ (s.print.errorRecord = none → t.print.errorRecord = some
                  { cause := .swathTimeout, tag := o.tag, stamp := s.time.now
                    place := some { band := o.band, layer := o.layer, number := o.number } })))

/-- The print error record: an empty record is filled with count 0 and PRINT FAULT posted; a filled one is kept, its
count rising to at most 255. READ ERROR RECORD returns record and count, or the empty record, and empties both.
The model's choice: band, layer and swath number none for a registration cause (log entry 16). -/
def Obligations.PrintErrorRecord : Prop :=
  ∀ (s : State) (cause : PrintCause) (tag : Tag) (place : Option SwathPlace),
    (s.print.errorRecord = none →
        writePrintError cause tag place s = post .order (.printFault cause tag)
          (s.setPrint { s.print with
            errorRecord := some { cause := cause, tag := tag, place := place, stamp := s.time.now }
            errorCount := 0 }))
      ∧ (s.print.errorRecord.isSome = true →
        writePrintError cause tag place s = s.setPrint { s.print with
          errorCount := if s.print.errorCount < 255 then s.print.errorCount + 1 else s.print.errorCount })
      ∧ ∀ (p : Port) (f : Frame) (rest : List Frame), Offered s p .readErrorRecord f rest →
          (s.print.errorRecord = none →
            exec (.readErrorRecord p) s = answer
              ((s.without p rest).setPrint { s.print with errorRecord := none, errorCount := 0 }) p f
              (.done (List.replicate 12 0)))
          ∧ (∀ e : PrintFault, s.print.errorRecord = some e →
            exec (.readErrorRecord p) s = answer
              ((s.without p rest).setPrint { s.print with errorRecord := none, errorCount := 0 }) p f
              (.done ([1] ++ bytes1 e.cause.code ++ tagBytes e.tag ++ orNone 1 (fun x => bytes1 x.band) e.place
                ++ orNone 1 (fun x => bytes1 x.layer.code) e.place ++ orNone 1 (fun x => bytes1 x.number) e.place
                ++ bytes4 e.stamp.toNat ++ bytes1 s.print.errorCount)))

/-- WRITE ENGINE PROFILE and WRITE CURE PROFILE: BAD FIELD out of range, NOT QUIESCED unless the station is QUIESCED, otherwise
the profile is replaced; a cure profile write clears TUNNEL READY and the ready run and starts the tick timer afresh.
The 48 bytes READ TUNNEL reports a profile in are a WRITE CURE PROFILE body of that same profile. -/
def Obligations.StationProfiles : Prop :=
  (∀ (s : State) (p : Port) (f : Frame) (rest : List Frame),
      (∀ limit : Nat, Offered s p .writeEngineProfile f rest → limit < 65536 → f.body = bytes2 limit →
          (limit ∉ [2000, 4000, 8000, 16000] →
            exec (.writeEngineProfile p) s = answer (s.without p rest) p f (.refused .badField []))
          ∧ (limit ∈ [2000, 4000, 8000, 16000] → s.print.quiesce ≠ .quiesced →
            exec (.writeEngineProfile p) s = answer (s.without p rest) p f (.refused .notQuiesced []))
          ∧ (limit ∈ [2000, 4000, 8000, 16000] → s.print.quiesce = .quiesced →
            exec (.writeEngineProfile p) s = answer
              ((s.without p rest).setPrint { s.print with watchdogLimit := limit }) p f (.done [])))
        ∧ (∀ x : CureProfile, Offered s p .writeCureProfile f rest → profileOf f.body = some x →
          (x.inRange = false →
            exec (.writeCureProfile p) s = answer (s.without p rest) p f (.refused .badField []))
          ∧ (x.inRange = true → s.tunnel.quiesce ≠ .quiesced →
            exec (.writeCureProfile p) s = answer (s.without p rest) p f (.refused .notQuiesced []))
          ∧ (x.inRange = true → s.tunnel.quiesce = .quiesced →
            exec (.writeCureProfile p) s = answer
              ((s.without p rest).setTunnel { s.tunnel with
                profile := x, ready := false, readyRun := 0, tickStart := s.time.now }) p f (.done []))))
    ∧ (∀ x : CureProfile, x.inRange = true → x.whiteWeight ≤ 255 → x.colourWeight ≤ 255 →
      (∀ c : Fin 8, tget x.margin c ≤ 65535) → (profileBytes x).length = 48 ∧ profileOf (profileBytes x) = some x)

/-! ### Chapter 7 -/

/-- An arrival of the entry sensor by R129's and R130's tables: GHOST ENTRY over no unit; the normal entry; forced entry
to the queue, to the exit list, or lost. The unit leaves its platen, its cure record is written from its fabric,
inks and fluid, and a held unit's station becomes IDLE and releases its hold. -/
def Obligations.TunnelEntryTable : Prop :=
  ∀ s : State,
    ((∀ pl : PlatenNo, (tget s.ring.platens pl).position = 9 → (tget s.ring.platens pl).unit = none) →
        exec .tunnelEntrySensor s = .next (post .order (.ghostEntry s.tunnel.belt) s))
      ∧ ∀ (pl : PlatenNo) (u : UnitNo) (sh : Shirt) (white colour fluid needed : Nat), platenAt s 9 = some pl →
        (tget s.ring.platens pl).unit = some u → s.shirt u = some sh → sh.platen = some pl →
        (∀ r ∈ s.tunnel.queue, r.unit ≠ u) →
        white = (match sh.print with | some r => r.white | none => 0) →
        colour = (match sh.print with | some r => r.colour | none => 0) →
        fluid = (match sh.dose with | some d => d.fluid | none => 0) →
        needed = (if sh.fault.isSome = true then 0 else
          min (tget s.tunnel.profile.base sh.sku.fabric
            + (white * s.tunnel.profile.whiteWeight + colour * s.tunnel.profile.colourWeight) / 256 + fluid / 128)
            65535) →
        ∃ t, exec .tunnelEntrySensor s = .next t ∧ (tget t.ring.platens pl).unit = none
          ∧ (s.tunnel.held = some u → t.tunnel.held = none ∧ t.tunnel.state = .idle
              ∧ t.ring.holds.get .tunnel = false)
          ∧ (s.tunnel.held ≠ some u → t.tunnel.held = s.tunnel.held ∧ t.ring.holds = s.ring.holds)
          ∧ (s.tunnel.queue.length < 10 →
              ((s.tunnel.quiesce = .running ∧ s.tunnel.ready = true ∧ s.pack.exits.length < 16)
                ∨ (s.tunnel.quiesce ≠ .quiesced
                  ∧ ¬ (s.tunnel.quiesce = .running ∧ s.tunnel.ready = true ∧ s.pack.exits.length < 16))) →
              t.tunnel.queue = s.tunnel.queue ++ [{ unit := u, entry := s.tunnel.belt }]
              ∧ t.pack.exits = s.pack.exits ∧ (∀ v : UnitNo, v ≠ u → t.shirt v = s.shirt v)
              ∧ t.shirt u = some { sh with
                  state := .curing, platen := none
                  flags := { sh.flags with
                    unreadyEntry :=
                      if s.tunnel.quiesce = .running ∧ s.tunnel.ready = true ∧ s.pack.exits.length < 16 then
                        sh.flags.unreadyEntry
                      else true }
                  cure := some
                    { required := some needed, exposure := 0
                      scorch := some (min (needed + tget s.tunnel.profile.margin sh.sku.fabric) 65535)
                      result := if sh.fault.isSome = true then .notRequired else .pending } })
          ∧ ((10 ≤ s.tunnel.queue.length ∨ s.tunnel.quiesce = .quiesced) → s.pack.exits.length < 16 →
              t.tunnel.queue = s.tunnel.queue ∧ t.pack.exits = s.pack.exits ++ [u]
              ∧ (∀ v : UnitNo, v ≠ u → t.shirt v = s.shirt v)
              ∧ t.shirt u = some { sh with
                  state := .exited, platen := none
                  cure := some
                    { required := none, exposure := 0, scorch := none
                      result := if sh.fault.isSome = true then .notRequired else .unmeasured } })
          ∧ ((10 ≤ s.tunnel.queue.length ∨ s.tunnel.quiesce = .quiesced) → 16 ≤ s.pack.exits.length →
              t.shirt u = none ∧ t.tunnel.queue = s.tunnel.queue
              ∧ ∃ v, t = post .pack (.unitLost (s.tagOf u) sh.order sh.line.val .noRoom) v)

/-- A belt step: the position rises by one, modulo 2^32. With the oldest record within L + W nothing else changes; an
oldest record beyond it is lost with reason MISSING; after any belt step the oldest record left is within L + W.
An arrival of the exit sensor by R141's table: GHOST EXIT on an empty queue and for a travel below L − W; otherwise the
oldest unit leaves the queue EXITED with its cure result set, or is lost where the exit list is full. An exit that
empties the queue of a QUIESCING station makes it QUIESCED and posts the notice; the entry test is made again. -/
def Obligations.BeltStepAndTunnelExit : Prop :=
  (∀ s : State,
      (∃ t, exec .beltStep s = .next t ∧ t.tunnel.belt = s.tunnel.belt + 1
          ∧ ∀ r rs, t.tunnel.queue = r :: rs →
              (t.tunnel.belt - r.entry).toNat ≤ t.tunnel.profile.length + t.tunnel.profile.window)
        ∧ ((∀ r rs, s.tunnel.queue = r :: rs →
              (s.tunnel.belt + 1 - r.entry).toNat ≤ s.tunnel.profile.length + s.tunnel.profile.window) →
            exec .beltStep s = .next (s.setTunnel { s.tunnel with belt := s.tunnel.belt + 1 }))
        ∧ ∀ (r : QueueRecord) (rs : List QueueRecord) (sh : Shirt), s.tunnel.queue = r :: rs →
            s.shirt r.unit = some sh →
            s.tunnel.profile.length + s.tunnel.profile.window < (s.tunnel.belt + 1 - r.entry).toNat →
            (∀ x ∈ rs, (s.tunnel.belt + 1 - x.entry).toNat ≤ s.tunnel.profile.length + s.tunnel.profile.window) →
            exec .beltStep s = .next (post .pack (.unitLost (s.tagOf r.unit) sh.order sh.line.val .missing)
              (freeUnit .lost r.unit (s.setTunnel { s.tunnel with belt := s.tunnel.belt + 1 }))))
    ∧ (∀ s : State,
      (s.tunnel.queue = [] →
          exec .tunnelExitSensor s = .next (post .pack (.ghostExit s.tunnel.belt none) s))
        ∧ ∀ (r : QueueRecord) (rs : List QueueRecord), s.tunnel.queue = r :: rs →
          ((s.tunnel.belt - r.entry).toNat < s.tunnel.profile.length - s.tunnel.profile.window →
            exec .tunnelExitSensor s =
              .next (post .pack (.ghostExit s.tunnel.belt (some (s.tagOf r.unit, s.tunnel.belt - r.entry))) s))
          ∧ (s.tunnel.profile.length - s.tunnel.profile.window ≤ (s.tunnel.belt - r.entry).toNat →
            (∀ sh : Shirt, s.shirt r.unit = some sh → 16 ≤ s.pack.exits.length →
              exec .tunnelExitSensor s =
                .next (post .pack (.unitLost (s.tagOf r.unit) sh.order sh.line.val .exitFull)
                  (freeUnit .lost r.unit s)))
            ∧ ∀ (sh : Shirt) (c : CureRecord) (needed scorch : Nat), s.shirt r.unit = some sh → sh.cure = some c →
                c.required = some needed → c.scorch = some scorch → s.pack.exits.length < 16 →
                (∀ x ∈ rs, x.unit ≠ r.unit) →
              ∃ t, exec .tunnelExitSensor s = .next t ∧ t.tunnel.queue = rs
                ∧ t.pack = { s.pack with exits := s.pack.exits ++ [r.unit] }
                ∧ t.shirt r.unit = some { sh with
                    state := .exited
                    cure := some { c with
                      result :=
                        if c.result = .notRequired then .notRequired
                        else if c.exposure < needed then .undercured
                        else if c.exposure ≤ scorch then .cured else .scorched } }
                ∧ (∀ v : UnitNo, v ≠ r.unit → t.shirt v = s.shirt v)
                ∧ t.ring = s.ring ∧ t.book = s.book ∧ t.tunnel.profile = s.tunnel.profile
                ∧ (rs = [] → s.tunnel.quiesce = .quiescing → t.tunnel.quiesce = .quiesced
                  ∧ t.port .order = (s.port .order).join { notice := .quiesced .tunnel, stamp := s.time.now }
                  ∧ ∀ q : Port, q ≠ .order → t.port q = s.port q)
                ∧ ((rs ≠ [] ∨ s.tunnel.quiesce ≠ .quiescing) →
                  t.tunnel.quiesce = s.tunnel.quiesce ∧ ∀ q : Port, t.port q = s.port q)
                ∧ t.tunnel.held = s.tunnel.held
                ∧ t.tunnel.state =
                  (if s.tunnel.state = .idle then .idle
                  else if s.tunnel.quiesce = .running ∧ s.tunnel.ready = true ∧ rs.length < 10
                      ∧ s.pack.exits.length + 1 < 16 then .transferWait
                  else .inhibited)))

/-- A sensor reading by R135's table. -/
def Obligations.ZoneReadingTable : Prop :=
  ∀ (s : State) (z : ZoneNo) (reading : BitVec 10) (x : Zone), tget s.tunnel.zones z = x →
    (reading.toNat ≤ 1022 → x.state = .live →
        exec (.zoneReading z reading) s = .next (s.setTunnel { s.tunnel with
          zones := tset s.tunnel.zones z { x with heard := true, missed := 0, lastValid := some reading.toNat } }))
      ∧ (reading.toNat ≤ 1022 → x.state ≠ .live →
        exec (.zoneReading z reading) s = .next (s.setTunnel { s.tunnel with
          zones := tset s.tunnel.zones z
            { x with heard := true, missed := 0, lastValid := some reading.toNat, staleTicks := 0, state := .live } }))
      ∧ (reading.toNat = 1023 → x.state = .live →
        exec (.zoneReading z reading) s = .next (post .order (.zoneStale z .faultReading) (s.setTunnel { s.tunnel with
          zones := tset s.tunnel.zones z { x with heard := true, missed := 0, staleTicks := 0, state := .stale } })))
      ∧ (reading.toNat = 1023 → x.state ≠ .live →
        exec (.zoneReading z reading) s = .next (s.setTunnel { s.tunnel with
          zones := tset s.tunnel.zones z { x with heard := true, missed := 0 } }))

/-- A due cure tick's zones (R137, R139): temperature, missed and stale ticks, the fall to STALE and LAPSED, OVERTEMP and
the control law for a LIVE zone, the held duty of a STALE one, duty 0 for a LAPSED one. Before the tick period has
elapsed nothing changes (log entry 8).
A due cure tick's exposure and readiness (R138, R140): every unit in the queue gains its zone's temperature above
T_floor, nothing from a LAPSED zone, to at most 65535, from the zones as the tick leaves them; the eighth settled
tick in a row sets TUNNEL READY; ring, books, queue and belt stay.
A due cure tick's notices (R137, R139, R140), all to the Order port: ZONE STALE with NO READING for each LIVE zone whose
third tick passes without a reading, then ZONE STALE with LAPSED for each zone at its ninth stale tick, then OVERTEMP
with T_z for each zone that becomes OVERTEMP, then TUNNEL READY where it becomes set.
The model's choices: a tick taken late restarts the timer at that moment (log entry 27); the notices of several zones
join in zone order, all the NO READING ones before the LAPSED ones (log entry 14). -/
def Obligations.CureTickWork : Prop :=
  (∀ s : State,
      ((s.time.now - s.tunnel.tickStart).toNat < s.tunnel.profile.tickPeriod → exec .cureTick s = .next s)
        ∧ (s.tunnel.profile.tickPeriod ≤ (s.time.now - s.tunnel.tickStart).toNat →
          ∃ t, exec .cureTick s = .next t ∧ t.tunnel.tickStart = s.time.now ∧ t.tunnel.profile = s.tunnel.profile
            ∧ ∀ (z : ZoneNo) (x y : Zone) (hot : Bool), tget s.tunnel.zones z = x → tget t.tunnel.zones z = y →
                hot = (if x.overtemp = true then decide (s.tunnel.profile.limit < y.temperature + 10)
                  else decide (s.tunnel.profile.limit ≤ y.temperature)) →
              y.heard = false ∧ y.lastValid = x.lastValid
              ∧ y.temperature = (match x.lastValid with | some r => r / 2 | none => x.temperature)
              ∧ y.missed = (if x.heard = true then x.missed else min (x.missed + 1) 3)
              ∧ (x.state = .live → (x.heard = true ∨ x.missed < 2) →
                  y.state = .live ∧ y.staleTicks = x.staleTicks ∧ y.overtemp = hot
                  ∧ (y.duty : Int) = if hot = true then 0 else
                      max 0 (min 255 ((x.duty : Int)
                        + (((tget s.tunnel.profile.setpoints z : Nat) : Int) - y.temperature) * s.tunnel.profile.gain / 16)))
              ∧ (x.state = .live → x.heard = false → 2 ≤ x.missed →
                  y.state = .stale ∧ y.staleTicks = 1 ∧ y.duty = x.duty ∧ y.overtemp = x.overtemp)
              ∧ (x.state = .stale → x.staleTicks < 8 →
                  y.state = .stale ∧ y.staleTicks = x.staleTicks + 1 ∧ y.duty = x.duty ∧ y.overtemp = x.overtemp)
              ∧ (x.state = .stale → 8 ≤ x.staleTicks →
                  y.state = .lapsed ∧ y.staleTicks = 9 ∧ y.duty = 0 ∧ y.overtemp = false)
              ∧ (x.state = .lapsed →
                  y.state = .lapsed ∧ y.staleTicks = x.staleTicks ∧ y.duty = 0 ∧ y.overtemp = x.overtemp)))
    ∧ (∀ s : State, s.tunnel.profile.tickPeriod ≤ (s.time.now - s.tunnel.tickStart).toNat →
      (s.tunnel.queue.map (·.unit)).Nodup →
      ∃ t, exec .cureTick s = .next t
        ∧ (∀ (r : QueueRecord) (sh : Shirt) (c : CureRecord) (z : ZoneNo), r ∈ s.tunnel.queue →
            s.shirt r.unit = some sh → sh.cure = some c →
            z.val = min 3 ((s.tunnel.belt - r.entry).toNat * 4 / s.tunnel.profile.length) →
            t.shirt r.unit = some { sh with cure := some { c with
              exposure := min (c.exposure
                + (if (tget t.tunnel.zones z).state = .lapsed then 0
                  else (tget t.tunnel.zones z).temperature - s.tunnel.profile.floor)) 65535 } })
        ∧ (∀ u : UnitNo, (∀ r ∈ s.tunnel.queue, r.unit ≠ u) → t.shirt u = s.shirt u)
        ∧ (s.tunnel.ready = true → t.tunnel.ready = true ∧ t.tunnel.readyRun = s.tunnel.readyRun)
        ∧ (s.tunnel.ready = false →
            ((∃ z : ZoneNo, (tget t.tunnel.zones z).state ≠ .live
                ∨ tget s.tunnel.profile.setpoints z + 5 < (tget t.tunnel.zones z).temperature
                ∨ (tget t.tunnel.zones z).temperature + 5 < tget s.tunnel.profile.setpoints z) →
              t.tunnel.ready = false ∧ t.tunnel.readyRun = 0)
            ∧ ((∀ z : ZoneNo, (tget t.tunnel.zones z).state = .live
                ∧ (tget t.tunnel.zones z).temperature ≤ tget s.tunnel.profile.setpoints z + 5
                ∧ tget s.tunnel.profile.setpoints z ≤ (tget t.tunnel.zones z).temperature + 5) →
              (s.tunnel.readyRun < 7 → t.tunnel.ready = false ∧ t.tunnel.readyRun = s.tunnel.readyRun + 1)
              ∧ (7 ≤ s.tunnel.readyRun → t.tunnel.ready = true ∧ t.tunnel.readyRun = 8)))
        ∧ t.tunnel.queue = s.tunnel.queue ∧ t.tunnel.belt = s.tunnel.belt ∧ t.tunnel.held = s.tunnel.held
        ∧ t.ring = s.ring ∧ t.book = s.book ∧ t.pack = s.pack ∧ t.print = s.print ∧ t.bar = s.bar)
    ∧ (∀ s : State, s.tunnel.profile.tickPeriod ≤ (s.time.now - s.tunnel.tickStart).toNat →
      ∃ (t : State) (silent lapsed hot ready : List Notice), exec .cureTick s = .next t
        ∧ silent = ((List.finRange 4).filter fun z =>
            decide ((tget s.tunnel.zones z).state = .live ∧ (tget s.tunnel.zones z).heard = false
              ∧ 2 ≤ (tget s.tunnel.zones z).missed)).map (fun z => .zoneStale z .noReading)
        ∧ lapsed = ((List.finRange 4).filter fun z =>
            decide ((tget s.tunnel.zones z).state = .stale ∧ 8 ≤ (tget s.tunnel.zones z).staleTicks)).map
            (fun z => .zoneLapsed z)
        ∧ hot = ((List.finRange 4).filter fun z =>
            decide ((tget t.tunnel.zones z).state = .live ∧ (tget s.tunnel.zones z).overtemp = false
              ∧ (tget t.tunnel.zones z).overtemp = true)).map (fun z => .overtemp z (tget t.tunnel.zones z).temperature)
        ∧ ready = (if s.tunnel.ready = false ∧ t.tunnel.ready = true then [.tunnelReady] else [])
        ∧ t.port .order = (silent ++ lapsed ++ hot ++ ready).foldl
            (fun x n => x.join { notice := n, stamp := s.time.now }) (s.port .order)
        ∧ ∀ q : Port, q ≠ .order → t.port q = s.port q)

/-! ### Chapter 8 -/

/-- MATCH by the tests of R145 in order: NOT EXITED; SCRAP for a faulted or SCORCHED unit; RECURE OR SCRAP with nothing
changed for an UNDERCURED or UNMEASURED one; for a CURED one a shelf slot or DISCARD where its order is CANCELLING,
else its order's bin, a free bin given to it, or NO BIN. The results of every disposition in the layout of A.4.
The model's choice: bits 6 and 7 of the indications, which A.4 does not name, are 0 (log entry 35). -/
def Obligations.MatchDispositions : Prop :=
  (∀ (s : State) (p : Port) (f : Frame) (rest : List Frame) (u : UnitNo) (sh : Shirt) (s0 : State),
    Offered s p .matchShirt f rest → f.body = tagBytes (s.tagOf u) → s.generation u ≤ 1023 → s.shirt u = some sh →
    s0 = s.without p rest →
    (sh.state ≠ .exited → exec (.matchShirt p) s = answer s0 p f (.refused .notExited []))
      ∧ ∀ (c : CureRecord) (o : Order) (i : OrderNo), sh.state = .exited → sh.cure = some c →
          i = sh.order.index → s.order i = some o →
        ((sh.fault.isSome = true ∨ c.result = .scorched) →
          exec (.matchShirt p) s = answer (freeUnit .scrapped u s0) p f
            (.done (matchResults .scrap (s.tagOf u) sh c o.webNumber false)))
        ∧ (sh.fault = none → (c.result = .undercured ∨ c.result = .unmeasured) →
          exec (.matchShirt p) s = answer s0 p f
            (.done (matchResults .recureOrScrap (s.tagOf u) sh c o.webNumber false)))
        ∧ (sh.fault = none → c.result = .cured → o.state = .cancelling →
          (∀ sl : SlotNo, tget s.pack.shelf sl = none → (∀ j : SlotNo, j < sl → (tget s.pack.shelf j).isSome = true) →
            exec (.matchShirt p) s = answer
              (freeUnit .orphaned u (s0.setPack { s.pack with
                shelf := tset s.pack.shelf sl (some { artwork := sh.artwork, sku := sh.sku, stamp := s.time.now })
                age := s.pack.age ++ [sl] })) p f
              (.done (matchResults (.orphan sl) (s.tagOf u) sh c o.webNumber false)))
          ∧ ((∀ sl : SlotNo, (tget s.pack.shelf sl).isSome = true) →
            exec (.matchShirt p) s = answer (freeUnit .scrapped u s0) p f
              (.done (matchResults .discard (s.tagOf u) sh c o.webNumber false))))
        ∧ (sh.fault = none → c.result = .cured → (o.state = .active ∨ o.state = .held) →
          (∀ b : BinNo, o.bin = some b → ∃ t, t = freeUnit .binned u s0
            ∧ exec (.matchShirt p) s = answer t p f
              (.done (matchResults (.bin b) (s.tagOf u) sh c o.webNumber
                (decide ((t.order i).map (·.state) = some .complete)))))
          ∧ (∀ b : BinNo, o.bin = none → tget s.pack.bins b = none →
              (∀ j : BinNo, j < b → (tget s.pack.bins j).isSome = true) →
            ∃ t, t = freeUnit .binned u (putOrder i (some { o with bin := some b })
                (s0.setPack { s.pack with bins := tset s.pack.bins b (some (s.handleOf i)) }))
              ∧ exec (.matchShirt p) s = answer t p f
                (.done (matchResults (.bin b) (s.tagOf u) sh c o.webNumber
                  (decide ((t.order i).map (·.state) = some .complete)))))
          ∧ (o.bin = none → (∀ b : BinNo, (tget s.pack.bins b).isSome = true) →
            exec (.matchShirt p) s = answer s0 p f
              (.refused .noBin (tagBytes (s.tagOf u) ++ handleBytes sh.order ++ bytes4 o.webNumber.toNat)))))
    ∧ ∀ (d : MatchResult) (tag : Tag) (sh : Shirt) (c : CureRecord) (web : Word32) (complete : Bool),
      ∃ (disposition : List Byte) (limits : List Byte) (indications : Byte),
        matchResults d tag sh c web complete =
          disposition ++ tagBytes tag ++ handleBytes sh.order ++ bytes4 web.toNat ++ bytes1 sh.line.val
            ++ bytes1 c.result.code ++ bytes2 c.exposure ++ limits ++ bytes1 (faultCode sh.fault) ++ [indications]
        ∧ disposition = (match d with
          | .scrap => [0, 0xFF]
          | .recureOrScrap => [1, 0xFF]
          | .orphan sl => [2, BitVec.ofNat 8 sl.val]
          | .discard => [3, 0xFF]
          | .bin b => [4, BitVec.ofNat 8 b.val])
        ∧ (∀ needed scorch : Nat, c.required = some needed → c.scorch = some scorch →
          limits = bytes2 needed ++ bytes2 scorch)
        ∧ (c.required = none → c.scorch = none → limits = [0, 0, 0, 0])
        ∧ indications.getLsbD 0 = sh.flags.bypassed ∧ indications.getLsbD 1 = sh.flags.saturated
        ∧ indications.getLsbD 2 = sh.flags.unreadyEntry ∧ indications.getLsbD 3 = sh.flags.recured
        ∧ indications.getLsbD 4 = complete
        ∧ indications.getLsbD 5 = (c.required.isSome && c.scorch.isSome)
        ∧ indications.getLsbD 6 = false ∧ indications.getLsbD 7 = false

/-- SCRAP: IN PROCESS for a PRETREATING unit and for the unit the Print station works on with the engine; otherwise
the station that holds the unit, if one does, lets it go by R151's table and the unit is freed as SCRAPPED.
The model's choice: scrap count and need are taken before any return of the line (log entry 15). -/
def Obligations.ScrapByPlace : Prop :=
  ∀ (s : State) (p : Port) (f : Frame) (rest : List Frame) (u : UnitNo) (sh : Shirt) (s0 : State),
    Offered s p .scrap f rest → f.body = tagBytes (s.tagOf u) → s.generation u ≤ 1023 → s.shirt u = some sh →
    s0 = s.without p rest →
    ((sh.state = .pretreating
        ∨ (s.print.state ∈ [.registering, .passing, .aborting, .parking] ∧ s.print.held = some (s.tagOf u))) →
      exec (.scrap p) s = answer s0 p f (.refused .inProcess []))
      ∧ ∀ (l : Line) (s1 t : State), sh.state ≠ .pretreating →
          ¬ (s.print.state ∈ [.registering, .passing, .aborting, .parking] ∧ s.print.held = some (s.tagOf u)) →
          lineOf s sh = some l →
          s1 =
            (if pretreatHolds s u = true then releaseHold .pretreat (setPretreatState .idle none s0)
            else if s.print.held = some (s.tagOf u) then
              (if s.print.stageAsked = true then
                post .engine (.platenWithdrawn (s.tagOf u) sh.artwork) (releaseHold .print (s0.setPrint
                  { s.print with state := .idle, held := none, stageAsked := false }))
              else releaseHold .print (s0.setPrint
                  { s.print with state := .idle, held := none, stageAsked := false }))
            else if s.tunnel.held = some u then
              releaseHold .tunnel (s0.setTunnel { s.tunnel with state := .idle, held := none })
            else s0) →
          t = freeUnit .scrapped u s1 →
          exec (.scrap p) s = answer t p f
            (.done (handleBytes sh.order ++ bytes1 sh.line.val
              ++ bytes1 (if l.scrap < 255 then l.scrap + 1 else l.scrap)
              ++ bytes1 (l.quantity - l.good - (l.inFlight - 1))
              ++ bytes1 (orderStateCode ((t.order sh.order.index).map (·.state)))))

/-- RECURE by the checks of R153 in order, and an accepted one (R154): off the exit list, to the queue's tail at the
present belt position, CURING with the flag RECURED; an UNMEASURED unit is given the exposure it requires now. -/
def Obligations.RecureChecksAndEffect : Prop :=
  ∀ (s : State) (p : Port) (f : Frame) (rest : List Frame) (u : UnitNo) (sh : Shirt) (s0 : State),
    Offered s p .recure f rest → f.body = tagBytes (s.tagOf u) → s.generation u ≤ 1023 → s.shirt u = some sh →
    s0 = s.without p rest →
    (sh.state ≠ .exited → exec (.recure p) s = answer s0 p f (.refused .notExited []))
      ∧ ∀ (c : CureRecord), sh.state = .exited → sh.cure = some c →
        (c.result ≠ .undercured → c.result ≠ .unmeasured →
          exec (.recure p) s = answer s0 p f (.refused .state []))
        ∧ ((c.result = .undercured ∨ c.result = .unmeasured) →
          (sh.flags.recured = true → exec (.recure p) s = answer s0 p f (.refused .recureLimit []))
          ∧ (sh.flags.recured = false → s.tunnel.quiesce ≠ .running →
            exec (.recure p) s = answer s0 p f (.refused .quiesced []))
          ∧ (sh.flags.recured = false → s.tunnel.quiesce = .running → 10 ≤ s.tunnel.queue.length →
            exec (.recure p) s = answer s0 p f (.refused .full []))
          ∧ (sh.flags.recured = false → s.tunnel.quiesce = .running → s.tunnel.queue.length < 10 →
            ∃ (t : State) (c' : CureRecord),
              exec (.recure p) s = answer t p f
                (.done (orNone 2 bytes2 c'.required ++ orNone 2 bytes2 c'.scorch ++ bytes2 c'.exposure))
              ∧ t.tunnel.queue = s.tunnel.queue ++ [{ unit := u, entry := s.tunnel.belt }]
              ∧ t.pack = { s.pack with exits := s.pack.exits.filter fun v => decide (v ≠ u) }
              ∧ t.shirt u = some { sh with
                  state := .curing, cure := some c', flags := { sh.flags with recured := true } }
              ∧ (∀ v : UnitNo, v ≠ u → t.shirt v = s.shirt v)
              ∧ t.ring = s.ring ∧ t.book = s.book ∧ t.print = s.print ∧ t.bar = s.bar
              ∧ (c.result = .undercured → c' = { c with result := .pending })
              ∧ (c.result = .unmeasured → ∀ white colour fluid needed : Nat,
                  white = (match sh.print with | some r => r.white | none => 0) →
                  colour = (match sh.print with | some r => r.colour | none => 0) →
                  fluid = (match sh.dose with | some d => d.fluid | none => 0) →
                  needed = min (tget s.tunnel.profile.base sh.sku.fabric
                    + (white * s.tunnel.profile.whiteWeight + colour * s.tunnel.profile.colourWeight) / 256
                    + fluid / 128) 65535 →
                  c' = { required := some needed, exposure := c.exposure
                         scorch := some (min (needed + tget s.tunnel.profile.margin sh.sku.fabric) 65535)
                         result := .pending })))

/-- BIN CLOSED: BAD FIELD above 23, STATE for a free bin and for an order not COMPLETE, otherwise the bin becomes free and
the order returns to FREE with cause CLOSED.
CLEAR SHELF SLOT: BAD FIELD above 15, STATE for an empty slot, otherwise the entry is returned and leaves the shelf and
its age order; nothing else changes. -/
def Obligations.BinsAndSlotsCleared : Prop :=
  (∀ (s : State) (p : Port) (f : Frame) (rest : List Frame) (num : Byte), Offered s p .binClosed f rest →
      f.body = [num] →
      (23 < num.toNat → exec (.binClosed p) s = answer (s.without p rest) p f (.refused .badField []))
        ∧ ∀ b : BinNo, num.toNat = b.val →
          (tget s.pack.bins b = none → exec (.binClosed p) s = answer (s.without p rest) p f (.refused .state []))
          ∧ ∀ (h : Handle) (o : Order), tget s.pack.bins b = some h → s.order h.index = some o →
            (o.state ≠ .complete → exec (.binClosed p) s = answer (s.without p rest) p f (.refused .state []))
            ∧ (o.state = .complete →
              exec (.binClosed p) s = answer
                (freeOrder h.index .closed (putOrder h.index (some { o with bin := none })
                  ((s.without p rest).setPack { s.pack with bins := tset s.pack.bins b none })))
                p f (.done (handleBytes h ++ bytes4 o.webNumber.toNat))))
    ∧ (∀ (s : State) (p : Port) (f : Frame) (rest : List Frame) (num : Byte), Offered s p .clearShelfSlot f rest →
      f.body = [num] →
      (15 < num.toNat → exec (.clearShelfSlot p) s = answer (s.without p rest) p f (.refused .badField []))
        ∧ ∀ sl : SlotNo, num.toNat = sl.val →
          (tget s.pack.shelf sl = none →
            exec (.clearShelfSlot p) s = answer (s.without p rest) p f (.refused .state []))
          ∧ ∀ e : ShelfEntry, tget s.pack.shelf sl = some e →
            exec (.clearShelfSlot p) s = answer
              ((s.without p rest).setPack { s.pack with
                shelf := tset s.pack.shelf sl none, age := s.pack.age.filter fun x => decide (x ≠ sl) })
              p f (.done (bytes1 e.artwork.val ++ skuBytes e.sku ++ bytes4 e.stamp.toNat)))

/-! ### Chapter 9 and the reads -/

/-- QUIESCE STATION: BAD FIELD above 3; ALREADY for a station not RUNNING; QUIESCED at once without work in hand, with the
notice; QUIESCING with it. What the station holds and has not begun goes to QUIESCE WAIT, and the Tunnel station's to
INHIBITED.
RESUME STATION: BAD FIELD above 3; ALREADY for a RUNNING station; otherwise RUNNING with RESUMED posted, and a station
that had come to rest gives its held unit the start test, the Tunnel station the entry test in either case.
A completion event makes a QUIESCING station QUIESCED and posts QUIESCED naming it to the Order port, and changes nothing
of any other. The freeing of a unit (a loss, a SCRAP) that takes the last record out of the queue of a QUIESCING Tunnel
station is such an event.
The model's choice: the QUIESCED notice of that freeing joins before the Order Book's notices (log entry 13). -/
def Obligations.QuiesceAndResume : Prop :=
  (∀ (s : State) (p : Port) (f : Frame) (rest : List Frame) (code : Byte) (s0 : State),
      Offered s p .quiesceStation f rest → f.body = [code] → s0 = s.without p rest →
      (3 < code.toNat → exec (.quiesceStation p) s = answer s0 p f (.refused .badField []))
        ∧ (∀ st : Station, code.toNat = st.code →
            (s.quiesce st = .quiescing → exec (.quiesceStation p) s = answer s0 p f (.condition .already [1]))
            ∧ (s.quiesce st = .quiesced → exec (.quiesceStation p) s = answer s0 p f (.condition .already [2])))
        ∧ (code = 0 → s.load.quiesce = .running →
            exec (.quiesceStation p) s = answer
              (post .order (.quiesced .load) (s0.setLoad { s.load with quiesce := .quiesced })) p f (.done [2]))
        ∧ (code = 1 → s.pretreat.quiesce = .running →
            (s.pretreat.state = .spraying →
              exec (.quiesceStation p) s = answer (s0.setPretreat { s.pretreat with quiesce := .quiescing }) p f (.done [1]))
            ∧ (s.pretreat.state = .idle →
              exec (.quiesceStation p) s = answer
                (post .order (.quiesced .pretreat) (s0.setPretreat { s.pretreat with quiesce := .quiesced })) p f (.done [2]))
            ∧ (s.pretreat.state ∈ [.quiesceWait, .barFault, .lowFluid] →
              exec (.quiesceStation p) s = answer
                (post .order (.quiesced .pretreat) (s0.setPretreat
                  { s.pretreat with quiesce := .quiesced, state := .quiesceWait, plan := none })) p f (.done [2])))
        ∧ (code = 2 → s.print.quiesce = .running →
            (s.print.state ∈ [.registering, .passing, .aborting, .parking] →
              exec (.quiesceStation p) s = answer (s0.setPrint { s.print with quiesce := .quiescing }) p f (.done [1]))
            ∧ (s.print.state ∈ [.idle, .quiesceWait] →
              exec (.quiesceStation p) s = answer
                (post .order (.quiesced .print) (s0.setPrint { s.print with quiesce := .quiesced })) p f (.done [2]))
            ∧ (s.print.state = .waitArtwork →
              exec (.quiesceStation p) s = answer
                (post .order (.quiesced .print) (s0.setPrint
                  { s.print with quiesce := .quiesced, state := .quiesceWait })) p f (.done [2])))
        ∧ (code = 3 → s.tunnel.quiesce = .running →
            (s.tunnel.queue ≠ [] →
              exec (.quiesceStation p) s = answer (s0.setTunnel { s.tunnel with
                quiesce := .quiescing, state := if s.tunnel.state = .idle then .idle else .inhibited }) p f (.done [1]))
            ∧ (s.tunnel.queue = [] →
              exec (.quiesceStation p) s = answer (post .order (.quiesced .tunnel) (s0.setTunnel { s.tunnel with
                quiesce := .quiesced, state := if s.tunnel.state = .idle then .idle else .inhibited })) p f (.done [2]))))
    ∧ (∀ (s : State) (p : Port) (f : Frame) (rest : List Frame) (code : Byte) (s0 : State),
      Offered s p .resumeStation f rest → f.body = [code] → s0 = s.without p rest →
      (3 < code.toNat → exec (.resumeStation p) s = answer s0 p f (.refused .badField []))
        ∧ ∀ st : Station, code.toNat = st.code →
          (s.quiesce st = .running → exec (.resumeStation p) s = answer s0 p f (.condition .already []))
          ∧ (s.quiesce st ≠ .running → ∀ s1 : State,
              s1 = post .order (.resumed st (s.quiesce st)) (setQuiesce st .running s0) →
            (st = .load → exec (.resumeStation p) s = answer s1 p f (.done []))
            ∧ (st = .pretreat → s.quiesce st = .quiesced → s.pretreat.state = .quiesceWait →
                exec (.resumeStation p) s = answer (pretreatStartTest s1) p f (.done []))
            ∧ (st = .pretreat → (s.quiesce st = .quiescing ∨ s.pretreat.state ≠ .quiesceWait) →
                exec (.resumeStation p) s = answer s1 p f (.done []))
            ∧ (st = .print → s.quiesce st = .quiesced → s.print.state = .quiesceWait →
                exec (.resumeStation p) s = answer (printStartTest s1) p f (.done []))
            ∧ (st = .print → (s.quiesce st = .quiescing ∨ s.print.state ≠ .quiesceWait) →
                exec (.resumeStation p) s = answer s1 p f (.done []))
            ∧ (st = .tunnel → exec (.resumeStation p) s = answer
                (s1.setTunnel { s1.tunnel with
                  state :=
                    if s.tunnel.state = .idle then .idle
                    else if s.tunnel.ready = true ∧ s.tunnel.queue.length < 10 ∧ s.pack.exits.length < 16 then
                      .transferWait
                    else .inhibited }) p f (.done []))))
    ∧ (∀ (s : State) (q : Quiesce), setQuiesce .load q s = s.setLoad { s.load with quiesce := q }
      ∧ setQuiesce .pretreat q s = s.setPretreat { s.pretreat with quiesce := q }
      ∧ setQuiesce .print q s = s.setPrint { s.print with quiesce := q }
      ∧ setQuiesce .tunnel q s = s.setTunnel { s.tunnel with quiesce := q })
    ∧ (∀ (s : State) (st : Station),
      (s.quiesce st = .quiescing → completeQuiesce st s = post .order (.quiesced st) (setQuiesce st .quiesced s))
        ∧ (s.quiesce st ≠ .quiescing → completeQuiesce st s = s))
    ∧ (∀ (d : Disposition) (u : UnitNo) (s t : State) (r : QueueRecord), (s.shirt u).isSome = true →
      r ∈ s.tunnel.queue → r.unit = u → t = freeUnit d u s →
      ((∀ x ∈ s.tunnel.queue, x.unit = u) → s.tunnel.quiesce = .quiescing →
          t.tunnel.quiesce = .quiesced
          ∧ ((s.port .order).notices.length < 16 →
            (s.port .order).notices ++ [{ notice := .quiesced .tunnel, stamp := s.time.now }]
              <+: (t.port .order).notices)
          ∧ (16 ≤ (s.port .order).notices.length → (t.port .order).overrun = true))
        ∧ ((∃ x ∈ s.tunnel.queue, x.unit ≠ u) ∨ s.tunnel.quiesce ≠ .quiescing →
          t.tunnel.quiesce = s.tunnel.quiesce))

/-- The reads of orders, artworks and the pack table: BAD FIELD, STALE HANDLE or LIMIT in their order, otherwise the picture
of A.7 with the list from the position asked for; a read changes nothing but the buffer.
The entries of READ PACK hold their fields in the order and widths of A.7: tag, handle, line, cure result, exposure,
required exposure, fault and flags of an exited unit; handle, web order number and shirts of a bin, none, none and 0
when it is free; artwork, SKU, stamp and place in the age order of a shelf slot, none in each when it is empty.
The model's choices: the entry counts 24 and 16 (log entry 17), the low-order bytes of a number too great for its field
(log entry 25). The bits of an exit entry's flags that A.7 does not name
(log entry 35) are left open here. -/
def Obligations.ReadsOfBooks : Prop :=
  ∀ (s : State) (p : Port) (f : Frame) (rest : List Frame) (s0 : State), s0 = s.without p rest →
    (Offered s p .readOrder f rest →
        (∀ (i : OrderNo) (o : Order) (more : List Byte) (first : Nat), s.order i = some o →
            (s.handleOf i).generation ≤ 255 → f.body = handleBytes (s.handleOf i) ++ more →
            (more = [] ∧ first = 0 ∨ ∃ b : Byte, more = [b] ∧ first = b.toNat ∧ first < o.lines.length) →
          exec (.readOrder p) s = answer s0 p f
            (.done (bytes1 (orderStateCode (some o.state)) ++ bytes4 o.webNumber.toNat ++ bytes4 o.sequence
              ++ bytes1 o.priority ++ bytes1 o.alterLevel ++ orNone 1 (fun r => bytes1 r.code) o.holdReason
              ++ orNone 1 (fun b => bytes1 b.val) o.bin ++ bytes1 o.lines.length
              ++ ((linesOf s o).drop first).flatMap fun l =>
                bytes1 l.artwork.val ++ skuBytes l.sku ++ bytes1 l.quantity ++ bytes1 l.good ++ bytes1 l.inFlight
                  ++ bytes1 l.scrap ++ bytes1 (l.quantity - l.good - l.inFlight))))
        ∧ (∀ (i : OrderNo) (o : Order) (b : Byte), s.order i = some o → (s.handleOf i).generation ≤ 255 →
            f.body = handleBytes (s.handleOf i) ++ [b] → o.lines.length ≤ b.toNat →
          exec (.readOrder p) s = answer s0 p f (.refused .limit []))
        ∧ (∀ (g ix : Byte) (more : List Byte), f.body = g :: ix :: more →
            (127 < ix.toNat → exec (.readOrder p) s = answer s0 p f (.refused .badField []))
            ∧ ∀ i : OrderNo, ix.toNat = i.val → (s.order i = none ∨ (s.handleOf i).generation ≠ g.toNat) →
              exec (.readOrder p) s = answer s0 p f (.refused .staleHandle [])))
      ∧ (Offered s p .readArtwork f rest → ∀ (a : ArtworkNo) (x : Artwork), tget s.artworks a = x →
        (∀ (d : Design) (more : List Byte) (first : Nat), x.design = some d → f.body = bytes1 a.val ++ more →
            (more = [] ∧ first = 0 ∨ ∃ b : Byte, more = [b] ∧ first = b.toNat ∧ first < d.coverage.length) →
          exec (.readArtwork p) s = answer s0 p f
            (.done ([1] ++ bytes2 x.refs ++ bytes1 (yesNoCode x.staged) ++ bytes1 d.coverage.length ++ [d.zoneMask]
              ++ bytes1 d.whitePasses ++ bytes1 d.colourPasses
              ++ (d.coverage.drop first).flatMap fun c => bytes1 c.white ++ bytes1 c.colour)))
        ∧ (x.design = none → (f.body = bytes1 a.val ∨ f.body = bytes1 a.val ++ [0]) →
          exec (.readArtwork p) s = answer s0 p f
            (.done ([0] ++ bytes2 x.refs ++ bytes1 (yesNoCode x.staged) ++ [0, 0, 0, 0])))
        ∧ (∀ b : Byte, f.body = bytes1 a.val ++ [b] →
            (∀ d, x.design = some d → d.coverage.length ≤ b.toNat) → (x.design = none → 0 < b.toNat) →
          exec (.readArtwork p) s = answer s0 p f (.refused .limit []))
        ∧ (∀ (num : Byte) (more : List Byte), f.body = num :: more → 63 < num.toNat →
          exec (.readArtwork p) s = answer s0 p f (.refused .badField [])))
      ∧ (Offered s p .readPack f rest →
        (f.body = [0] → exec (.readPack p) s = answer s0 p f
          (.done ([0] ++ bytes1 s.pack.exits.length ++ s.pack.exits.flatMap (exitBytes s))))
        ∧ (f.body = [1] → exec (.readPack p) s = answer s0 p f
          (.done ([1, 24] ++ (List.finRange 24).flatMap fun b => binBytes s (tget s.pack.bins b))))
        ∧ (f.body = [2] → exec (.readPack p) s = answer s0 p f
          (.done ([2, 16] ++ (List.finRange 16).flatMap (slotBytes s))))
        ∧ (∀ b : Byte, f.body = [b] → 2 < b.toNat →
          exec (.readPack p) s = answer s0 p f (.refused .badField [])))
      ∧ (∀ (u : UnitNo) (sh : Shirt) (c : CureRecord), s.shirt u = some sh → sh.cure = some c → ∃ flags : Byte,
        exitBytes s u = tagBytes (s.tagOf u) ++ handleBytes sh.order ++ bytes1 sh.line.val ++ bytes1 c.result.code
            ++ bytes2 c.exposure ++ (match c.required with | some n => bytes2 n | none => [0xFF, 0xFF])
            ++ bytes1 (faultCode sh.fault) ++ [flags]
          ∧ (exitBytes s u).length = 12
          ∧ flags.getLsbD 0 = sh.flags.bypassed ∧ flags.getLsbD 1 = sh.flags.saturated
          ∧ flags.getLsbD 2 = sh.flags.unreadyEntry ∧ flags.getLsbD 3 = sh.flags.recured)
      ∧ binBytes s none = [0xFF, 0xFF, 0xFF, 0xFF, 0xFF, 0xFF, 0, 0]
      ∧ (∀ (h : Handle) (o : Order), s.order h.index = some o →
        binBytes s (some h) = handleBytes h ++ bytes4 o.webNumber.toNat ++ bytes2 ((linesOf s o).map fun l => l.good).sum)
      ∧ (∀ sl : SlotNo, tget s.pack.shelf sl = none → slotBytes s sl = List.replicate 9 0xFF)
      ∧ (∀ (sl : SlotNo) (e : ShelfEntry) (k : Nat), tget s.pack.shelf sl = some e → s.pack.age[k]? = some sl →
        (∀ j, j < k → s.pack.age[j]? ≠ some sl) →
        slotBytes s sl = bytes1 e.artwork.val ++ bytes1 e.sku.fabric.val ++ bytes1 e.sku.colour.val
          ++ bytes1 e.sku.size.val ++ bytes4 e.stamp.toNat ++ bytes1 k)
      ∧ [none, some OrderState.active, some .held, some .complete, some .cancelling].map orderStateCode = [0, 1, 2, 3, 4]
      ∧ [HoldReason.ordered, .scrapLimit].map HoldReason.code = [0, 1]
      ∧ [CureResult.pending, .cured, .undercured, .scorched, .notRequired, .unmeasured].map CureResult.code
          = [0, 1, 2, 3, 4, 5]
      ∧ [none, some UnitFault.noPretreat, some .pretreatFault, some .registerFault, some .registerTimeout,
          some .printAbort, some .swathTimeout].map faultCode = [0, 1, 2, 3, 4, 5, 6]

/-- The reads of the stations return their records laid out by A.7, in a fixed count of bytes but for their lists, and
change nothing but the buffer. A swath order, the plan cursor, a zone and a tunnel queue record hold their fields in the
order and widths of A.2, A.4 and A.7, and the states their codes of A.2.
The model's choices: none where nothing is there to report (log entry 16), the direction codes (log entry 29), the
low-order bytes of an elapsed time above 65535 (log entry 25). The bits of a queue record's flags that A.7 does not name
(log entry 35) are left open here. -/
def Obligations.ReadsOfStations : Prop :=
  ∀ (s : State) (p : Port) (f : Frame) (rest : List Frame) (s0 : State), s0 = s.without p rest →
    (Offered s p .readLoadTables f rest → ∃ r : List Byte,
        exec (.readLoadTables p) s = answer s0 p f (.done r) ∧ r.length = 75
        ∧ (∀ c : Fin 64, r[c.val]? = some (BitVec.ofNat 8 (tget s.load.colours c)))
        ∧ (∀ z : Fin 8, r[64 + z.val]? = some (BitVec.ofNat 8 (tget s.load.sizeMap z).code))
        ∧ r.drop 72 = bytes1 s.load.darkThreshold ++ bytes1 s.load.scrapLimit ++ bytes1 s.load.quiesce.code)
      ∧ (Offered s p .readPretreat f rest → ∃ r : List Byte,
        exec (.readPretreat p) s = answer s0 p f (.done r) ∧ r.length = 29
        ∧ (∀ c : Fin 8, (r.drop (2 * c.val)).take 2 = bytes2 (tget s.pretreat.doses c))
        ∧ r.drop 16 = bytes4 s.pretreat.reservoir ++ bytes1 s.pretreat.state.code ++ bytes1 s.pretreat.quiesce.code
            ++ orNone 2 tagBytes (pretreatHeldTag s) ++ orNone 4 (fun x => bytes4 x.fluidTotal) s.pretreat.plan
            ++ orNone 1 (fun x => bytes1 x.sweepCount) s.pretreat.plan)
      ∧ (Offered s p .readSprayBar f rest →
        exec (.readSprayBar p) s = answer s0 p f
          (.done (bytes2 s.bar.settings.sweepTime ++ bytes1 s.bar.settings.amplitude ++ bytes2 s.bar.settings.halfPeriod
            ++ bytes1 s.bar.settings.passCapacity ++ bytes1 s.bar.settings.minDose ++ bytes1 s.bar.state.code
            ++ orNone 1 (fun t => bytes1 t.code) (if s.bar.state = .moving then s.bar.target else none)
            ++ orNone 2 (fun x => tagBytes x.tag) s.bar.plan ++ bytes1 (yesNoCode s.bar.planWaiting)
            ++ orNone 1 bytes1 s.bar.band ++ bytes1 s.bar.sweepsDone
            ++ bytes1 (match s.bar.nextDirection with | .forward => 0 | .reverse => 1)
            ++ bytes1 (yesNoCode s.bar.dithering) ++ bytes1 (yesNoCode s.bar.clearPending))))
      ∧ (Offered s p .readPrint f rest → ∃ r : List Byte,
        exec (.readPrint p) s = answer s0 p f (.done r) ∧ r.length = 29 + 8 * s.print.inFlight.length
        ∧ r = bytes1 s.print.state.code ++ bytes1 s.print.quiesce.code ++ bytes2 s.print.watchdogLimit
            ++ orNone 2 tagBytes s.print.held ++ orNone 1 (fun a => bytes1 a.val) (heldArtwork s)
            ++ bytes1 (yesNoCode s.print.stageAsked) ++ cursorBytes s.print.cursor ++ bytes1 s.print.nextNumber
            ++ orNone 2 tagBytes s.print.lateTag ++ orNone 1 bytes1 s.print.terminated[0]?
            ++ orNone 1 bytes1 s.print.terminated[1]? ++ orNone 1 bytes1 s.print.terminated[2]?
            ++ orNone 2 (fun w => bytes2 (s.time.now - w.start).toNat) s.print.watchdog
            ++ orNone 2 (fun x => bytes2 x.white) (heldPrintRecord s)
            ++ orNone 2 (fun x => bytes2 x.colour) (heldPrintRecord s)
            ++ orNone 1 (fun x => bytes1 x.fired) (heldPrintRecord s)
            ++ orNone 1 (fun x => bytes1 x.dry) (heldPrintRecord s)
            ++ bytes1 (yesNoCode s.print.errorRecord.isSome) ++ bytes1 s.print.errorCount
            ++ bytes1 s.print.inFlight.length ++ s.print.inFlight.flatMap swathBytes)
      ∧ (Offered s p .readTunnel f rest → ∃ r : List Byte,
        exec (.readTunnel p) s = answer s0 p f (.done r) ∧ r.length = 102 + 13 * s.tunnel.queue.length
        ∧ r = profileBytes s.tunnel.profile ++ bytes1 s.tunnel.state.code
            ++ orNone 2 (fun u => tagBytes (s.tagOf u)) s.tunnel.held ++ bytes1 s.tunnel.quiesce.code
            ++ bytes1 (if s.tunnel.state = .inhibited ∨ s.tunnel.quiesce ≠ .running then 1 else 0)
            ++ bytes4 s.tunnel.belt.toNat ++ bytes1 (yesNoCode s.tunnel.ready) ++ bytes1 s.tunnel.readyRun
            ++ bytes2 (s.time.now - s.tunnel.tickStart).toNat
            ++ ((List.finRange 4).flatMap fun z => zoneBytes (tget s.tunnel.zones z))
            ++ bytes1 s.tunnel.queue.length ++ s.tunnel.queue.flatMap (queueRecordBytes s))
      ∧ (∀ x : SwathOrder, swathBytes x = bytes1 x.number ++ tagBytes x.tag ++ bytes1 x.band
          ++ bytes1 (match x.layer with | .white => 0 | .colour => 1)
          ++ bytes1 (match x.direction with | .forward => 0 | .reverse => 1)
          ++ bytes1 (if x.fire = true then 1 else 0) ++ bytes1 x.rep)
      ∧ cursorBytes none = [0xFF, 0xFF, 0xFF, 0xFF] ∧ cursorBytes (some .finished) = [0x80, 0, 0, 0]
      ∧ (∀ t : Traverse, cursorBytes (some (.at t)) = bytes1 (match t.layer with | .white => 0 | .colour => 1)
          ++ bytes1 t.pair ++ bytes1 t.rep ++ bytes1 t.half)
      ∧ (∀ z : Zone, zoneBytes z = bytes1 (match z.state with | .live => 0 | .stale => 1 | .lapsed => 2)
          ++ (match z.lastValid with | some n => bytes2 n | none => [0xFF, 0xFF]) ++ bytes2 z.temperature
          ++ bytes1 z.missed ++ bytes1 z.staleTicks ++ bytes1 (if z.heard = true then 1 else 0) ++ bytes1 z.duty
          ++ bytes1 (if z.overtemp = true then 1 else 0))
      ∧ (∀ x : CureProfile, profileBytes x = bytes2 x.tickPeriod ++ bytes2 x.length ++ bytes2 x.window
          ++ ((List.finRange 4).flatMap fun z => bytes1 (tget x.setpoints z)) ++ bytes1 x.floor ++ bytes1 x.gain
          ++ bytes2 x.limit ++ bytes1 x.whiteWeight ++ bytes1 x.colourWeight
          ++ ((List.finRange 8).flatMap fun c => bytes2 (tget x.base c))
          ++ ((List.finRange 8).flatMap fun c => bytes2 (tget x.margin c)))
      ∧ (∀ (x : QueueRecord) (sh : Shirt) (c : CureRecord), s.shirt x.unit = some sh → sh.cure = some c →
        ∃ flags : Byte,
          queueRecordBytes s x = tagBytes (s.tagOf x.unit) ++ bytes4 (s.tunnel.belt - x.entry).toNat ++ bytes2 c.exposure
            ++ (match c.required with | some n => bytes2 n | none => [0xFF, 0xFF])
            ++ (match c.scorch with | some n => bytes2 n | none => [0xFF, 0xFF]) ++ [flags]
          ∧ flags.getLsbD 2 = sh.flags.unreadyEntry ∧ flags.getLsbD 3 = sh.flags.recured)
      ∧ [Quiesce.running, .quiescing, .quiesced].map Quiesce.code = [0, 1, 2]
      ∧ [PretreatState.idle, .quiesceWait, .barFault, .lowFluid, .spraying].map PretreatState.code = [0, 1, 2, 3, 4]
      ∧ [BarState.parked, .moving, .sweeping, .centring, .faulted].map BarState.code = [0, 1, 2, 3, 4]
      ∧ [PrintState.idle, .quiesceWait, .waitArtwork, .registering, .passing, .aborting, .parking].map PrintState.code
          = [0, 1, 2, 3, 4, 5, 6]
      ∧ [TunnelState.idle, .transferWait, .inhibited].map TunnelState.code = [0, 1, 2]
      ∧ [SizeClass.youth, .adult, .oversize].map SizeClass.code = [0, 1, 2]
      ∧ Target.home.code = 0x80 ∧ ∀ b : Nat, (Target.band b).code = b
end

