-- ==== Sys2Proof/Laws/State.lean ====
section
/-! SUPPORT. What each block-replacing update of State leaves, field by field. -/

namespace Sys2Proof.Machine

/-! `setTime` -/
@[simp] theorem State.setTime_time (s : State) (v : TimeBase) : (s.setTime v).time = v := rfl
@[simp] theorem State.setTime_ring (s : State) (v : TimeBase) : (s.setTime v).ring = s.ring := rfl
@[simp] theorem State.setTime_units (s : State) (v : TimeBase) : (s.setTime v).units = s.units := rfl
@[simp] theorem State.setTime_book (s : State) (v : TimeBase) : (s.setTime v).book = s.book := rfl
@[simp] theorem State.setTime_artworks (s : State) (v : TimeBase) : (s.setTime v).artworks = s.artworks := rfl
@[simp] theorem State.setTime_load (s : State) (v : TimeBase) : (s.setTime v).load = s.load := rfl
@[simp] theorem State.setTime_pretreat (s : State) (v : TimeBase) : (s.setTime v).pretreat = s.pretreat := rfl
@[simp] theorem State.setTime_bar (s : State) (v : TimeBase) : (s.setTime v).bar = s.bar := rfl
@[simp] theorem State.setTime_print (s : State) (v : TimeBase) : (s.setTime v).print = s.print := rfl
@[simp] theorem State.setTime_tunnel (s : State) (v : TimeBase) : (s.setTime v).tunnel = s.tunnel := rfl
@[simp] theorem State.setTime_pack (s : State) (v : TimeBase) : (s.setTime v).pack = s.pack := rfl
@[simp] theorem State.setTime_ports (s : State) (v : TimeBase) : (s.setTime v).ports = s.ports := rfl
@[simp] theorem State.setTime_pending (s : State) (v : TimeBase) : (s.setTime v).pending = s.pending := rfl

/-! `setRing` -/
@[simp] theorem State.setRing_time (s : State) (v : Ring) : (s.setRing v).time = s.time := rfl
@[simp] theorem State.setRing_ring (s : State) (v : Ring) : (s.setRing v).ring = v := rfl
@[simp] theorem State.setRing_units (s : State) (v : Ring) : (s.setRing v).units = s.units := rfl
@[simp] theorem State.setRing_book (s : State) (v : Ring) : (s.setRing v).book = s.book := rfl
@[simp] theorem State.setRing_artworks (s : State) (v : Ring) : (s.setRing v).artworks = s.artworks := rfl
@[simp] theorem State.setRing_load (s : State) (v : Ring) : (s.setRing v).load = s.load := rfl
@[simp] theorem State.setRing_pretreat (s : State) (v : Ring) : (s.setRing v).pretreat = s.pretreat := rfl
@[simp] theorem State.setRing_bar (s : State) (v : Ring) : (s.setRing v).bar = s.bar := rfl
@[simp] theorem State.setRing_print (s : State) (v : Ring) : (s.setRing v).print = s.print := rfl
@[simp] theorem State.setRing_tunnel (s : State) (v : Ring) : (s.setRing v).tunnel = s.tunnel := rfl
@[simp] theorem State.setRing_pack (s : State) (v : Ring) : (s.setRing v).pack = s.pack := rfl
@[simp] theorem State.setRing_ports (s : State) (v : Ring) : (s.setRing v).ports = s.ports := rfl
@[simp] theorem State.setRing_pending (s : State) (v : Ring) : (s.setRing v).pending = s.pending := rfl

/-! `setUnits` -/
@[simp] theorem State.setUnits_time (s : State) (v : Vector UnitRecord 40) : (s.setUnits v).time = s.time := rfl
@[simp] theorem State.setUnits_ring (s : State) (v : Vector UnitRecord 40) : (s.setUnits v).ring = s.ring := rfl
@[simp] theorem State.setUnits_units (s : State) (v : Vector UnitRecord 40) : (s.setUnits v).units = v := rfl
@[simp] theorem State.setUnits_book (s : State) (v : Vector UnitRecord 40) : (s.setUnits v).book = s.book := rfl
@[simp] theorem State.setUnits_artworks (s : State) (v : Vector UnitRecord 40) : (s.setUnits v).artworks = s.artworks := rfl
@[simp] theorem State.setUnits_load (s : State) (v : Vector UnitRecord 40) : (s.setUnits v).load = s.load := rfl
@[simp] theorem State.setUnits_pretreat (s : State) (v : Vector UnitRecord 40) : (s.setUnits v).pretreat = s.pretreat := rfl
@[simp] theorem State.setUnits_bar (s : State) (v : Vector UnitRecord 40) : (s.setUnits v).bar = s.bar := rfl
@[simp] theorem State.setUnits_print (s : State) (v : Vector UnitRecord 40) : (s.setUnits v).print = s.print := rfl
@[simp] theorem State.setUnits_tunnel (s : State) (v : Vector UnitRecord 40) : (s.setUnits v).tunnel = s.tunnel := rfl
@[simp] theorem State.setUnits_pack (s : State) (v : Vector UnitRecord 40) : (s.setUnits v).pack = s.pack := rfl
@[simp] theorem State.setUnits_ports (s : State) (v : Vector UnitRecord 40) : (s.setUnits v).ports = s.ports := rfl
@[simp] theorem State.setUnits_pending (s : State) (v : Vector UnitRecord 40) : (s.setUnits v).pending = s.pending := rfl

/-! `setBook` -/
@[simp] theorem State.setBook_time (s : State) (v : OrderBook) : (s.setBook v).time = s.time := rfl
@[simp] theorem State.setBook_ring (s : State) (v : OrderBook) : (s.setBook v).ring = s.ring := rfl
@[simp] theorem State.setBook_units (s : State) (v : OrderBook) : (s.setBook v).units = s.units := rfl
@[simp] theorem State.setBook_book (s : State) (v : OrderBook) : (s.setBook v).book = v := rfl
@[simp] theorem State.setBook_artworks (s : State) (v : OrderBook) : (s.setBook v).artworks = s.artworks := rfl
@[simp] theorem State.setBook_load (s : State) (v : OrderBook) : (s.setBook v).load = s.load := rfl
@[simp] theorem State.setBook_pretreat (s : State) (v : OrderBook) : (s.setBook v).pretreat = s.pretreat := rfl
@[simp] theorem State.setBook_bar (s : State) (v : OrderBook) : (s.setBook v).bar = s.bar := rfl
@[simp] theorem State.setBook_print (s : State) (v : OrderBook) : (s.setBook v).print = s.print := rfl
@[simp] theorem State.setBook_tunnel (s : State) (v : OrderBook) : (s.setBook v).tunnel = s.tunnel := rfl
@[simp] theorem State.setBook_pack (s : State) (v : OrderBook) : (s.setBook v).pack = s.pack := rfl
@[simp] theorem State.setBook_ports (s : State) (v : OrderBook) : (s.setBook v).ports = s.ports := rfl
@[simp] theorem State.setBook_pending (s : State) (v : OrderBook) : (s.setBook v).pending = s.pending := rfl

/-! `setArtworks` -/
@[simp] theorem State.setArtworks_time (s : State) (v : Vector Artwork 64) : (s.setArtworks v).time = s.time := rfl
@[simp] theorem State.setArtworks_ring (s : State) (v : Vector Artwork 64) : (s.setArtworks v).ring = s.ring := rfl
@[simp] theorem State.setArtworks_units (s : State) (v : Vector Artwork 64) : (s.setArtworks v).units = s.units := rfl
@[simp] theorem State.setArtworks_book (s : State) (v : Vector Artwork 64) : (s.setArtworks v).book = s.book := rfl
@[simp] theorem State.setArtworks_artworks (s : State) (v : Vector Artwork 64) : (s.setArtworks v).artworks = v := rfl
@[simp] theorem State.setArtworks_load (s : State) (v : Vector Artwork 64) : (s.setArtworks v).load = s.load := rfl
@[simp] theorem State.setArtworks_pretreat (s : State) (v : Vector Artwork 64) : (s.setArtworks v).pretreat = s.pretreat := rfl
@[simp] theorem State.setArtworks_bar (s : State) (v : Vector Artwork 64) : (s.setArtworks v).bar = s.bar := rfl
@[simp] theorem State.setArtworks_print (s : State) (v : Vector Artwork 64) : (s.setArtworks v).print = s.print := rfl
@[simp] theorem State.setArtworks_tunnel (s : State) (v : Vector Artwork 64) : (s.setArtworks v).tunnel = s.tunnel := rfl
@[simp] theorem State.setArtworks_pack (s : State) (v : Vector Artwork 64) : (s.setArtworks v).pack = s.pack := rfl
@[simp] theorem State.setArtworks_ports (s : State) (v : Vector Artwork 64) : (s.setArtworks v).ports = s.ports := rfl
@[simp] theorem State.setArtworks_pending (s : State) (v : Vector Artwork 64) : (s.setArtworks v).pending = s.pending := rfl

/-! `setLoad` -/
@[simp] theorem State.setLoad_time (s : State) (v : LoadStation) : (s.setLoad v).time = s.time := rfl
@[simp] theorem State.setLoad_ring (s : State) (v : LoadStation) : (s.setLoad v).ring = s.ring := rfl
@[simp] theorem State.setLoad_units (s : State) (v : LoadStation) : (s.setLoad v).units = s.units := rfl
@[simp] theorem State.setLoad_book (s : State) (v : LoadStation) : (s.setLoad v).book = s.book := rfl
@[simp] theorem State.setLoad_artworks (s : State) (v : LoadStation) : (s.setLoad v).artworks = s.artworks := rfl
@[simp] theorem State.setLoad_load (s : State) (v : LoadStation) : (s.setLoad v).load = v := rfl
@[simp] theorem State.setLoad_pretreat (s : State) (v : LoadStation) : (s.setLoad v).pretreat = s.pretreat := rfl
@[simp] theorem State.setLoad_bar (s : State) (v : LoadStation) : (s.setLoad v).bar = s.bar := rfl
@[simp] theorem State.setLoad_print (s : State) (v : LoadStation) : (s.setLoad v).print = s.print := rfl
@[simp] theorem State.setLoad_tunnel (s : State) (v : LoadStation) : (s.setLoad v).tunnel = s.tunnel := rfl
@[simp] theorem State.setLoad_pack (s : State) (v : LoadStation) : (s.setLoad v).pack = s.pack := rfl
@[simp] theorem State.setLoad_ports (s : State) (v : LoadStation) : (s.setLoad v).ports = s.ports := rfl
@[simp] theorem State.setLoad_pending (s : State) (v : LoadStation) : (s.setLoad v).pending = s.pending := rfl

/-! `setPretreat` -/
@[simp] theorem State.setPretreat_time (s : State) (v : Pretreat) : (s.setPretreat v).time = s.time := rfl
@[simp] theorem State.setPretreat_ring (s : State) (v : Pretreat) : (s.setPretreat v).ring = s.ring := rfl
@[simp] theorem State.setPretreat_units (s : State) (v : Pretreat) : (s.setPretreat v).units = s.units := rfl
@[simp] theorem State.setPretreat_book (s : State) (v : Pretreat) : (s.setPretreat v).book = s.book := rfl
@[simp] theorem State.setPretreat_artworks (s : State) (v : Pretreat) : (s.setPretreat v).artworks = s.artworks := rfl
@[simp] theorem State.setPretreat_load (s : State) (v : Pretreat) : (s.setPretreat v).load = s.load := rfl
@[simp] theorem State.setPretreat_pretreat (s : State) (v : Pretreat) : (s.setPretreat v).pretreat = v := rfl
@[simp] theorem State.setPretreat_bar (s : State) (v : Pretreat) : (s.setPretreat v).bar = s.bar := rfl
@[simp] theorem State.setPretreat_print (s : State) (v : Pretreat) : (s.setPretreat v).print = s.print := rfl
@[simp] theorem State.setPretreat_tunnel (s : State) (v : Pretreat) : (s.setPretreat v).tunnel = s.tunnel := rfl
@[simp] theorem State.setPretreat_pack (s : State) (v : Pretreat) : (s.setPretreat v).pack = s.pack := rfl
@[simp] theorem State.setPretreat_ports (s : State) (v : Pretreat) : (s.setPretreat v).ports = s.ports := rfl
@[simp] theorem State.setPretreat_pending (s : State) (v : Pretreat) : (s.setPretreat v).pending = s.pending := rfl

/-! `setBar` -/
@[simp] theorem State.setBar_time (s : State) (v : Bar) : (s.setBar v).time = s.time := rfl
@[simp] theorem State.setBar_ring (s : State) (v : Bar) : (s.setBar v).ring = s.ring := rfl
@[simp] theorem State.setBar_units (s : State) (v : Bar) : (s.setBar v).units = s.units := rfl
@[simp] theorem State.setBar_book (s : State) (v : Bar) : (s.setBar v).book = s.book := rfl
@[simp] theorem State.setBar_artworks (s : State) (v : Bar) : (s.setBar v).artworks = s.artworks := rfl
@[simp] theorem State.setBar_load (s : State) (v : Bar) : (s.setBar v).load = s.load := rfl
@[simp] theorem State.setBar_pretreat (s : State) (v : Bar) : (s.setBar v).pretreat = s.pretreat := rfl
@[simp] theorem State.setBar_bar (s : State) (v : Bar) : (s.setBar v).bar = v := rfl
@[simp] theorem State.setBar_print (s : State) (v : Bar) : (s.setBar v).print = s.print := rfl
@[simp] theorem State.setBar_tunnel (s : State) (v : Bar) : (s.setBar v).tunnel = s.tunnel := rfl
@[simp] theorem State.setBar_pack (s : State) (v : Bar) : (s.setBar v).pack = s.pack := rfl
@[simp] theorem State.setBar_ports (s : State) (v : Bar) : (s.setBar v).ports = s.ports := rfl
@[simp] theorem State.setBar_pending (s : State) (v : Bar) : (s.setBar v).pending = s.pending := rfl

/-! `setPrint` -/
@[simp] theorem State.setPrint_time (s : State) (v : Print) : (s.setPrint v).time = s.time := rfl
@[simp] theorem State.setPrint_ring (s : State) (v : Print) : (s.setPrint v).ring = s.ring := rfl
@[simp] theorem State.setPrint_units (s : State) (v : Print) : (s.setPrint v).units = s.units := rfl
@[simp] theorem State.setPrint_book (s : State) (v : Print) : (s.setPrint v).book = s.book := rfl
@[simp] theorem State.setPrint_artworks (s : State) (v : Print) : (s.setPrint v).artworks = s.artworks := rfl
@[simp] theorem State.setPrint_load (s : State) (v : Print) : (s.setPrint v).load = s.load := rfl
@[simp] theorem State.setPrint_pretreat (s : State) (v : Print) : (s.setPrint v).pretreat = s.pretreat := rfl
@[simp] theorem State.setPrint_bar (s : State) (v : Print) : (s.setPrint v).bar = s.bar := rfl
@[simp] theorem State.setPrint_print (s : State) (v : Print) : (s.setPrint v).print = v := rfl
@[simp] theorem State.setPrint_tunnel (s : State) (v : Print) : (s.setPrint v).tunnel = s.tunnel := rfl
@[simp] theorem State.setPrint_pack (s : State) (v : Print) : (s.setPrint v).pack = s.pack := rfl
@[simp] theorem State.setPrint_ports (s : State) (v : Print) : (s.setPrint v).ports = s.ports := rfl
@[simp] theorem State.setPrint_pending (s : State) (v : Print) : (s.setPrint v).pending = s.pending := rfl

/-! `setTunnel` -/
@[simp] theorem State.setTunnel_time (s : State) (v : Tunnel) : (s.setTunnel v).time = s.time := rfl
@[simp] theorem State.setTunnel_ring (s : State) (v : Tunnel) : (s.setTunnel v).ring = s.ring := rfl
@[simp] theorem State.setTunnel_units (s : State) (v : Tunnel) : (s.setTunnel v).units = s.units := rfl
@[simp] theorem State.setTunnel_book (s : State) (v : Tunnel) : (s.setTunnel v).book = s.book := rfl
@[simp] theorem State.setTunnel_artworks (s : State) (v : Tunnel) : (s.setTunnel v).artworks = s.artworks := rfl
@[simp] theorem State.setTunnel_load (s : State) (v : Tunnel) : (s.setTunnel v).load = s.load := rfl
@[simp] theorem State.setTunnel_pretreat (s : State) (v : Tunnel) : (s.setTunnel v).pretreat = s.pretreat := rfl
@[simp] theorem State.setTunnel_bar (s : State) (v : Tunnel) : (s.setTunnel v).bar = s.bar := rfl
@[simp] theorem State.setTunnel_print (s : State) (v : Tunnel) : (s.setTunnel v).print = s.print := rfl
@[simp] theorem State.setTunnel_tunnel (s : State) (v : Tunnel) : (s.setTunnel v).tunnel = v := rfl
@[simp] theorem State.setTunnel_pack (s : State) (v : Tunnel) : (s.setTunnel v).pack = s.pack := rfl
@[simp] theorem State.setTunnel_ports (s : State) (v : Tunnel) : (s.setTunnel v).ports = s.ports := rfl
@[simp] theorem State.setTunnel_pending (s : State) (v : Tunnel) : (s.setTunnel v).pending = s.pending := rfl

/-! `setPack` -/
@[simp] theorem State.setPack_time (s : State) (v : Pack) : (s.setPack v).time = s.time := rfl
@[simp] theorem State.setPack_ring (s : State) (v : Pack) : (s.setPack v).ring = s.ring := rfl
@[simp] theorem State.setPack_units (s : State) (v : Pack) : (s.setPack v).units = s.units := rfl
@[simp] theorem State.setPack_book (s : State) (v : Pack) : (s.setPack v).book = s.book := rfl
@[simp] theorem State.setPack_artworks (s : State) (v : Pack) : (s.setPack v).artworks = s.artworks := rfl
@[simp] theorem State.setPack_load (s : State) (v : Pack) : (s.setPack v).load = s.load := rfl
@[simp] theorem State.setPack_pretreat (s : State) (v : Pack) : (s.setPack v).pretreat = s.pretreat := rfl
@[simp] theorem State.setPack_bar (s : State) (v : Pack) : (s.setPack v).bar = s.bar := rfl
@[simp] theorem State.setPack_print (s : State) (v : Pack) : (s.setPack v).print = s.print := rfl
@[simp] theorem State.setPack_tunnel (s : State) (v : Pack) : (s.setPack v).tunnel = s.tunnel := rfl
@[simp] theorem State.setPack_pack (s : State) (v : Pack) : (s.setPack v).pack = v := rfl
@[simp] theorem State.setPack_ports (s : State) (v : Pack) : (s.setPack v).ports = s.ports := rfl
@[simp] theorem State.setPack_pending (s : State) (v : Pack) : (s.setPack v).pending = s.pending := rfl

/-! `setPorts` -/
@[simp] theorem State.setPorts_time (s : State) (v : Ports) : (s.setPorts v).time = s.time := rfl
@[simp] theorem State.setPorts_ring (s : State) (v : Ports) : (s.setPorts v).ring = s.ring := rfl
@[simp] theorem State.setPorts_units (s : State) (v : Ports) : (s.setPorts v).units = s.units := rfl
@[simp] theorem State.setPorts_book (s : State) (v : Ports) : (s.setPorts v).book = s.book := rfl
@[simp] theorem State.setPorts_artworks (s : State) (v : Ports) : (s.setPorts v).artworks = s.artworks := rfl
@[simp] theorem State.setPorts_load (s : State) (v : Ports) : (s.setPorts v).load = s.load := rfl
@[simp] theorem State.setPorts_pretreat (s : State) (v : Ports) : (s.setPorts v).pretreat = s.pretreat := rfl
@[simp] theorem State.setPorts_bar (s : State) (v : Ports) : (s.setPorts v).bar = s.bar := rfl
@[simp] theorem State.setPorts_print (s : State) (v : Ports) : (s.setPorts v).print = s.print := rfl
@[simp] theorem State.setPorts_tunnel (s : State) (v : Ports) : (s.setPorts v).tunnel = s.tunnel := rfl
@[simp] theorem State.setPorts_pack (s : State) (v : Ports) : (s.setPorts v).pack = s.pack := rfl
@[simp] theorem State.setPorts_ports (s : State) (v : Ports) : (s.setPorts v).ports = v := rfl
@[simp] theorem State.setPorts_pending (s : State) (v : Ports) : (s.setPorts v).pending = s.pending := rfl

/-! `setPending` -/
@[simp] theorem State.setPending_time (s : State) (v : List Instr) : (s.setPending v).time = s.time := rfl
@[simp] theorem State.setPending_ring (s : State) (v : List Instr) : (s.setPending v).ring = s.ring := rfl
@[simp] theorem State.setPending_units (s : State) (v : List Instr) : (s.setPending v).units = s.units := rfl
@[simp] theorem State.setPending_book (s : State) (v : List Instr) : (s.setPending v).book = s.book := rfl
@[simp] theorem State.setPending_artworks (s : State) (v : List Instr) : (s.setPending v).artworks = s.artworks := rfl
@[simp] theorem State.setPending_load (s : State) (v : List Instr) : (s.setPending v).load = s.load := rfl
@[simp] theorem State.setPending_pretreat (s : State) (v : List Instr) : (s.setPending v).pretreat = s.pretreat := rfl
@[simp] theorem State.setPending_bar (s : State) (v : List Instr) : (s.setPending v).bar = s.bar := rfl
@[simp] theorem State.setPending_print (s : State) (v : List Instr) : (s.setPending v).print = s.print := rfl
@[simp] theorem State.setPending_tunnel (s : State) (v : List Instr) : (s.setPending v).tunnel = s.tunnel := rfl
@[simp] theorem State.setPending_pack (s : State) (v : List Instr) : (s.setPending v).pack = s.pack := rfl
@[simp] theorem State.setPending_ports (s : State) (v : List Instr) : (s.setPending v).ports = s.ports := rfl
@[simp] theorem State.setPending_pending (s : State) (v : List Instr) : (s.setPending v).pending = v := rfl

end Sys2Proof.Machine
end

