-- ==== Sys2Proof/Laws/Ops.lean ====
section
/-! SUPPORT. The shared operations: tables, ports, notices, the ring's holds, unit records, the Order Book's
fields. For each, the blocks it leaves alone, and what it does to its own. -/

namespace Sys2Proof.Machine

/-! ### Tables -/

@[simp] theorem tget_tset_same {α : Type} {n : Nat} (v : Vector α n) (i : Fin n) (x : α) : tget (tset v i x) i = x := by
  simp [tget, tset]

theorem tget_tset_ne {α : Type} {n : Nat} (v : Vector α n) {i j : Fin n} (x : α) (h : j ≠ i) :
    tget (tset v i x) j = tget v j := by
  have : i.val ≠ j.val := fun e => h (Fin.ext e.symm)
  simp [tget, tset, this]

theorem tget_tset {α : Type} {n : Nat} (v : Vector α n) (i j : Fin n) (x : α) :
    tget (tset v i x) j = if j = i then x else tget v j := by
  split
  · subst_vars; simp
  · exact tget_tset_ne v x ‹_›

@[simp] theorem tget_tableOf {α : Type} {n : Nat} (f : Fin n → α) (i : Fin n) : tget (tableOf f) i = f i := by
  simp [tget, tableOf]

@[simp] theorem tget_tmap {α : Type} {n : Nat} (f : α → α) (v : Vector α n) (i : Fin n) :
    tget (tmap f v) i = f (tget v i) := by simp [tmap]

@[simp] theorem tget_replicate {α : Type} {n : Nat} (x : α) (i : Fin n) : tget (Vector.replicate n x) i = x := by
  simp [tget]

/-- Two tables are equal when their entries are. -/
theorem table_ext {α : Type} {n : Nat} {v w : Vector α n} (h : ∀ i : Fin n, tget v i = tget w i) : v = w := by
  apply Vector.ext
  intro i hi
  exact h ⟨i, hi⟩

@[simp] theorem tset_tget {α : Type} {n : Nat} (v : Vector α n) (i : Fin n) : tset v i (tget v i) = v := by
  apply table_ext; intro j; rw [tget_tset]; split <;> simp_all

@[simp] theorem tset_tset {α : Type} {n : Nat} (v : Vector α n) (i : Fin n) (x y : α) :
    tset (tset v i x) i y = tset v i y := by
  apply table_ext; intro j; simp only [tget_tset]; split <;> rfl

/-- A table's list of entries, by entry number. -/
theorem toList_eq_tget {α : Type} {n : Nat} (v : Vector α n) : v.toList = (List.finRange n).map (tget v) := by
  apply List.ext_getElem
  · simp
  · intro i h1 h2; simp [tget]

/-- What `lowest` finds has the property, and no lower-numbered entry has it. -/
theorem lowest_some {α : Type} {n : Nat} {v : Vector α n} {p : α → Bool} {i : Fin n} (h : lowest v p = some i) :
    p (tget v i) = true ∧ ∀ j : Fin n, j < i → p (tget v j) = false := by
  rw [lowest, List.find?_eq_some_iff_getElem] at h
  obtain ⟨hp, k, hk, e, hb⟩ := h
  refine ⟨hp, fun j hj => ?_⟩
  have hki : k = i.val := by simpa using congrArg Fin.val e
  have := hb j.val (by omega)
  simpa using this

/-- `lowest` finds the entry that has the property where no lower-numbered one has it. -/
theorem lowest_eq_some {α : Type} {n : Nat} {v : Vector α n} {p : α → Bool} {i : Fin n} (h : p (tget v i) = true)
    (hb : ∀ j : Fin n, j < i → p (tget v j) = false) : lowest v p = some i := by
  rw [lowest, List.find?_eq_some_iff_getElem]
  refine ⟨h, i.val, by simp, by simp, fun j hj => ?_⟩
  have := hb ⟨j, by omega⟩ (Fin.lt_def.mpr hj)
  simpa using this

/-- `lowest` finds nothing exactly where no entry has the property. -/
theorem lowest_eq_none {α : Type} {n : Nat} {v : Vector α n} {p : α → Bool} :
    lowest v p = none ↔ ∀ j : Fin n, p (tget v j) = false := by
  simp [lowest, List.find?_eq_none]

/-! ### Ports and notices -/

@[simp] theorem Ports.get_put_same (x : Ports) (p : Port) (y : PortState) : (x.put p y).get p = y := by cases p <;> rfl

theorem Ports.get_put_ne (x : Ports) {p q : Port} (y : PortState) (h : q ≠ p) : (x.put p y).get q = x.get q := by
  cases p <;> cases q <;> first | rfl | exact absurd rfl h

@[simp] theorem Ports.put_put (x : Ports) (p : Port) (y z : PortState) : (x.put p y).put p z = x.put p z := by
  cases p <;> rfl

@[simp] theorem Ports.put_get (x : Ports) (p : Port) : x.put p (x.get p) = x := by cases p <;> rfl

@[simp] theorem State.port_setPort_same (s : State) (p : Port) (x : PortState) : (s.setPort p x).port p = x := by
  simp [State.port, State.setPort]

theorem State.port_setPort_ne (s : State) {p q : Port} (x : PortState) (h : q ≠ p) :
    (s.setPort p x).port q = s.port q := by
  simp [State.port, State.setPort, Ports.get_put_ne _ _ h]

@[simp] theorem State.setPort_setPort (s : State) (p : Port) (x y : PortState) :
    (s.setPort p x).setPort p y = s.setPort p y := by
  simp [State.setPort, State.setPorts]

@[simp] theorem State.setPort_port (s : State) (p : Port) : s.setPort p (s.port p) = s := by
  simp [State.setPort, State.port, State.setPorts]

@[simp] theorem State.setPort_time (s : State) (p : Port) (x : PortState) : (s.setPort p x).time = s.time := rfl
@[simp] theorem State.setPort_ring (s : State) (p : Port) (x : PortState) : (s.setPort p x).ring = s.ring := rfl
@[simp] theorem State.setPort_units (s : State) (p : Port) (x : PortState) : (s.setPort p x).units = s.units := rfl
@[simp] theorem State.setPort_book (s : State) (p : Port) (x : PortState) : (s.setPort p x).book = s.book := rfl
@[simp] theorem State.setPort_artworks (s : State) (p : Port) (x : PortState) : (s.setPort p x).artworks = s.artworks := rfl
@[simp] theorem State.setPort_load (s : State) (p : Port) (x : PortState) : (s.setPort p x).load = s.load := rfl
@[simp] theorem State.setPort_pretreat (s : State) (p : Port) (x : PortState) : (s.setPort p x).pretreat = s.pretreat := rfl
@[simp] theorem State.setPort_bar (s : State) (p : Port) (x : PortState) : (s.setPort p x).bar = s.bar := rfl
@[simp] theorem State.setPort_print (s : State) (p : Port) (x : PortState) : (s.setPort p x).print = s.print := rfl
@[simp] theorem State.setPort_tunnel (s : State) (p : Port) (x : PortState) : (s.setPort p x).tunnel = s.tunnel := rfl
@[simp] theorem State.setPort_pack (s : State) (p : Port) (x : PortState) : (s.setPort p x).pack = s.pack := rfl
@[simp] theorem State.setPort_pending (s : State) (p : Port) (x : PortState) : (s.setPort p x).pending = s.pending := rfl

@[simp] theorem State.send_time (s : State) (p : Port) (f : Frame) : (s.send p f).time = s.time := rfl
@[simp] theorem State.send_ring (s : State) (p : Port) (f : Frame) : (s.send p f).ring = s.ring := rfl
@[simp] theorem State.send_units (s : State) (p : Port) (f : Frame) : (s.send p f).units = s.units := rfl
@[simp] theorem State.send_book (s : State) (p : Port) (f : Frame) : (s.send p f).book = s.book := rfl
@[simp] theorem State.send_artworks (s : State) (p : Port) (f : Frame) : (s.send p f).artworks = s.artworks := rfl
@[simp] theorem State.send_load (s : State) (p : Port) (f : Frame) : (s.send p f).load = s.load := rfl
@[simp] theorem State.send_pretreat (s : State) (p : Port) (f : Frame) : (s.send p f).pretreat = s.pretreat := rfl
@[simp] theorem State.send_bar (s : State) (p : Port) (f : Frame) : (s.send p f).bar = s.bar := rfl
@[simp] theorem State.send_print (s : State) (p : Port) (f : Frame) : (s.send p f).print = s.print := rfl
@[simp] theorem State.send_tunnel (s : State) (p : Port) (f : Frame) : (s.send p f).tunnel = s.tunnel := rfl
@[simp] theorem State.send_pack (s : State) (p : Port) (f : Frame) : (s.send p f).pack = s.pack := rfl
@[simp] theorem State.send_pending (s : State) (p : Port) (f : Frame) : (s.send p f).pending = s.pending := rfl

@[simp] theorem post_time (p : Port) (n : Notice) (s : State) : (post p n s).time = s.time := rfl
@[simp] theorem post_ring (p : Port) (n : Notice) (s : State) : (post p n s).ring = s.ring := rfl
@[simp] theorem post_units (p : Port) (n : Notice) (s : State) : (post p n s).units = s.units := rfl
@[simp] theorem post_book (p : Port) (n : Notice) (s : State) : (post p n s).book = s.book := rfl
@[simp] theorem post_artworks (p : Port) (n : Notice) (s : State) : (post p n s).artworks = s.artworks := rfl
@[simp] theorem post_load (p : Port) (n : Notice) (s : State) : (post p n s).load = s.load := rfl
@[simp] theorem post_pretreat (p : Port) (n : Notice) (s : State) : (post p n s).pretreat = s.pretreat := rfl
@[simp] theorem post_bar (p : Port) (n : Notice) (s : State) : (post p n s).bar = s.bar := rfl
@[simp] theorem post_print (p : Port) (n : Notice) (s : State) : (post p n s).print = s.print := rfl
@[simp] theorem post_tunnel (p : Port) (n : Notice) (s : State) : (post p n s).tunnel = s.tunnel := rfl
@[simp] theorem post_pack (p : Port) (n : Notice) (s : State) : (post p n s).pack = s.pack := rfl
@[simp] theorem post_pending (p : Port) (n : Notice) (s : State) : (post p n s).pending = s.pending := rfl

/-- Posting a notice touches the named port's queue and OVERRUN flag alone (R176). -/
theorem post_port (p q : Port) (n : Notice) (s : State) :
    (post p n s).port q =
      if q = p then
        if (s.port p).notices.length < 16 then
          { s.port p with notices := (s.port p).notices ++ [{ notice := n, stamp := s.time.now }] }
        else { s.port p with overrun := true }
      else s.port q := by
  by_cases h : q = p
  · subst h; simp only [post, State.port_setPort_same, PortState.join, if_true]; rfl
  · simp [post, h, State.port_setPort_ne]

/-! ### The ring -/

@[simp] theorem releaseHold_time (w : Holder) (s : State) : (releaseHold w s).time = s.time := rfl
@[simp] theorem releaseHold_units (w : Holder) (s : State) : (releaseHold w s).units = s.units := rfl
@[simp] theorem releaseHold_book (w : Holder) (s : State) : (releaseHold w s).book = s.book := rfl
@[simp] theorem releaseHold_artworks (w : Holder) (s : State) : (releaseHold w s).artworks = s.artworks := rfl
@[simp] theorem releaseHold_load (w : Holder) (s : State) : (releaseHold w s).load = s.load := rfl
@[simp] theorem releaseHold_pretreat (w : Holder) (s : State) : (releaseHold w s).pretreat = s.pretreat := rfl
@[simp] theorem releaseHold_bar (w : Holder) (s : State) : (releaseHold w s).bar = s.bar := rfl
@[simp] theorem releaseHold_print (w : Holder) (s : State) : (releaseHold w s).print = s.print := rfl
@[simp] theorem releaseHold_tunnel (w : Holder) (s : State) : (releaseHold w s).tunnel = s.tunnel := rfl
@[simp] theorem releaseHold_pack (w : Holder) (s : State) : (releaseHold w s).pack = s.pack := rfl
@[simp] theorem releaseHold_ports (w : Holder) (s : State) : (releaseHold w s).ports = s.ports := rfl
@[simp] theorem releaseHold_pending (w : Holder) (s : State) : (releaseHold w s).pending = s.pending := rfl

@[simp] theorem takeArrival_time (w : Holder) (s : State) : (takeArrival w s).time = s.time := rfl
@[simp] theorem takeArrival_units (w : Holder) (s : State) : (takeArrival w s).units = s.units := rfl
@[simp] theorem takeArrival_book (w : Holder) (s : State) : (takeArrival w s).book = s.book := rfl
@[simp] theorem takeArrival_artworks (w : Holder) (s : State) : (takeArrival w s).artworks = s.artworks := rfl
@[simp] theorem takeArrival_load (w : Holder) (s : State) : (takeArrival w s).load = s.load := rfl
@[simp] theorem takeArrival_pretreat (w : Holder) (s : State) : (takeArrival w s).pretreat = s.pretreat := rfl
@[simp] theorem takeArrival_bar (w : Holder) (s : State) : (takeArrival w s).bar = s.bar := rfl
@[simp] theorem takeArrival_print (w : Holder) (s : State) : (takeArrival w s).print = s.print := rfl
@[simp] theorem takeArrival_tunnel (w : Holder) (s : State) : (takeArrival w s).tunnel = s.tunnel := rfl
@[simp] theorem takeArrival_pack (w : Holder) (s : State) : (takeArrival w s).pack = s.pack := rfl
@[simp] theorem takeArrival_ports (w : Holder) (s : State) : (takeArrival w s).ports = s.ports := rfl
@[simp] theorem takeArrival_pending (w : Holder) (s : State) : (takeArrival w s).pending = s.pending := rfl

@[simp] theorem setPlatenUnit_time (p : PlatenNo) (u : Option UnitNo) (s : State) : (setPlatenUnit p u s).time = s.time := rfl
@[simp] theorem setPlatenUnit_units (p : PlatenNo) (u : Option UnitNo) (s : State) : (setPlatenUnit p u s).units = s.units := rfl
@[simp] theorem setPlatenUnit_book (p : PlatenNo) (u : Option UnitNo) (s : State) : (setPlatenUnit p u s).book = s.book := rfl
@[simp] theorem setPlatenUnit_artworks (p : PlatenNo) (u : Option UnitNo) (s : State) : (setPlatenUnit p u s).artworks = s.artworks := rfl
@[simp] theorem setPlatenUnit_load (p : PlatenNo) (u : Option UnitNo) (s : State) : (setPlatenUnit p u s).load = s.load := rfl
@[simp] theorem setPlatenUnit_pretreat (p : PlatenNo) (u : Option UnitNo) (s : State) : (setPlatenUnit p u s).pretreat = s.pretreat := rfl
@[simp] theorem setPlatenUnit_bar (p : PlatenNo) (u : Option UnitNo) (s : State) : (setPlatenUnit p u s).bar = s.bar := rfl
@[simp] theorem setPlatenUnit_print (p : PlatenNo) (u : Option UnitNo) (s : State) : (setPlatenUnit p u s).print = s.print := rfl
@[simp] theorem setPlatenUnit_tunnel (p : PlatenNo) (u : Option UnitNo) (s : State) : (setPlatenUnit p u s).tunnel = s.tunnel := rfl
@[simp] theorem setPlatenUnit_pack (p : PlatenNo) (u : Option UnitNo) (s : State) : (setPlatenUnit p u s).pack = s.pack := rfl
@[simp] theorem setPlatenUnit_ports (p : PlatenNo) (u : Option UnitNo) (s : State) : (setPlatenUnit p u s).ports = s.ports := rfl
@[simp] theorem setPlatenUnit_pending (p : PlatenNo) (u : Option UnitNo) (s : State) : (setPlatenUnit p u s).pending = s.pending := rfl

@[simp] theorem Holds.get_put_same (h : Holds) (w : Holder) (b : Bool) : (h.put w b).get w = b := by cases w <;> rfl

theorem Holds.get_put_ne (h : Holds) {w v : Holder} (b : Bool) (e : v ≠ w) : (h.put w b).get v = h.get v := by
  cases w <;> cases v <;> first | rfl | exact absurd rfl e

/-- Everything a release can do to the ring (R4, R8): nothing, the hold alone, or the hold with the grant. -/
theorem Ring.release_cases (r : Ring) (w : Holder) :
    (r.holds.get w = false ∧ r.release w = r)
      ∨ (r.holds.get w = true ∧ r.release w = { r with holds := r.holds.put w false }
          ∧ ¬ ((r.holds.put w false).allClear = true ∧ r.pendingIndex = true ∧ r.state = .still))
      ∨ (r.holds.get w = true ∧ (r.holds.put w false).allClear = true ∧ r.pendingIndex = true ∧ r.state = .still
          ∧ r.release w = { r with
              holds := r.holds.put w false, pendingIndex := false, indexGrant := true, state := .moving }) := by
  unfold Ring.release
  cases h : r.holds.get w
  · simp
  · simp only [if_true]
    by_cases c : (r.holds.put w false).allClear = true ∧ r.pendingIndex = true ∧ r.state = .still
    · right; right
      simp [c, Ring.grant]
    · right; left
      refine ⟨trivial, ?_, c⟩
      rw [if_neg]
      simpa [and_assoc] using c

@[simp] theorem Ring.release_platens (r : Ring) (w : Holder) : (r.release w).platens = r.platens := by
  rcases r.release_cases w with ⟨_, h⟩ | ⟨_, h, _⟩ | ⟨_, _, _, _, h⟩ <;> rw [h]

@[simp] theorem Ring.release_arrivals (r : Ring) (w : Holder) : (r.release w).arrivals = r.arrivals := by
  rcases r.release_cases w with ⟨_, h⟩ | ⟨_, h, _⟩ | ⟨_, _, _, _, h⟩ <;> rw [h]

@[simp] theorem Ring.release_hold (r : Ring) (w : Holder) : (r.release w).holds.get w = false := by
  rcases r.release_cases w with ⟨h', h⟩ | ⟨_, h, _⟩ | ⟨_, _, _, _, h⟩ <;> rw [h] <;> simp [*]

@[simp] theorem releaseHold_ring (w : Holder) (s : State) : (releaseHold w s).ring = s.ring.release w := rfl

/-! ### Unit records -/

@[simp] theorem putShirt_time (u : UnitNo) (x : Option Shirt) (s : State) : (putShirt u x s).time = s.time := rfl
@[simp] theorem putShirt_ring (u : UnitNo) (x : Option Shirt) (s : State) : (putShirt u x s).ring = s.ring := rfl
@[simp] theorem putShirt_book (u : UnitNo) (x : Option Shirt) (s : State) : (putShirt u x s).book = s.book := rfl
@[simp] theorem putShirt_artworks (u : UnitNo) (x : Option Shirt) (s : State) : (putShirt u x s).artworks = s.artworks := rfl
@[simp] theorem putShirt_load (u : UnitNo) (x : Option Shirt) (s : State) : (putShirt u x s).load = s.load := rfl
@[simp] theorem putShirt_pretreat (u : UnitNo) (x : Option Shirt) (s : State) : (putShirt u x s).pretreat = s.pretreat := rfl
@[simp] theorem putShirt_bar (u : UnitNo) (x : Option Shirt) (s : State) : (putShirt u x s).bar = s.bar := rfl
@[simp] theorem putShirt_print (u : UnitNo) (x : Option Shirt) (s : State) : (putShirt u x s).print = s.print := rfl
@[simp] theorem putShirt_tunnel (u : UnitNo) (x : Option Shirt) (s : State) : (putShirt u x s).tunnel = s.tunnel := rfl
@[simp] theorem putShirt_pack (u : UnitNo) (x : Option Shirt) (s : State) : (putShirt u x s).pack = s.pack := rfl
@[simp] theorem putShirt_ports (u : UnitNo) (x : Option Shirt) (s : State) : (putShirt u x s).ports = s.ports := rfl
@[simp] theorem putShirt_pending (u : UnitNo) (x : Option Shirt) (s : State) : (putShirt u x s).pending = s.pending := rfl

@[simp] theorem clearUnit_time (u : UnitNo) (s : State) : (clearUnit u s).time = s.time := rfl
@[simp] theorem clearUnit_ring (u : UnitNo) (s : State) : (clearUnit u s).ring = s.ring := rfl
@[simp] theorem clearUnit_book (u : UnitNo) (s : State) : (clearUnit u s).book = s.book := rfl
@[simp] theorem clearUnit_artworks (u : UnitNo) (s : State) : (clearUnit u s).artworks = s.artworks := rfl
@[simp] theorem clearUnit_load (u : UnitNo) (s : State) : (clearUnit u s).load = s.load := rfl
@[simp] theorem clearUnit_pretreat (u : UnitNo) (s : State) : (clearUnit u s).pretreat = s.pretreat := rfl
@[simp] theorem clearUnit_bar (u : UnitNo) (s : State) : (clearUnit u s).bar = s.bar := rfl
@[simp] theorem clearUnit_print (u : UnitNo) (s : State) : (clearUnit u s).print = s.print := rfl
@[simp] theorem clearUnit_tunnel (u : UnitNo) (s : State) : (clearUnit u s).tunnel = s.tunnel := rfl
@[simp] theorem clearUnit_pack (u : UnitNo) (s : State) : (clearUnit u s).pack = s.pack := rfl
@[simp] theorem clearUnit_ports (u : UnitNo) (s : State) : (clearUnit u s).ports = s.ports := rfl
@[simp] theorem clearUnit_pending (u : UnitNo) (s : State) : (clearUnit u s).pending = s.pending := rfl

@[simp] theorem modifyShirt_time (u : UnitNo) (f : Shirt → Shirt) (s : State) : (modifyShirt u f s).time = s.time := by
  unfold modifyShirt; split <;> rfl
@[simp] theorem modifyShirt_ring (u : UnitNo) (f : Shirt → Shirt) (s : State) : (modifyShirt u f s).ring = s.ring := by
  unfold modifyShirt; split <;> rfl
@[simp] theorem modifyShirt_book (u : UnitNo) (f : Shirt → Shirt) (s : State) : (modifyShirt u f s).book = s.book := by
  unfold modifyShirt; split <;> rfl
@[simp] theorem modifyShirt_artworks (u : UnitNo) (f : Shirt → Shirt) (s : State) : (modifyShirt u f s).artworks = s.artworks := by
  unfold modifyShirt; split <;> rfl
@[simp] theorem modifyShirt_load (u : UnitNo) (f : Shirt → Shirt) (s : State) : (modifyShirt u f s).load = s.load := by
  unfold modifyShirt; split <;> rfl
@[simp] theorem modifyShirt_pretreat (u : UnitNo) (f : Shirt → Shirt) (s : State) : (modifyShirt u f s).pretreat = s.pretreat := by
  unfold modifyShirt; split <;> rfl
@[simp] theorem modifyShirt_bar (u : UnitNo) (f : Shirt → Shirt) (s : State) : (modifyShirt u f s).bar = s.bar := by
  unfold modifyShirt; split <;> rfl
@[simp] theorem modifyShirt_print (u : UnitNo) (f : Shirt → Shirt) (s : State) : (modifyShirt u f s).print = s.print := by
  unfold modifyShirt; split <;> rfl
@[simp] theorem modifyShirt_tunnel (u : UnitNo) (f : Shirt → Shirt) (s : State) : (modifyShirt u f s).tunnel = s.tunnel := by
  unfold modifyShirt; split <;> rfl
@[simp] theorem modifyShirt_pack (u : UnitNo) (f : Shirt → Shirt) (s : State) : (modifyShirt u f s).pack = s.pack := by
  unfold modifyShirt; split <;> rfl
@[simp] theorem modifyShirt_ports (u : UnitNo) (f : Shirt → Shirt) (s : State) : (modifyShirt u f s).ports = s.ports := by
  unfold modifyShirt; split <;> rfl
@[simp] theorem modifyShirt_pending (u : UnitNo) (f : Shirt → Shirt) (s : State) : (modifyShirt u f s).pending = s.pending := by
  unfold modifyShirt; split <;> rfl

@[simp] theorem putShirt_shirt_same (u : UnitNo) (x : Option Shirt) (s : State) : (putShirt u x s).shirt u = x := by
  simp [State.shirt, putShirt]

theorem putShirt_shirt_ne {u v : UnitNo} (x : Option Shirt) (s : State) (h : v ≠ u) :
    (putShirt u x s).shirt v = s.shirt v := by
  simp [State.shirt, putShirt, tget_tset_ne _ _ h]

@[simp] theorem putShirt_generation (u v : UnitNo) (x : Option Shirt) (s : State) :
    (putShirt u x s).generation v = s.generation v := by
  by_cases h : v = u
  · subst h; simp [State.generation, putShirt]
  · simp [State.generation, putShirt, tget_tset_ne _ _ h]

/-- A unit record in use is revised by writing the revised fields. -/
theorem modifyShirt_some {u : UnitNo} {s : State} {x : Shirt} (f : Shirt → Shirt) (h : s.shirt u = some x) :
    modifyShirt u f s = putShirt u (some (f x)) s := by
  simp [modifyShirt, h]

theorem modifyShirt_none {u : UnitNo} {s : State} (f : Shirt → Shirt) (h : s.shirt u = none) :
    modifyShirt u f s = s := by
  simp [modifyShirt, h]

@[simp] theorem modifyShirt_shirt_same (u : UnitNo) (f : Shirt → Shirt) (s : State) :
    (modifyShirt u f s).shirt u = (s.shirt u).map f := by
  cases h : s.shirt u
  · rw [modifyShirt_none f h, h]; rfl
  · rw [modifyShirt_some f h]; simp

theorem modifyShirt_shirt_ne {u v : UnitNo} (f : Shirt → Shirt) (s : State) (h : v ≠ u) :
    (modifyShirt u f s).shirt v = s.shirt v := by
  cases h' : s.shirt u
  · rw [modifyShirt_none f h']
  · rw [modifyShirt_some f h']; exact putShirt_shirt_ne _ _ h

@[simp] theorem modifyShirt_generation (u v : UnitNo) (f : Shirt → Shirt) (s : State) :
    (modifyShirt u f s).generation v = s.generation v := by
  cases h' : s.shirt u
  · rw [modifyShirt_none f h']
  · rw [modifyShirt_some f h']; simp

@[simp] theorem clearUnit_shirt_same (u : UnitNo) (s : State) : (clearUnit u s).shirt u = none := by
  simp [State.shirt, clearUnit]

theorem clearUnit_shirt_ne {u v : UnitNo} (s : State) (h : v ≠ u) : (clearUnit u s).shirt v = s.shirt v := by
  simp [State.shirt, clearUnit, tget_tset_ne _ _ h]

@[simp] theorem clearUnit_generation_same (u : UnitNo) (s : State) :
    (clearUnit u s).generation u = if s.generation u = 1023 then 1 else s.generation u + 1 := by
  simp only [State.generation, clearUnit, nextUnitGeneration, State.setUnits_units, tget_tset_same]; rfl

theorem clearUnit_generation_ne {u v : UnitNo} (s : State) (h : v ≠ u) :
    (clearUnit u s).generation v = s.generation v := by
  simp [State.generation, clearUnit, tget_tset_ne _ _ h]

/-- The tag of a unit reads its record's generation alone. -/
@[simp] theorem putShirt_tagOf (u v : UnitNo) (x : Option Shirt) (s : State) : (putShirt u x s).tagOf v = s.tagOf v := by
  simp [State.tagOf]

@[simp] theorem modifyShirt_tagOf (u v : UnitNo) (f : Shirt → Shirt) (s : State) :
    (modifyShirt u f s).tagOf v = s.tagOf v := by
  simp [State.tagOf]

/-! ### Quiesce -/

/-- Everything a completion event can do (R165): nothing, or QUIESCED with its notice. -/
theorem completeQuiesce_cases (st : Station) (s : State) :
    (s.quiesce st ≠ .quiescing ∧ completeQuiesce st s = s)
      ∨ (s.quiesce st = .quiescing ∧ completeQuiesce st s = post .order (.quiesced st) (setQuiesce st .quiesced s)) := by
  unfold completeQuiesce
  split
  · exact .inr ⟨‹_›, rfl⟩
  · exact .inl ⟨‹_›, rfl⟩

/-! ### The Order Book -/

@[simp] theorem putOrder_time (i : OrderNo) (x : Option Order) (s : State) : (putOrder i x s).time = s.time := rfl
@[simp] theorem putOrder_ring (i : OrderNo) (x : Option Order) (s : State) : (putOrder i x s).ring = s.ring := rfl
@[simp] theorem putOrder_units (i : OrderNo) (x : Option Order) (s : State) : (putOrder i x s).units = s.units := rfl
@[simp] theorem putOrder_artworks (i : OrderNo) (x : Option Order) (s : State) : (putOrder i x s).artworks = s.artworks := rfl
@[simp] theorem putOrder_load (i : OrderNo) (x : Option Order) (s : State) : (putOrder i x s).load = s.load := rfl
@[simp] theorem putOrder_pretreat (i : OrderNo) (x : Option Order) (s : State) : (putOrder i x s).pretreat = s.pretreat := rfl
@[simp] theorem putOrder_bar (i : OrderNo) (x : Option Order) (s : State) : (putOrder i x s).bar = s.bar := rfl
@[simp] theorem putOrder_print (i : OrderNo) (x : Option Order) (s : State) : (putOrder i x s).print = s.print := rfl
@[simp] theorem putOrder_tunnel (i : OrderNo) (x : Option Order) (s : State) : (putOrder i x s).tunnel = s.tunnel := rfl
@[simp] theorem putOrder_pack (i : OrderNo) (x : Option Order) (s : State) : (putOrder i x s).pack = s.pack := rfl
@[simp] theorem putOrder_ports (i : OrderNo) (x : Option Order) (s : State) : (putOrder i x s).ports = s.ports := rfl
@[simp] theorem putOrder_pending (i : OrderNo) (x : Option Order) (s : State) : (putOrder i x s).pending = s.pending := rfl

@[simp] theorem putLine_time (n : LineNo) (x : Option Line) (s : State) : (putLine n x s).time = s.time := rfl
@[simp] theorem putLine_ring (n : LineNo) (x : Option Line) (s : State) : (putLine n x s).ring = s.ring := rfl
@[simp] theorem putLine_units (n : LineNo) (x : Option Line) (s : State) : (putLine n x s).units = s.units := rfl
@[simp] theorem putLine_artworks (n : LineNo) (x : Option Line) (s : State) : (putLine n x s).artworks = s.artworks := rfl
@[simp] theorem putLine_load (n : LineNo) (x : Option Line) (s : State) : (putLine n x s).load = s.load := rfl
@[simp] theorem putLine_pretreat (n : LineNo) (x : Option Line) (s : State) : (putLine n x s).pretreat = s.pretreat := rfl
@[simp] theorem putLine_bar (n : LineNo) (x : Option Line) (s : State) : (putLine n x s).bar = s.bar := rfl
@[simp] theorem putLine_print (n : LineNo) (x : Option Line) (s : State) : (putLine n x s).print = s.print := rfl
@[simp] theorem putLine_tunnel (n : LineNo) (x : Option Line) (s : State) : (putLine n x s).tunnel = s.tunnel := rfl
@[simp] theorem putLine_pack (n : LineNo) (x : Option Line) (s : State) : (putLine n x s).pack = s.pack := rfl
@[simp] theorem putLine_ports (n : LineNo) (x : Option Line) (s : State) : (putLine n x s).ports = s.ports := rfl
@[simp] theorem putLine_pending (n : LineNo) (x : Option Line) (s : State) : (putLine n x s).pending = s.pending := rfl

@[simp] theorem leaveActive_time (i : OrderNo) (s : State) : (leaveActive i s).time = s.time := rfl
@[simp] theorem leaveActive_ring (i : OrderNo) (s : State) : (leaveActive i s).ring = s.ring := rfl
@[simp] theorem leaveActive_units (i : OrderNo) (s : State) : (leaveActive i s).units = s.units := rfl
@[simp] theorem leaveActive_artworks (i : OrderNo) (s : State) : (leaveActive i s).artworks = s.artworks := rfl
@[simp] theorem leaveActive_load (i : OrderNo) (s : State) : (leaveActive i s).load = s.load := rfl
@[simp] theorem leaveActive_pretreat (i : OrderNo) (s : State) : (leaveActive i s).pretreat = s.pretreat := rfl
@[simp] theorem leaveActive_bar (i : OrderNo) (s : State) : (leaveActive i s).bar = s.bar := rfl
@[simp] theorem leaveActive_print (i : OrderNo) (s : State) : (leaveActive i s).print = s.print := rfl
@[simp] theorem leaveActive_tunnel (i : OrderNo) (s : State) : (leaveActive i s).tunnel = s.tunnel := rfl
@[simp] theorem leaveActive_pack (i : OrderNo) (s : State) : (leaveActive i s).pack = s.pack := rfl
@[simp] theorem leaveActive_ports (i : OrderNo) (s : State) : (leaveActive i s).ports = s.ports := rfl
@[simp] theorem leaveActive_pending (i : OrderNo) (s : State) : (leaveActive i s).pending = s.pending := rfl

@[simp] theorem modifyOrder_time (i : OrderNo) (f : Order → Order) (s : State) : (modifyOrder i f s).time = s.time := by
  unfold modifyOrder; split <;> rfl
@[simp] theorem modifyOrder_ring (i : OrderNo) (f : Order → Order) (s : State) : (modifyOrder i f s).ring = s.ring := by
  unfold modifyOrder; split <;> rfl
@[simp] theorem modifyOrder_units (i : OrderNo) (f : Order → Order) (s : State) : (modifyOrder i f s).units = s.units := by
  unfold modifyOrder; split <;> rfl
@[simp] theorem modifyOrder_artworks (i : OrderNo) (f : Order → Order) (s : State) : (modifyOrder i f s).artworks = s.artworks := by
  unfold modifyOrder; split <;> rfl
@[simp] theorem modifyOrder_load (i : OrderNo) (f : Order → Order) (s : State) : (modifyOrder i f s).load = s.load := by
  unfold modifyOrder; split <;> rfl
@[simp] theorem modifyOrder_pretreat (i : OrderNo) (f : Order → Order) (s : State) : (modifyOrder i f s).pretreat = s.pretreat := by
  unfold modifyOrder; split <;> rfl
@[simp] theorem modifyOrder_bar (i : OrderNo) (f : Order → Order) (s : State) : (modifyOrder i f s).bar = s.bar := by
  unfold modifyOrder; split <;> rfl
@[simp] theorem modifyOrder_print (i : OrderNo) (f : Order → Order) (s : State) : (modifyOrder i f s).print = s.print := by
  unfold modifyOrder; split <;> rfl
@[simp] theorem modifyOrder_tunnel (i : OrderNo) (f : Order → Order) (s : State) : (modifyOrder i f s).tunnel = s.tunnel := by
  unfold modifyOrder; split <;> rfl
@[simp] theorem modifyOrder_pack (i : OrderNo) (f : Order → Order) (s : State) : (modifyOrder i f s).pack = s.pack := by
  unfold modifyOrder; split <;> rfl
@[simp] theorem modifyOrder_ports (i : OrderNo) (f : Order → Order) (s : State) : (modifyOrder i f s).ports = s.ports := by
  unfold modifyOrder; split <;> rfl
@[simp] theorem modifyOrder_pending (i : OrderNo) (f : Order → Order) (s : State) : (modifyOrder i f s).pending = s.pending := by
  unfold modifyOrder; split <;> rfl

@[simp] theorem joinActive_time (i : OrderNo) (s : State) : (joinActive i s).time = s.time := by
  unfold joinActive; split <;> rfl
@[simp] theorem joinActive_ring (i : OrderNo) (s : State) : (joinActive i s).ring = s.ring := by
  unfold joinActive; split <;> rfl
@[simp] theorem joinActive_units (i : OrderNo) (s : State) : (joinActive i s).units = s.units := by
  unfold joinActive; split <;> rfl
@[simp] theorem joinActive_artworks (i : OrderNo) (s : State) : (joinActive i s).artworks = s.artworks := by
  unfold joinActive; split <;> rfl
@[simp] theorem joinActive_load (i : OrderNo) (s : State) : (joinActive i s).load = s.load := by
  unfold joinActive; split <;> rfl
@[simp] theorem joinActive_pretreat (i : OrderNo) (s : State) : (joinActive i s).pretreat = s.pretreat := by
  unfold joinActive; split <;> rfl
@[simp] theorem joinActive_bar (i : OrderNo) (s : State) : (joinActive i s).bar = s.bar := by
  unfold joinActive; split <;> rfl
@[simp] theorem joinActive_print (i : OrderNo) (s : State) : (joinActive i s).print = s.print := by
  unfold joinActive; split <;> rfl
@[simp] theorem joinActive_tunnel (i : OrderNo) (s : State) : (joinActive i s).tunnel = s.tunnel := by
  unfold joinActive; split <;> rfl
@[simp] theorem joinActive_pack (i : OrderNo) (s : State) : (joinActive i s).pack = s.pack := by
  unfold joinActive; split <;> rfl
@[simp] theorem joinActive_ports (i : OrderNo) (s : State) : (joinActive i s).ports = s.ports := by
  unfold joinActive; split <;> rfl
@[simp] theorem joinActive_pending (i : OrderNo) (s : State) : (joinActive i s).pending = s.pending := by
  unfold joinActive; split <;> rfl

@[simp] theorem putOrder_order_same (i : OrderNo) (x : Option Order) (s : State) : (putOrder i x s).order i = x := by
  simp [State.order, putOrder]

theorem putOrder_order_ne {i j : OrderNo} (x : Option Order) (s : State) (h : j ≠ i) :
    (putOrder i x s).order j = s.order j := by
  simp [State.order, putOrder, tget_tset_ne _ _ h]

@[simp] theorem putOrder_handleOf (i j : OrderNo) (x : Option Order) (s : State) :
    (putOrder i x s).handleOf j = s.handleOf j := by
  by_cases h : j = i
  · subst h; simp [State.handleOf, putOrder]
  · simp [State.handleOf, putOrder, tget_tset_ne _ _ h]

@[simp] theorem putOrder_line (i : OrderNo) (n : LineNo) (x : Option Order) (s : State) :
    (putOrder i x s).line n = s.line n := rfl

@[simp] theorem putLine_line_same (n : LineNo) (x : Option Line) (s : State) : (putLine n x s).line n = x := by
  simp [State.line, putLine]

theorem putLine_line_ne {n m : LineNo} (x : Option Line) (s : State) (h : m ≠ n) :
    (putLine n x s).line m = s.line m := by
  simp [State.line, putLine, tget_tset_ne _ _ h]

@[simp] theorem putLine_order (n : LineNo) (i : OrderNo) (x : Option Line) (s : State) :
    (putLine n x s).order i = s.order i := rfl

end Sys2Proof.Machine
end

