-- ==== Sys2Proof/Laws/Book.lean ====
section
/-! SUPPORT. The Order Book's shared operations and the freeing of a unit: the blocks each leaves alone, and the
cases of what it does. -/

namespace Sys2Proof.Machine

/-! ### Blocks left alone -/

@[simp] theorem setRefs_time (a : ArtworkNo) (f : Nat → Nat) (s : State) : (setRefs a f s).time = s.time := rfl
@[simp] theorem setRefs_ring (a : ArtworkNo) (f : Nat → Nat) (s : State) : (setRefs a f s).ring = s.ring := rfl
@[simp] theorem setRefs_units (a : ArtworkNo) (f : Nat → Nat) (s : State) : (setRefs a f s).units = s.units := rfl
@[simp] theorem setRefs_book (a : ArtworkNo) (f : Nat → Nat) (s : State) : (setRefs a f s).book = s.book := rfl
@[simp] theorem setRefs_load (a : ArtworkNo) (f : Nat → Nat) (s : State) : (setRefs a f s).load = s.load := rfl
@[simp] theorem setRefs_pretreat (a : ArtworkNo) (f : Nat → Nat) (s : State) : (setRefs a f s).pretreat = s.pretreat := rfl
@[simp] theorem setRefs_bar (a : ArtworkNo) (f : Nat → Nat) (s : State) : (setRefs a f s).bar = s.bar := rfl
@[simp] theorem setRefs_print (a : ArtworkNo) (f : Nat → Nat) (s : State) : (setRefs a f s).print = s.print := rfl
@[simp] theorem setRefs_tunnel (a : ArtworkNo) (f : Nat → Nat) (s : State) : (setRefs a f s).tunnel = s.tunnel := rfl
@[simp] theorem setRefs_pack (a : ArtworkNo) (f : Nat → Nat) (s : State) : (setRefs a f s).pack = s.pack := rfl
@[simp] theorem setRefs_ports (a : ArtworkNo) (f : Nat → Nat) (s : State) : (setRefs a f s).ports = s.ports := rfl
@[simp] theorem setRefs_pending (a : ArtworkNo) (f : Nat → Nat) (s : State) : (setRefs a f s).pending = s.pending := rfl

@[simp] theorem returnLine_time (s : State) (n : LineNo) : (returnLine s n).time = s.time := by
  unfold returnLine; (repeat' split) <;> simp
@[simp] theorem returnLine_ring (s : State) (n : LineNo) : (returnLine s n).ring = s.ring := by
  unfold returnLine; (repeat' split) <;> simp
@[simp] theorem returnLine_units (s : State) (n : LineNo) : (returnLine s n).units = s.units := by
  unfold returnLine; (repeat' split) <;> simp
@[simp] theorem returnLine_load (s : State) (n : LineNo) : (returnLine s n).load = s.load := by
  unfold returnLine; (repeat' split) <;> simp
@[simp] theorem returnLine_pretreat (s : State) (n : LineNo) : (returnLine s n).pretreat = s.pretreat := by
  unfold returnLine; (repeat' split) <;> simp
@[simp] theorem returnLine_bar (s : State) (n : LineNo) : (returnLine s n).bar = s.bar := by
  unfold returnLine; (repeat' split) <;> simp
@[simp] theorem returnLine_print (s : State) (n : LineNo) : (returnLine s n).print = s.print := by
  unfold returnLine; (repeat' split) <;> simp
@[simp] theorem returnLine_tunnel (s : State) (n : LineNo) : (returnLine s n).tunnel = s.tunnel := by
  unfold returnLine; (repeat' split) <;> simp
@[simp] theorem returnLine_pack (s : State) (n : LineNo) : (returnLine s n).pack = s.pack := by
  unfold returnLine; (repeat' split) <;> simp
@[simp] theorem returnLine_ports (s : State) (n : LineNo) : (returnLine s n).ports = s.ports := by
  unfold returnLine; (repeat' split) <;> simp
@[simp] theorem returnLine_pending (s : State) (n : LineNo) : (returnLine s n).pending = s.pending := by
  unfold returnLine; (repeat' split) <;> simp

/-- What a step keeps, a fold of the step keeps. -/
theorem foldl_keeps {α β γ : Type} (get : β → γ) {f : β → α → β} (keep : ∀ b a, get (f b a) = get b) (l : List α) (b : β) :
    get (l.foldl f b) = get b := by
  induction l generalizing b with
  | nil => rfl
  | cons a l ih => rw [List.foldl_cons, ih, keep]

@[simp] theorem returnDescriptor_time (i : OrderNo) (s : State) : (returnDescriptor i s).time = s.time := by
  unfold returnDescriptor; split <;> simp [foldl_keeps State.time returnLine_time]
@[simp] theorem returnDescriptor_ring (i : OrderNo) (s : State) : (returnDescriptor i s).ring = s.ring := by
  unfold returnDescriptor; split <;> simp [foldl_keeps State.ring returnLine_ring]
@[simp] theorem returnDescriptor_units (i : OrderNo) (s : State) : (returnDescriptor i s).units = s.units := by
  unfold returnDescriptor; split <;> simp [foldl_keeps State.units returnLine_units]
@[simp] theorem returnDescriptor_load (i : OrderNo) (s : State) : (returnDescriptor i s).load = s.load := by
  unfold returnDescriptor; split <;> simp [foldl_keeps State.load returnLine_load]
@[simp] theorem returnDescriptor_pretreat (i : OrderNo) (s : State) : (returnDescriptor i s).pretreat = s.pretreat := by
  unfold returnDescriptor; split <;> simp [foldl_keeps State.pretreat returnLine_pretreat]
@[simp] theorem returnDescriptor_bar (i : OrderNo) (s : State) : (returnDescriptor i s).bar = s.bar := by
  unfold returnDescriptor; split <;> simp [foldl_keeps State.bar returnLine_bar]
@[simp] theorem returnDescriptor_print (i : OrderNo) (s : State) : (returnDescriptor i s).print = s.print := by
  unfold returnDescriptor; split <;> simp [foldl_keeps State.print returnLine_print]
@[simp] theorem returnDescriptor_tunnel (i : OrderNo) (s : State) : (returnDescriptor i s).tunnel = s.tunnel := by
  unfold returnDescriptor; split <;> simp [foldl_keeps State.tunnel returnLine_tunnel]
@[simp] theorem returnDescriptor_pack (i : OrderNo) (s : State) : (returnDescriptor i s).pack = s.pack := by
  unfold returnDescriptor; split <;> simp [foldl_keeps State.pack returnLine_pack]
@[simp] theorem returnDescriptor_ports (i : OrderNo) (s : State) : (returnDescriptor i s).ports = s.ports := by
  unfold returnDescriptor; split <;> simp [foldl_keeps State.ports returnLine_ports]
@[simp] theorem returnDescriptor_pending (i : OrderNo) (s : State) : (returnDescriptor i s).pending = s.pending := by
  unfold returnDescriptor; split <;> simp [foldl_keeps State.pending returnLine_pending]

@[simp] theorem freeOrder_time (i : OrderNo) (s : State) (c : FreedCause) : (freeOrder i c s).time = s.time := by
  unfold freeOrder; (repeat' split) <;> simp
@[simp] theorem freeOrder_ring (i : OrderNo) (s : State) (c : FreedCause) : (freeOrder i c s).ring = s.ring := by
  unfold freeOrder; (repeat' split) <;> simp
@[simp] theorem freeOrder_units (i : OrderNo) (s : State) (c : FreedCause) : (freeOrder i c s).units = s.units := by
  unfold freeOrder; (repeat' split) <;> simp
@[simp] theorem freeOrder_load (i : OrderNo) (s : State) (c : FreedCause) : (freeOrder i c s).load = s.load := by
  unfold freeOrder; (repeat' split) <;> simp
@[simp] theorem freeOrder_pretreat (i : OrderNo) (s : State) (c : FreedCause) : (freeOrder i c s).pretreat = s.pretreat := by
  unfold freeOrder; (repeat' split) <;> simp
@[simp] theorem freeOrder_bar (i : OrderNo) (s : State) (c : FreedCause) : (freeOrder i c s).bar = s.bar := by
  unfold freeOrder; (repeat' split) <;> simp
@[simp] theorem freeOrder_print (i : OrderNo) (s : State) (c : FreedCause) : (freeOrder i c s).print = s.print := by
  unfold freeOrder; (repeat' split) <;> simp
@[simp] theorem freeOrder_tunnel (i : OrderNo) (s : State) (c : FreedCause) : (freeOrder i c s).tunnel = s.tunnel := by
  unfold freeOrder; (repeat' split) <;> simp
@[simp] theorem freeOrder_pack (i : OrderNo) (s : State) (c : FreedCause) : (freeOrder i c s).pack = s.pack := by
  unfold freeOrder; (repeat' split) <;> simp
@[simp] theorem freeOrder_pending (i : OrderNo) (s : State) (c : FreedCause) : (freeOrder i c s).pending = s.pending := by
  unfold freeOrder; (repeat' split) <;> simp

@[simp] theorem returnCheck_time (i : OrderNo) (s : State) : (returnCheck i s).time = s.time := by
  unfold returnCheck; (repeat' split) <;> simp
@[simp] theorem returnCheck_ring (i : OrderNo) (s : State) : (returnCheck i s).ring = s.ring := by
  unfold returnCheck; (repeat' split) <;> simp
@[simp] theorem returnCheck_units (i : OrderNo) (s : State) : (returnCheck i s).units = s.units := by
  unfold returnCheck; (repeat' split) <;> simp
@[simp] theorem returnCheck_load (i : OrderNo) (s : State) : (returnCheck i s).load = s.load := by
  unfold returnCheck; (repeat' split) <;> simp
@[simp] theorem returnCheck_pretreat (i : OrderNo) (s : State) : (returnCheck i s).pretreat = s.pretreat := by
  unfold returnCheck; (repeat' split) <;> simp
@[simp] theorem returnCheck_bar (i : OrderNo) (s : State) : (returnCheck i s).bar = s.bar := by
  unfold returnCheck; (repeat' split) <;> simp
@[simp] theorem returnCheck_print (i : OrderNo) (s : State) : (returnCheck i s).print = s.print := by
  unfold returnCheck; (repeat' split) <;> simp
@[simp] theorem returnCheck_tunnel (i : OrderNo) (s : State) : (returnCheck i s).tunnel = s.tunnel := by
  unfold returnCheck; (repeat' split) <;> simp
@[simp] theorem returnCheck_pack (i : OrderNo) (s : State) : (returnCheck i s).pack = s.pack := by
  unfold returnCheck; (repeat' split) <;> simp
@[simp] theorem returnCheck_pending (i : OrderNo) (s : State) : (returnCheck i s).pending = s.pending := by
  unfold returnCheck; (repeat' split) <;> simp

@[simp] theorem scrapLimitCheck_time (i : OrderNo) (q : Fin 8) (b a : Nat) (s : State) : (scrapLimitCheck i q b a s).time = s.time := by
  unfold scrapLimitCheck; (repeat' split) <;> simp
@[simp] theorem scrapLimitCheck_ring (i : OrderNo) (q : Fin 8) (b a : Nat) (s : State) : (scrapLimitCheck i q b a s).ring = s.ring := by
  unfold scrapLimitCheck; (repeat' split) <;> simp
@[simp] theorem scrapLimitCheck_units (i : OrderNo) (q : Fin 8) (b a : Nat) (s : State) : (scrapLimitCheck i q b a s).units = s.units := by
  unfold scrapLimitCheck; (repeat' split) <;> simp
@[simp] theorem scrapLimitCheck_artworks (i : OrderNo) (q : Fin 8) (b a : Nat) (s : State) : (scrapLimitCheck i q b a s).artworks = s.artworks := by
  unfold scrapLimitCheck; (repeat' split) <;> simp
@[simp] theorem scrapLimitCheck_load (i : OrderNo) (q : Fin 8) (b a : Nat) (s : State) : (scrapLimitCheck i q b a s).load = s.load := by
  unfold scrapLimitCheck; (repeat' split) <;> simp
@[simp] theorem scrapLimitCheck_pretreat (i : OrderNo) (q : Fin 8) (b a : Nat) (s : State) : (scrapLimitCheck i q b a s).pretreat = s.pretreat := by
  unfold scrapLimitCheck; (repeat' split) <;> simp
@[simp] theorem scrapLimitCheck_bar (i : OrderNo) (q : Fin 8) (b a : Nat) (s : State) : (scrapLimitCheck i q b a s).bar = s.bar := by
  unfold scrapLimitCheck; (repeat' split) <;> simp
@[simp] theorem scrapLimitCheck_print (i : OrderNo) (q : Fin 8) (b a : Nat) (s : State) : (scrapLimitCheck i q b a s).print = s.print := by
  unfold scrapLimitCheck; (repeat' split) <;> simp
@[simp] theorem scrapLimitCheck_tunnel (i : OrderNo) (q : Fin 8) (b a : Nat) (s : State) : (scrapLimitCheck i q b a s).tunnel = s.tunnel := by
  unfold scrapLimitCheck; (repeat' split) <;> simp
@[simp] theorem scrapLimitCheck_pack (i : OrderNo) (q : Fin 8) (b a : Nat) (s : State) : (scrapLimitCheck i q b a s).pack = s.pack := by
  unfold scrapLimitCheck; (repeat' split) <;> simp
@[simp] theorem scrapLimitCheck_pending (i : OrderNo) (q : Fin 8) (b a : Nat) (s : State) : (scrapLimitCheck i q b a s).pending = s.pending := by
  unfold scrapLimitCheck; (repeat' split) <;> simp

@[simp] theorem completionCheck_time (i : OrderNo) (s : State) : (completionCheck i s).time = s.time := by
  unfold completionCheck; (repeat' split) <;> simp
@[simp] theorem completionCheck_ring (i : OrderNo) (s : State) : (completionCheck i s).ring = s.ring := by
  unfold completionCheck; (repeat' split) <;> simp
@[simp] theorem completionCheck_units (i : OrderNo) (s : State) : (completionCheck i s).units = s.units := by
  unfold completionCheck; (repeat' split) <;> simp
@[simp] theorem completionCheck_artworks (i : OrderNo) (s : State) : (completionCheck i s).artworks = s.artworks := by
  unfold completionCheck; (repeat' split) <;> simp
@[simp] theorem completionCheck_load (i : OrderNo) (s : State) : (completionCheck i s).load = s.load := by
  unfold completionCheck; (repeat' split) <;> simp
@[simp] theorem completionCheck_pretreat (i : OrderNo) (s : State) : (completionCheck i s).pretreat = s.pretreat := by
  unfold completionCheck; (repeat' split) <;> simp
@[simp] theorem completionCheck_bar (i : OrderNo) (s : State) : (completionCheck i s).bar = s.bar := by
  unfold completionCheck; (repeat' split) <;> simp
@[simp] theorem completionCheck_print (i : OrderNo) (s : State) : (completionCheck i s).print = s.print := by
  unfold completionCheck; (repeat' split) <;> simp
@[simp] theorem completionCheck_tunnel (i : OrderNo) (s : State) : (completionCheck i s).tunnel = s.tunnel := by
  unfold completionCheck; (repeat' split) <;> simp
@[simp] theorem completionCheck_pack (i : OrderNo) (s : State) : (completionCheck i s).pack = s.pack := by
  unfold completionCheck; (repeat' split) <;> simp
@[simp] theorem completionCheck_pending (i : OrderNo) (s : State) : (completionCheck i s).pending = s.pending := by
  unfold completionCheck; (repeat' split) <;> simp

@[simp] theorem afterAdjust_time (i : OrderNo) (q : Fin 8) (d : Disposition) (b a : Line) (s : State) : (afterAdjust i q d b a s).time = s.time := by
  unfold afterAdjust; (repeat' split) <;> simp
@[simp] theorem afterAdjust_ring (i : OrderNo) (q : Fin 8) (d : Disposition) (b a : Line) (s : State) : (afterAdjust i q d b a s).ring = s.ring := by
  unfold afterAdjust; (repeat' split) <;> simp
@[simp] theorem afterAdjust_units (i : OrderNo) (q : Fin 8) (d : Disposition) (b a : Line) (s : State) : (afterAdjust i q d b a s).units = s.units := by
  unfold afterAdjust; (repeat' split) <;> simp
@[simp] theorem afterAdjust_load (i : OrderNo) (q : Fin 8) (d : Disposition) (b a : Line) (s : State) : (afterAdjust i q d b a s).load = s.load := by
  unfold afterAdjust; (repeat' split) <;> simp
@[simp] theorem afterAdjust_pretreat (i : OrderNo) (q : Fin 8) (d : Disposition) (b a : Line) (s : State) : (afterAdjust i q d b a s).pretreat = s.pretreat := by
  unfold afterAdjust; (repeat' split) <;> simp
@[simp] theorem afterAdjust_bar (i : OrderNo) (q : Fin 8) (d : Disposition) (b a : Line) (s : State) : (afterAdjust i q d b a s).bar = s.bar := by
  unfold afterAdjust; (repeat' split) <;> simp
@[simp] theorem afterAdjust_print (i : OrderNo) (q : Fin 8) (d : Disposition) (b a : Line) (s : State) : (afterAdjust i q d b a s).print = s.print := by
  unfold afterAdjust; (repeat' split) <;> simp
@[simp] theorem afterAdjust_tunnel (i : OrderNo) (q : Fin 8) (d : Disposition) (b a : Line) (s : State) : (afterAdjust i q d b a s).tunnel = s.tunnel := by
  unfold afterAdjust; (repeat' split) <;> simp
@[simp] theorem afterAdjust_pack (i : OrderNo) (q : Fin 8) (d : Disposition) (b a : Line) (s : State) : (afterAdjust i q d b a s).pack = s.pack := by
  unfold afterAdjust; (repeat' split) <;> simp
@[simp] theorem afterAdjust_pending (i : OrderNo) (q : Fin 8) (d : Disposition) (b a : Line) (s : State) : (afterAdjust i q d b a s).pending = s.pending := by
  unfold afterAdjust; (repeat' split) <;> simp

@[simp] theorem bookFreed_time (h : Handle) (q : Fin 8) (d : Disposition) (s : State) : (bookFreed h q d s).time = s.time := by
  unfold bookFreed; (repeat' split) <;> simp
@[simp] theorem bookFreed_ring (h : Handle) (q : Fin 8) (d : Disposition) (s : State) : (bookFreed h q d s).ring = s.ring := by
  unfold bookFreed; (repeat' split) <;> simp
@[simp] theorem bookFreed_units (h : Handle) (q : Fin 8) (d : Disposition) (s : State) : (bookFreed h q d s).units = s.units := by
  unfold bookFreed; (repeat' split) <;> simp
@[simp] theorem bookFreed_load (h : Handle) (q : Fin 8) (d : Disposition) (s : State) : (bookFreed h q d s).load = s.load := by
  unfold bookFreed; (repeat' split) <;> simp
@[simp] theorem bookFreed_pretreat (h : Handle) (q : Fin 8) (d : Disposition) (s : State) : (bookFreed h q d s).pretreat = s.pretreat := by
  unfold bookFreed; (repeat' split) <;> simp
@[simp] theorem bookFreed_bar (h : Handle) (q : Fin 8) (d : Disposition) (s : State) : (bookFreed h q d s).bar = s.bar := by
  unfold bookFreed; (repeat' split) <;> simp
@[simp] theorem bookFreed_print (h : Handle) (q : Fin 8) (d : Disposition) (s : State) : (bookFreed h q d s).print = s.print := by
  unfold bookFreed; (repeat' split) <;> simp
@[simp] theorem bookFreed_tunnel (h : Handle) (q : Fin 8) (d : Disposition) (s : State) : (bookFreed h q d s).tunnel = s.tunnel := by
  unfold bookFreed; (repeat' split) <;> simp
@[simp] theorem bookFreed_pack (h : Handle) (q : Fin 8) (d : Disposition) (s : State) : (bookFreed h q d s).pack = s.pack := by
  unfold bookFreed; (repeat' split) <;> simp
@[simp] theorem bookFreed_pending (h : Handle) (q : Fin 8) (d : Disposition) (s : State) : (bookFreed h q d s).pending = s.pending := by
  unfold bookFreed; (repeat' split) <;> simp

@[simp] theorem retest_time (s : State) : (retest s).time = s.time := by
  unfold retest; (repeat' split) <;> simp
@[simp] theorem retest_ring (s : State) : (retest s).ring = s.ring := by
  unfold retest; (repeat' split) <;> simp
@[simp] theorem retest_units (s : State) : (retest s).units = s.units := by
  unfold retest; (repeat' split) <;> simp
@[simp] theorem retest_book (s : State) : (retest s).book = s.book := by
  unfold retest; (repeat' split) <;> simp
@[simp] theorem retest_artworks (s : State) : (retest s).artworks = s.artworks := by
  unfold retest; (repeat' split) <;> simp
@[simp] theorem retest_load (s : State) : (retest s).load = s.load := by
  unfold retest; (repeat' split) <;> simp
@[simp] theorem retest_pretreat (s : State) : (retest s).pretreat = s.pretreat := by
  unfold retest; (repeat' split) <;> simp
@[simp] theorem retest_bar (s : State) : (retest s).bar = s.bar := by
  unfold retest; (repeat' split) <;> simp
@[simp] theorem retest_print (s : State) : (retest s).print = s.print := by
  unfold retest; (repeat' split) <;> simp
@[simp] theorem retest_pack (s : State) : (retest s).pack = s.pack := by
  unfold retest; (repeat' split) <;> simp
@[simp] theorem retest_ports (s : State) : (retest s).ports = s.ports := by
  unfold retest; (repeat' split) <;> simp
@[simp] theorem retest_pending (s : State) : (retest s).pending = s.pending := by
  unfold retest; (repeat' split) <;> simp

@[simp] theorem completeTunnelQuiesce_time (s : State) : (completeQuiesce .tunnel s).time = s.time := by
  unfold completeQuiesce; split <;> simp [setQuiesce]
@[simp] theorem completeTunnelQuiesce_ring (s : State) : (completeQuiesce .tunnel s).ring = s.ring := by
  unfold completeQuiesce; split <;> simp [setQuiesce]
@[simp] theorem completeTunnelQuiesce_units (s : State) : (completeQuiesce .tunnel s).units = s.units := by
  unfold completeQuiesce; split <;> simp [setQuiesce]
@[simp] theorem completeTunnelQuiesce_book (s : State) : (completeQuiesce .tunnel s).book = s.book := by
  unfold completeQuiesce; split <;> simp [setQuiesce]
@[simp] theorem completeTunnelQuiesce_artworks (s : State) : (completeQuiesce .tunnel s).artworks = s.artworks := by
  unfold completeQuiesce; split <;> simp [setQuiesce]
@[simp] theorem completeTunnelQuiesce_load (s : State) : (completeQuiesce .tunnel s).load = s.load := by
  unfold completeQuiesce; split <;> simp [setQuiesce]
@[simp] theorem completeTunnelQuiesce_pretreat (s : State) : (completeQuiesce .tunnel s).pretreat = s.pretreat := by
  unfold completeQuiesce; split <;> simp [setQuiesce]
@[simp] theorem completeTunnelQuiesce_bar (s : State) : (completeQuiesce .tunnel s).bar = s.bar := by
  unfold completeQuiesce; split <;> simp [setQuiesce]
@[simp] theorem completeTunnelQuiesce_print (s : State) : (completeQuiesce .tunnel s).print = s.print := by
  unfold completeQuiesce; split <;> simp [setQuiesce]
@[simp] theorem completeTunnelQuiesce_pack (s : State) : (completeQuiesce .tunnel s).pack = s.pack := by
  unfold completeQuiesce; split <;> simp [setQuiesce]
@[simp] theorem completeTunnelQuiesce_pending (s : State) : (completeQuiesce .tunnel s).pending = s.pending := by
  unfold completeQuiesce; split <;> simp [setQuiesce]

@[simp] theorem leaveQueue_time (u : UnitNo) (s : State) : (leaveQueue u s).time = s.time := by
  unfold leaveQueue; split
  · rw [retest_time]; split <;> simp
  · rfl
@[simp] theorem leaveQueue_ring (u : UnitNo) (s : State) : (leaveQueue u s).ring = s.ring := by
  unfold leaveQueue; split
  · rw [retest_ring]; split <;> simp
  · rfl
@[simp] theorem leaveQueue_units (u : UnitNo) (s : State) : (leaveQueue u s).units = s.units := by
  unfold leaveQueue; split
  · rw [retest_units]; split <;> simp
  · rfl
@[simp] theorem leaveQueue_book (u : UnitNo) (s : State) : (leaveQueue u s).book = s.book := by
  unfold leaveQueue; split
  · rw [retest_book]; split <;> simp
  · rfl
@[simp] theorem leaveQueue_artworks (u : UnitNo) (s : State) : (leaveQueue u s).artworks = s.artworks := by
  unfold leaveQueue; split
  · rw [retest_artworks]; split <;> simp
  · rfl
@[simp] theorem leaveQueue_load (u : UnitNo) (s : State) : (leaveQueue u s).load = s.load := by
  unfold leaveQueue; split
  · rw [retest_load]; split <;> simp
  · rfl
@[simp] theorem leaveQueue_pretreat (u : UnitNo) (s : State) : (leaveQueue u s).pretreat = s.pretreat := by
  unfold leaveQueue; split
  · rw [retest_pretreat]; split <;> simp
  · rfl
@[simp] theorem leaveQueue_bar (u : UnitNo) (s : State) : (leaveQueue u s).bar = s.bar := by
  unfold leaveQueue; split
  · rw [retest_bar]; split <;> simp
  · rfl
@[simp] theorem leaveQueue_print (u : UnitNo) (s : State) : (leaveQueue u s).print = s.print := by
  unfold leaveQueue; split
  · rw [retest_print]; split <;> simp
  · rfl
@[simp] theorem leaveQueue_pack (u : UnitNo) (s : State) : (leaveQueue u s).pack = s.pack := by
  unfold leaveQueue; split
  · rw [retest_pack]; split <;> simp
  · rfl
@[simp] theorem leaveQueue_pending (u : UnitNo) (s : State) : (leaveQueue u s).pending = s.pending := by
  unfold leaveQueue; split
  · rw [retest_pending]; split <;> simp
  · rfl

@[simp] theorem joinQueue_time (u : UnitNo) (s : State) : (joinQueue u s).time = s.time := by
  simp [joinQueue]
@[simp] theorem joinQueue_ring (u : UnitNo) (s : State) : (joinQueue u s).ring = s.ring := by
  simp [joinQueue]
@[simp] theorem joinQueue_units (u : UnitNo) (s : State) : (joinQueue u s).units = s.units := by
  simp [joinQueue]
@[simp] theorem joinQueue_book (u : UnitNo) (s : State) : (joinQueue u s).book = s.book := by
  simp [joinQueue]
@[simp] theorem joinQueue_artworks (u : UnitNo) (s : State) : (joinQueue u s).artworks = s.artworks := by
  simp [joinQueue]
@[simp] theorem joinQueue_load (u : UnitNo) (s : State) : (joinQueue u s).load = s.load := by
  simp [joinQueue]
@[simp] theorem joinQueue_pretreat (u : UnitNo) (s : State) : (joinQueue u s).pretreat = s.pretreat := by
  simp [joinQueue]
@[simp] theorem joinQueue_bar (u : UnitNo) (s : State) : (joinQueue u s).bar = s.bar := by
  simp [joinQueue]
@[simp] theorem joinQueue_print (u : UnitNo) (s : State) : (joinQueue u s).print = s.print := by
  simp [joinQueue]
@[simp] theorem joinQueue_pack (u : UnitNo) (s : State) : (joinQueue u s).pack = s.pack := by
  simp [joinQueue]
@[simp] theorem joinQueue_ports (u : UnitNo) (s : State) : (joinQueue u s).ports = s.ports := by
  simp [joinQueue]
@[simp] theorem joinQueue_pending (u : UnitNo) (s : State) : (joinQueue u s).pending = s.pending := by
  simp [joinQueue]

@[simp] theorem leaveExits_time (u : UnitNo) (s : State) : (leaveExits u s).time = s.time := by
  unfold leaveExits; (repeat' split) <;> simp
@[simp] theorem leaveExits_ring (u : UnitNo) (s : State) : (leaveExits u s).ring = s.ring := by
  unfold leaveExits; (repeat' split) <;> simp
@[simp] theorem leaveExits_units (u : UnitNo) (s : State) : (leaveExits u s).units = s.units := by
  unfold leaveExits; (repeat' split) <;> simp
@[simp] theorem leaveExits_book (u : UnitNo) (s : State) : (leaveExits u s).book = s.book := by
  unfold leaveExits; (repeat' split) <;> simp
@[simp] theorem leaveExits_artworks (u : UnitNo) (s : State) : (leaveExits u s).artworks = s.artworks := by
  unfold leaveExits; (repeat' split) <;> simp
@[simp] theorem leaveExits_load (u : UnitNo) (s : State) : (leaveExits u s).load = s.load := by
  unfold leaveExits; (repeat' split) <;> simp
@[simp] theorem leaveExits_pretreat (u : UnitNo) (s : State) : (leaveExits u s).pretreat = s.pretreat := by
  unfold leaveExits; (repeat' split) <;> simp
@[simp] theorem leaveExits_bar (u : UnitNo) (s : State) : (leaveExits u s).bar = s.bar := by
  unfold leaveExits; (repeat' split) <;> simp
@[simp] theorem leaveExits_print (u : UnitNo) (s : State) : (leaveExits u s).print = s.print := by
  unfold leaveExits; (repeat' split) <;> simp
@[simp] theorem leaveExits_ports (u : UnitNo) (s : State) : (leaveExits u s).ports = s.ports := by
  unfold leaveExits; (repeat' split) <;> simp
@[simp] theorem leaveExits_pending (u : UnitNo) (s : State) : (leaveExits u s).pending = s.pending := by
  unfold leaveExits; (repeat' split) <;> simp

@[simp] theorem joinExits_time (u : UnitNo) (s : State) : (joinExits u s).time = s.time := by
  simp [joinExits, setUnitState]
@[simp] theorem joinExits_ring (u : UnitNo) (s : State) : (joinExits u s).ring = s.ring := by
  simp [joinExits, setUnitState]
@[simp] theorem joinExits_book (u : UnitNo) (s : State) : (joinExits u s).book = s.book := by
  simp [joinExits, setUnitState]
@[simp] theorem joinExits_artworks (u : UnitNo) (s : State) : (joinExits u s).artworks = s.artworks := by
  simp [joinExits, setUnitState]
@[simp] theorem joinExits_load (u : UnitNo) (s : State) : (joinExits u s).load = s.load := by
  simp [joinExits, setUnitState]
@[simp] theorem joinExits_pretreat (u : UnitNo) (s : State) : (joinExits u s).pretreat = s.pretreat := by
  simp [joinExits, setUnitState]
@[simp] theorem joinExits_bar (u : UnitNo) (s : State) : (joinExits u s).bar = s.bar := by
  simp [joinExits, setUnitState]
@[simp] theorem joinExits_print (u : UnitNo) (s : State) : (joinExits u s).print = s.print := by
  simp [joinExits, setUnitState]
@[simp] theorem joinExits_ports (u : UnitNo) (s : State) : (joinExits u s).ports = s.ports := by
  simp [joinExits, setUnitState]
@[simp] theorem joinExits_pending (u : UnitNo) (s : State) : (joinExits u s).pending = s.pending := by
  simp [joinExits, setUnitState]

@[simp] theorem leavePlaten_time (u : UnitNo) (s : State) : (leavePlaten u s).time = s.time := by
  unfold leavePlaten; (repeat' split) <;> simp
@[simp] theorem leavePlaten_book (u : UnitNo) (s : State) : (leavePlaten u s).book = s.book := by
  unfold leavePlaten; (repeat' split) <;> simp
@[simp] theorem leavePlaten_artworks (u : UnitNo) (s : State) : (leavePlaten u s).artworks = s.artworks := by
  unfold leavePlaten; (repeat' split) <;> simp
@[simp] theorem leavePlaten_load (u : UnitNo) (s : State) : (leavePlaten u s).load = s.load := by
  unfold leavePlaten; (repeat' split) <;> simp
@[simp] theorem leavePlaten_pretreat (u : UnitNo) (s : State) : (leavePlaten u s).pretreat = s.pretreat := by
  unfold leavePlaten; (repeat' split) <;> simp
@[simp] theorem leavePlaten_bar (u : UnitNo) (s : State) : (leavePlaten u s).bar = s.bar := by
  unfold leavePlaten; (repeat' split) <;> simp
@[simp] theorem leavePlaten_print (u : UnitNo) (s : State) : (leavePlaten u s).print = s.print := by
  unfold leavePlaten; (repeat' split) <;> simp
@[simp] theorem leavePlaten_tunnel (u : UnitNo) (s : State) : (leavePlaten u s).tunnel = s.tunnel := by
  unfold leavePlaten; (repeat' split) <;> simp
@[simp] theorem leavePlaten_pack (u : UnitNo) (s : State) : (leavePlaten u s).pack = s.pack := by
  unfold leavePlaten; (repeat' split) <;> simp
@[simp] theorem leavePlaten_ports (u : UnitNo) (s : State) : (leavePlaten u s).ports = s.ports := by
  unfold leavePlaten; (repeat' split) <;> simp
@[simp] theorem leavePlaten_pending (u : UnitNo) (s : State) : (leavePlaten u s).pending = s.pending := by
  unfold leavePlaten; (repeat' split) <;> simp

@[simp] theorem leavePlace_time (u : UnitNo) (s : State) : (leavePlace u s).time = s.time := by
  simp [leavePlace]
@[simp] theorem leavePlace_book (u : UnitNo) (s : State) : (leavePlace u s).book = s.book := by
  simp [leavePlace]
@[simp] theorem leavePlace_artworks (u : UnitNo) (s : State) : (leavePlace u s).artworks = s.artworks := by
  simp [leavePlace]
@[simp] theorem leavePlace_load (u : UnitNo) (s : State) : (leavePlace u s).load = s.load := by
  simp [leavePlace]
@[simp] theorem leavePlace_pretreat (u : UnitNo) (s : State) : (leavePlace u s).pretreat = s.pretreat := by
  simp [leavePlace]
@[simp] theorem leavePlace_bar (u : UnitNo) (s : State) : (leavePlace u s).bar = s.bar := by
  simp [leavePlace]
@[simp] theorem leavePlace_print (u : UnitNo) (s : State) : (leavePlace u s).print = s.print := by
  simp [leavePlace]
@[simp] theorem leavePlace_pending (u : UnitNo) (s : State) : (leavePlace u s).pending = s.pending := by
  simp [leavePlace]

@[simp] theorem freeUnit_time (d : Disposition) (u : UnitNo) (s : State) : (freeUnit d u s).time = s.time := by
  unfold freeUnit; (repeat' split) <;> simp
@[simp] theorem freeUnit_load (d : Disposition) (u : UnitNo) (s : State) : (freeUnit d u s).load = s.load := by
  unfold freeUnit; (repeat' split) <;> simp
@[simp] theorem freeUnit_pretreat (d : Disposition) (u : UnitNo) (s : State) : (freeUnit d u s).pretreat = s.pretreat := by
  unfold freeUnit; (repeat' split) <;> simp
@[simp] theorem freeUnit_bar (d : Disposition) (u : UnitNo) (s : State) : (freeUnit d u s).bar = s.bar := by
  unfold freeUnit; (repeat' split) <;> simp
@[simp] theorem freeUnit_print (d : Disposition) (u : UnitNo) (s : State) : (freeUnit d u s).print = s.print := by
  unfold freeUnit; (repeat' split) <;> simp
@[simp] theorem freeUnit_pending (d : Disposition) (u : UnitNo) (s : State) : (freeUnit d u s).pending = s.pending := by
  unfold freeUnit; (repeat' split) <;> simp

@[simp] theorem releaseBin_time (b : BinNo) (i : OrderNo) (s : State) : (releaseBin b i s).time = s.time := by
  simp [releaseBin]
@[simp] theorem releaseBin_ring (b : BinNo) (i : OrderNo) (s : State) : (releaseBin b i s).ring = s.ring := by
  simp [releaseBin]
@[simp] theorem releaseBin_units (b : BinNo) (i : OrderNo) (s : State) : (releaseBin b i s).units = s.units := by
  simp [releaseBin]
@[simp] theorem releaseBin_artworks (b : BinNo) (i : OrderNo) (s : State) : (releaseBin b i s).artworks = s.artworks := by
  simp [releaseBin]
@[simp] theorem releaseBin_load (b : BinNo) (i : OrderNo) (s : State) : (releaseBin b i s).load = s.load := by
  simp [releaseBin]
@[simp] theorem releaseBin_pretreat (b : BinNo) (i : OrderNo) (s : State) : (releaseBin b i s).pretreat = s.pretreat := by
  simp [releaseBin]
@[simp] theorem releaseBin_bar (b : BinNo) (i : OrderNo) (s : State) : (releaseBin b i s).bar = s.bar := by
  simp [releaseBin]
@[simp] theorem releaseBin_print (b : BinNo) (i : OrderNo) (s : State) : (releaseBin b i s).print = s.print := by
  simp [releaseBin]
@[simp] theorem releaseBin_tunnel (b : BinNo) (i : OrderNo) (s : State) : (releaseBin b i s).tunnel = s.tunnel := by
  simp [releaseBin]
@[simp] theorem releaseBin_ports (b : BinNo) (i : OrderNo) (s : State) : (releaseBin b i s).ports = s.ports := by
  simp [releaseBin]
@[simp] theorem releaseBin_pending (b : BinNo) (i : OrderNo) (s : State) : (releaseBin b i s).pending = s.pending := by
  simp [releaseBin]

@[simp] theorem placeEntry_time (sl : SlotNo) (a : ArtworkNo) (k : Sku) (s : State) : (placeEntry sl a k s).time = s.time := rfl
@[simp] theorem placeEntry_ring (sl : SlotNo) (a : ArtworkNo) (k : Sku) (s : State) : (placeEntry sl a k s).ring = s.ring := rfl
@[simp] theorem placeEntry_units (sl : SlotNo) (a : ArtworkNo) (k : Sku) (s : State) : (placeEntry sl a k s).units = s.units := rfl
@[simp] theorem placeEntry_book (sl : SlotNo) (a : ArtworkNo) (k : Sku) (s : State) : (placeEntry sl a k s).book = s.book := rfl
@[simp] theorem placeEntry_artworks (sl : SlotNo) (a : ArtworkNo) (k : Sku) (s : State) : (placeEntry sl a k s).artworks = s.artworks := rfl
@[simp] theorem placeEntry_load (sl : SlotNo) (a : ArtworkNo) (k : Sku) (s : State) : (placeEntry sl a k s).load = s.load := rfl
@[simp] theorem placeEntry_pretreat (sl : SlotNo) (a : ArtworkNo) (k : Sku) (s : State) : (placeEntry sl a k s).pretreat = s.pretreat := rfl
@[simp] theorem placeEntry_bar (sl : SlotNo) (a : ArtworkNo) (k : Sku) (s : State) : (placeEntry sl a k s).bar = s.bar := rfl
@[simp] theorem placeEntry_print (sl : SlotNo) (a : ArtworkNo) (k : Sku) (s : State) : (placeEntry sl a k s).print = s.print := rfl
@[simp] theorem placeEntry_tunnel (sl : SlotNo) (a : ArtworkNo) (k : Sku) (s : State) : (placeEntry sl a k s).tunnel = s.tunnel := rfl
@[simp] theorem placeEntry_ports (sl : SlotNo) (a : ArtworkNo) (k : Sku) (s : State) : (placeEntry sl a k s).ports = s.ports := rfl
@[simp] theorem placeEntry_pending (sl : SlotNo) (a : ArtworkNo) (k : Sku) (s : State) : (placeEntry sl a k s).pending = s.pending := rfl

@[simp] theorem removeEntry_time (sl : SlotNo) (s : State) : (removeEntry sl s).time = s.time := rfl
@[simp] theorem removeEntry_ring (sl : SlotNo) (s : State) : (removeEntry sl s).ring = s.ring := rfl
@[simp] theorem removeEntry_units (sl : SlotNo) (s : State) : (removeEntry sl s).units = s.units := rfl
@[simp] theorem removeEntry_book (sl : SlotNo) (s : State) : (removeEntry sl s).book = s.book := rfl
@[simp] theorem removeEntry_artworks (sl : SlotNo) (s : State) : (removeEntry sl s).artworks = s.artworks := rfl
@[simp] theorem removeEntry_load (sl : SlotNo) (s : State) : (removeEntry sl s).load = s.load := rfl
@[simp] theorem removeEntry_pretreat (sl : SlotNo) (s : State) : (removeEntry sl s).pretreat = s.pretreat := rfl
@[simp] theorem removeEntry_bar (sl : SlotNo) (s : State) : (removeEntry sl s).bar = s.bar := rfl
@[simp] theorem removeEntry_print (sl : SlotNo) (s : State) : (removeEntry sl s).print = s.print := rfl
@[simp] theorem removeEntry_tunnel (sl : SlotNo) (s : State) : (removeEntry sl s).tunnel = s.tunnel := rfl
@[simp] theorem removeEntry_ports (sl : SlotNo) (s : State) : (removeEntry sl s).ports = s.ports := rfl
@[simp] theorem removeEntry_pending (sl : SlotNo) (s : State) : (removeEntry sl s).pending = s.pending := rfl

/-! ### What each operation does -/

/-- The entry test decides the Tunnel station's state while it holds a unit (R127). -/
theorem retest_cases (s : State) :
    (s.tunnel.state = .idle ∧ retest s = s)
      ∨ (s.tunnel.state ≠ .idle
        ∧ retest s = s.setTunnel { s.tunnel with state := if entryTest s then .transferWait else .inhibited }) := by
  unfold retest
  split <;> simp_all

@[simp] theorem retest_queue (s : State) : (retest s).tunnel.queue = s.tunnel.queue := by
  unfold retest; split <;> simp

@[simp] theorem retest_zones (s : State) : (retest s).tunnel.zones = s.tunnel.zones := by
  unfold retest; split <;> simp

@[simp] theorem retest_profile (s : State) : (retest s).tunnel.profile = s.tunnel.profile := by
  unfold retest; split <;> simp

/-- A unit's record is gone from the tunnel queue, the others keep their order (R125). -/
theorem leaveQueue_queue (u : UnitNo) (s : State) :
    (leaveQueue u s).tunnel.queue = s.tunnel.queue.filter fun r => decide (r.unit ≠ u) := by
  unfold leaveQueue
  dsimp only
  split
  · split
    · rw [retest_queue]
      rcases completeQuiesce_cases .tunnel
        (s.setTunnel { s.tunnel with queue := s.tunnel.queue.filter fun r => decide (r.unit ≠ u) }) with ⟨_, h⟩ | ⟨_, h⟩
      · rw [h]; rfl
      · rw [h]; rfl
    · simp
  · rename_i h
    symm
    rw [List.filter_eq_self]
    intro r hr
    simp only [List.any_eq_true, decide_eq_true_eq, not_exists, not_and] at h
    simpa using h r hr

/-- A unit's entry is gone from the exit list, the others keep their order (R144). -/
theorem leaveExits_exits (u : UnitNo) (s : State) :
    (leaveExits u s).pack.exits = s.pack.exits.filter fun v => decide (v ≠ u) := by
  unfold leaveExits
  split
  · simp
  · rename_i h
    symm
    rw [List.filter_eq_self]
    intro r hr
    simp only [List.any_eq_true, decide_eq_true_eq, not_exists, not_and] at h
    simpa using fun e => h r hr e

/-- The return check frees a CANCELLING order with no shirt in flight, and nothing else (R26). -/
theorem returnCheck_cases (i : OrderNo) (s : State) :
    returnCheck i s = s
      ∨ (∃ o, s.order i = some o ∧ o.state = .cancelling ∧ totalInFlight s o = 0
        ∧ returnCheck i s = freeOrder i .cancelled s) := by
  unfold returnCheck
  split
  · split
    · rename_i o ho h; exact .inr ⟨o, ho, h.1, h.2, rfl⟩
    · exact .inl rfl
  · exact .inl rfl

/-- A descriptor that has returned is FREE (R37). -/
theorem returnDescriptor_order (i : OrderNo) (s : State) : (returnDescriptor i s).order i = none := by
  unfold returnDescriptor
  split
  · assumption
  · simp [State.order]

/-- A freed unit's record is free (R16 step 3). -/
theorem freeUnit_shirt (d : Disposition) (u : UnitNo) (s : State) : (freeUnit d u s).shirt u = none := by
  unfold freeUnit
  split
  · assumption
  · simp [clearUnit, State.shirt]

/-- Freeing a unit leaves every other unit's record as it was (R16). -/
theorem freeUnit_shirt_ne (d : Disposition) {u v : UnitNo} (s : State) (h : v ≠ u) :
    (freeUnit d u s).shirt v = s.shirt v := by
  have place : (leavePlaten u s).shirt v = s.shirt v := by
    unfold leavePlaten
    split
    · rw [modifyShirt_shirt_ne _ _ h]; simp [State.shirt]
    · rfl
  unfold freeUnit
  split
  · rfl
  · have : ∀ t : State, (clearUnit u t).shirt v = t.shirt v := by
      intro t; simp [clearUnit, State.shirt, tget_tset_ne _ _ h]
    rw [this]
    simpa [State.shirt, leavePlace] using place

end Sys2Proof.Machine
end

