-- ==== Sys2Proof/Laws/CureTick.lean ====
section
/-! SUPPORT. The stages of a cure tick, each over the four zones: the zone record each leaves, the notices it posts and
what it leaves alone (R137 to R139). -/

namespace Sys2Proof.Machine

/-- A stage of the tick done to one zone at a time: where `fires` holds it posts `notice` to the Order port, the zone
becomes `after` of itself, and nothing else that a later stage reads changes. -/
structure ZoneStage (f : ZoneNo → State → State) (fires : CureProfile → ZoneNo → Zone → Bool)
    (notice : ZoneNo → Zone → Notice) (after : CureProfile → ZoneNo → Zone → Zone) : Prop where
  order : ∀ z s, (f z s).port .order =
    if fires s.tunnel.profile z (tget s.tunnel.zones z) then
      (s.port .order).join ⟨notice z (tget s.tunnel.zones z), s.time.now⟩
    else s.port .order
  others : ∀ z s q, q ≠ Port.order → (f z s).port q = s.port q
  zones : ∀ z s z', tget (f z s).tunnel.zones z' =
    if z' = z then after s.tunnel.profile z (tget s.tunnel.zones z) else tget s.tunnel.zones z'
  time : ∀ z s, (f z s).time = s.time
  profile : ∀ z s, (f z s).tunnel.profile = s.tunnel.profile
  ready : ∀ z s, (f z s).tunnel.ready = s.tunnel.ready

/-- A stage over a list of zones, none twice: the notices of the zones that fire, in the list's order. -/
theorem ZoneStage.over {f fires notice after} (h : ZoneStage f fires notice after) (s : State) :
    ∀ l : List ZoneNo, l.Nodup →
      (l.foldl (fun s z => f z s) s).port .order =
          ((l.filter fun z => fires s.tunnel.profile z (tget s.tunnel.zones z)).map
            fun z => notice z (tget s.tunnel.zones z)).foldl (fun x m => x.join ⟨m, s.time.now⟩) (s.port .order)
        ∧ (∀ q, q ≠ Port.order → (l.foldl (fun s z => f z s) s).port q = s.port q)
        ∧ (∀ z, tget (l.foldl (fun s z => f z s) s).tunnel.zones z =
          if z ∈ l then after s.tunnel.profile z (tget s.tunnel.zones z) else tget s.tunnel.zones z)
        ∧ (l.foldl (fun s z => f z s) s).time = s.time
        ∧ (l.foldl (fun s z => f z s) s).tunnel.profile = s.tunnel.profile
        ∧ (l.foldl (fun s z => f z s) s).tunnel.ready = s.tunnel.ready := by
  intro l
  induction l generalizing s with
  | nil => intro _; simp
  | cons a l ih =>
    intro hn
    rw [List.nodup_cons] at hn
    obtain ⟨i1, i2, i3, i4, i5, i6⟩ := ih (f a s) hn.2
    have key : ∀ z ∈ l, tget (f a s).tunnel.zones z = tget s.tunnel.zones z := fun z hz => by
      rw [h.zones, if_neg (by rintro rfl; exact hn.1 hz)]
    simp only [List.foldl_cons]
    refine ⟨?_, fun q hq => by rw [i2 q hq, h.others a s q hq], fun z => ?_, by rw [i4, h.time], by rw [i5, h.profile],
      by rw [i6, h.ready]⟩
    · rw [i1, h.profile, h.time, h.order,
        List.filter_congr (q := fun z => fires s.tunnel.profile z (tget s.tunnel.zones z)) fun z hz => by rw [key z hz],
        List.map_congr_left (g := fun z => notice z (tget s.tunnel.zones z)) fun z hz => by
          rw [key z (List.mem_filter.mp hz).1]]
      by_cases hP : fires s.tunnel.profile a (tget s.tunnel.zones a) = true <;> simp [hP]
    · rw [i3, h.profile, h.zones]
      by_cases hz : z = a
      · subst hz; simp [hn.1]
      · simp [hz]

/-- A stage over the four zones. -/
theorem ZoneStage.each {f fires notice after} (h : ZoneStage f fires notice after) (s : State) :
    (eachZone f s).port .order =
        (((List.finRange 4).filter fun z => fires s.tunnel.profile z (tget s.tunnel.zones z)).map
          fun z => notice z (tget s.tunnel.zones z)).foldl (fun x m => x.join ⟨m, s.time.now⟩) (s.port .order)
      ∧ (∀ q, q ≠ Port.order → (eachZone f s).port q = s.port q)
      ∧ (∀ z, tget (eachZone f s).tunnel.zones z = after s.tunnel.profile z (tget s.tunnel.zones z))
      ∧ (eachZone f s).time = s.time ∧ (eachZone f s).tunnel.profile = s.tunnel.profile
      ∧ (eachZone f s).tunnel.ready = s.tunnel.ready := by
  obtain ⟨a, b, c, d, e, g⟩ := h.over s (List.finRange 4) (List.nodup_finRange 4)
  exact ⟨a, b, fun z => (c z).trans (if_pos (List.mem_finRange z)), d, e, g⟩

/-- Absence (R137 item 2): ZONE STALE with NO READING for a LIVE zone at its third silent tick. -/
theorem absenceTick_stage : ZoneStage absenceTick
    (fun _ _ x => decide (x.state = .live ∧ x.heard = false ∧ 2 ≤ x.missed)) (fun z _ => .zoneStale z .noReading)
    (fun _ _ x =>
      if x.heard then x
      else if 2 ≤ x.missed ∧ x.state = .live then { x with missed := 3, state := .stale, staleTicks := 0 }
      else { x with missed := min (x.missed + 1) 3 }) := by
  have c : ∀ m : Nat, min (m+1) Config.missedMax = Config.missedMax ↔ 2 ≤ m := by intro m; unfold Config.missedMax; omega
  constructor
  · intro z s
    unfold absenceTick
    dsimp only
    split
    · rename_i h; simp [h]
    · rename_i h
      simp only [c]
      split
      · rename_i h2; simp [h, h2, post_port, putZone]; rfl
      · rename_i h2; rw [if_neg (by simp only [decide_eq_true_eq]; rintro ⟨a, _, b⟩; exact h2 ⟨b, a⟩)]; rfl
  · intro z s q hq; unfold absenceTick; dsimp only; repeat' split
    · rfl
    · rw [post_port, if_neg hq]; rfl
    · rfl
  · intro z s z'
    unfold absenceTick; dsimp only
    by_cases hz : z' = z
    · subst hz; simp only [c]
      repeat' split
      all_goals simp_all [putZone]
      all_goals (unfold Config.missedMax; rfl)
    · repeat' split
      all_goals simp_all [putZone, tget_tset]
  · intro z s; unfold absenceTick; dsimp only; repeat' split
    all_goals rfl
  · intro z s; unfold absenceTick; dsimp only; repeat' split
    all_goals rfl
  · intro z s; unfold absenceTick; dsimp only; repeat' split
    all_goals rfl

/-- The stale count (R137 item 3): ZONE STALE with LAPSED at the ninth tick. -/
theorem staleTick_stage : ZoneStage staleTick
    (fun _ _ x => decide (x.state = .stale ∧ 8 ≤ x.staleTicks)) (fun z _ => .zoneLapsed z)
    (fun _ _ x =>
      if x.state = .stale then
        if x.staleTicks + 1 < 9 then { x with staleTicks := x.staleTicks + 1 }
        else { x with staleTicks := 9, state := .lapsed, duty := 0, overtemp := false }
      else x) := by
  constructor
  · intro z s
    unfold staleTick
    dsimp only
    split
    · rename_i h
      split
      · rename_i h2; rw [if_neg (by unfold Config.lapseTick at h2; simp; omega)]; rfl
      · rename_i h2; rw [if_pos (by unfold Config.lapseTick at h2; simp [h]; omega)]; rw [post_port, if_pos rfl]; rfl
    · rename_i h; simp [h]
  · intro z s q hq; unfold staleTick; dsimp only; repeat' split
    · rfl
    · rw [post_port, if_neg hq]; rfl
    · rfl
  · intro z s z'
    unfold staleTick Config.lapseTick; dsimp only
    by_cases hz : z' = z
    · subst hz
      repeat' split
      all_goals simp_all [putZone]
    · repeat' split
      all_goals simp_all [putZone, tget_tset]
  · intro z s; unfold staleTick; dsimp only; repeat' split
    all_goals rfl
  · intro z s; unfold staleTick; dsimp only; repeat' split
    all_goals rfl
  · intro z s; unfold staleTick; dsimp only; repeat' split
    all_goals rfl

/-- The duty (R139): OVERTEMP for a LIVE zone that becomes OVERTEMP. -/
theorem dutyTick_stage : ZoneStage dutyTick
    (fun pr z x => decide (x.state = .live ∧ x.overtemp = false ∧ (x.revised pr z).overtemp = true))
    (fun z x => .overtemp z x.temperature)
    (fun pr z x =>
      match x.state with | .live => x.revised pr z | .stale => x | .lapsed => { x with duty := 0 }) := by
  constructor
  · intro z s
    unfold dutyTick
    dsimp only
    split
    · rename_i h
      split
      · rename_i h2; simp at h2; rw [if_pos (by simp [h, h2]), post_port, if_pos rfl]; rfl
      · rename_i h2; simp at h2; rw [if_neg (by simp [h]; exact h2)]; rfl
    · rename_i h; simp [h]
    · rename_i h; simp [h]; rfl
  · intro z s q hq; unfold dutyTick; dsimp only; repeat' split
    · rw [post_port, if_neg hq]; rfl
    all_goals rfl
  · intro z s z'
    unfold dutyTick; dsimp only
    by_cases hz : z' = z
    · subst hz
      repeat' split
      all_goals simp_all [putZone]
    · repeat' split
      all_goals simp_all [putZone, tget_tset]
  · intro z s; unfold dutyTick; dsimp only; repeat' split
    all_goals rfl
  · intro z s; unfold dutyTick; dsimp only; repeat' split
    all_goals rfl
  · intro z s; unfold dutyTick; dsimp only; repeat' split
    all_goals rfl


/-- Exposure reaches neither the ports, the tunnel's own records nor the Time Base (R138). -/
theorem addExposure_frame (s : State) :
    (addExposure s).ports = s.ports ∧ (addExposure s).tunnel = s.tunnel ∧ (addExposure s).time = s.time := by
  unfold addExposure
  have : ∀ (l : List QueueRecord) (s : State), (l.foldl exposeOne s).ports = s.ports
      ∧ (l.foldl exposeOne s).tunnel = s.tunnel ∧ (l.foldl exposeOne s).time = s.time := by
    intro l
    induction l with
    | nil => intro s; exact ⟨rfl, rfl, rfl⟩
    | cons a l ih =>
      intro s
      obtain ⟨a1, a2, a3⟩ := ih (exposeOne s a)
      rw [List.foldl_cons, a1, a2, a3]; simp [exposeOne]
  exact this _ s

end Sys2Proof.Machine
end

