-- ==== Sys2Proof/Laws/Requests.lean ====
section
/-! SUPPORT. The taking of a request: what a step of `serve` answers, and what the operands of a request resolve
to when its bytes are those of a tag, a handle or a record number. -/

namespace Sys2Proof.Machine

/-! ### The frame checks and the answer -/

/-- Every request stands in the list the code search uses. -/
theorem Request.mem_all (r : Request) : r ∈ Request.all := by cases r <;> decide

/-- A request's own code is not reserved. -/
theorem reservedCode_code (r : Request) : reservedCode r.code = false := by cases r <;> decide

/-- An offered frame passes the frame checks (R173). -/
theorem frameRefusal_offered {s : State} {p : Port} {r : Request} {f : Frame} {rest : List Frame}
    (h : Offered s p r f rest) : frameRefusal p r f = none := by
  obtain ⟨_, hp, hc, ht, hl⟩ := h
  simp [frameRefusal, hp, hc, reservedCode_code, ht, hl]

/-- An offered request is answered by its handler, from the state without the frame. -/
theorem serve_offered {s : State} {p : Port} {r : Request} {f : Frame} {rest : List Frame}
    (h : Offered s p r f rest) (hd : Handler) :
    serve r hd p s = answer (hd p f.body (s.without p rest)).2 p f (hd p f.body (s.without p rest)).1 := by
  have hr := frameRefusal_offered h
  obtain ⟨hi, _, hc, _, _⟩ := h
  simp only [serve, hi, hc, true_or, if_true, hr, answer]
  rfl

/-- An offered request whose handler answers `(reply, t)`. -/
theorem serve_eq {s t : State} {p : Port} {r : Request} {f : Frame} {rest : List Frame} {reply : Reply} {hd : Handler}
    (h : Offered s p r f rest) (e : hd p f.body (s.without p rest) = (reply, t)) :
    serve r hd p s = answer t p f reply := by
  rw [serve_offered h, e]

/-- Everything taking a request can do: nothing; a frame check's refusal; the handler's answer. -/
theorem serve_cases (r : Request) (hd : Handler) (p : Port) (s : State) :
    serve r hd p s = .next s
      ∨ ∃ f rest, (s.port p).input = f :: rest
        ∧ ((∃ e, frameRefusal p r f = some e ∧ serve r hd p s = answer (s.without p rest) p f (.refused e []))
          ∨ (frameRefusal p r f = none
            ∧ serve r hd p s
              = answer (hd p f.body (s.without p rest)).2 p f (hd p f.body (s.without p rest)).1)) := by
  unfold serve
  cases hi : (s.port p).input with
  | nil => exact .inl rfl
  | cons f rest =>
    by_cases c : f.code = r.code ∨ reservedCode f.code = true
    · refine .inr ⟨f, rest, rfl, ?_⟩
      simp only [c, if_true]
      cases e : frameRefusal p r f with
      | some e' => exact .inl ⟨e', rfl, rfl⟩
      | none => exact .inr ⟨rfl, rfl⟩
    · exact .inl (by simp only [c, if_false])

/-! ### The state without a frame -/

@[simp] theorem State.without_time (s : State) (p : Port) (l : List Frame) : (s.without p l).time = s.time := rfl
@[simp] theorem State.without_ring (s : State) (p : Port) (l : List Frame) : (s.without p l).ring = s.ring := rfl
@[simp] theorem State.without_units (s : State) (p : Port) (l : List Frame) : (s.without p l).units = s.units := rfl
@[simp] theorem State.without_book (s : State) (p : Port) (l : List Frame) : (s.without p l).book = s.book := rfl
@[simp] theorem State.without_artworks (s : State) (p : Port) (l : List Frame) : (s.without p l).artworks = s.artworks := rfl
@[simp] theorem State.without_load (s : State) (p : Port) (l : List Frame) : (s.without p l).load = s.load := rfl
@[simp] theorem State.without_pretreat (s : State) (p : Port) (l : List Frame) : (s.without p l).pretreat = s.pretreat := rfl
@[simp] theorem State.without_bar (s : State) (p : Port) (l : List Frame) : (s.without p l).bar = s.bar := rfl
@[simp] theorem State.without_print (s : State) (p : Port) (l : List Frame) : (s.without p l).print = s.print := rfl
@[simp] theorem State.without_tunnel (s : State) (p : Port) (l : List Frame) : (s.without p l).tunnel = s.tunnel := rfl
@[simp] theorem State.without_pack (s : State) (p : Port) (l : List Frame) : (s.without p l).pack = s.pack := rfl
@[simp] theorem State.without_pending (s : State) (p : Port) (l : List Frame) : (s.without p l).pending = s.pending := rfl
@[simp] theorem State.without_shirt (s : State) (p : Port) (l : List Frame) : (s.without p l).shirt = s.shirt := rfl
@[simp] theorem State.without_tagOf (s : State) (p : Port) (l : List Frame) : (s.without p l).tagOf = s.tagOf := rfl
@[simp] theorem State.without_generation (s : State) (p : Port) (l : List Frame) :
    (s.without p l).generation = s.generation := rfl
@[simp] theorem State.without_order (s : State) (p : Port) (l : List Frame) : (s.without p l).order = s.order := rfl
@[simp] theorem State.without_handleOf (s : State) (p : Port) (l : List Frame) :
    (s.without p l).handleOf = s.handleOf := rfl
@[simp] theorem State.without_line (s : State) (p : Port) (l : List Frame) : (s.without p l).line = s.line := rfl
@[simp] theorem State.without_quiesce (s : State) (p : Port) (l : List Frame) : (s.without p l).quiesce = s.quiesce := by
  funext st; cases st <;> rfl

theorem State.without_port (s : State) (p q : Port) (l : List Frame) :
    (s.without p l).port q = if q = p then { s.port p with input := l } else s.port q := by
  by_cases h : q = p
  · subst h; simp [State.without]
  · simp [State.without, h, State.port_setPort_ne]

/-! ### Numbers in bytes -/

@[simp] theorem bytes1_length (n : Nat) : (bytes1 n).length = 1 := rfl
@[simp] theorem bytes2_length (n : Nat) : (bytes2 n).length = 2 := rfl
@[simp] theorem bytes4_length (n : Nat) : (bytes4 n).length = 4 := rfl
@[simp] theorem noneBytes_length (k : Nat) : (noneBytes k).length = k := by simp [noneBytes]

/-- Two bytes read back (A.2). -/
theorem number2_bytes2 {n : Nat} (h : n < 65536) :
    number2 (BitVec.ofNat 8 (n / 256)) (BitVec.ofNat 8 n) = n := by
  simp only [number2, BitVec.toNat_ofNat]; omega

/-- Four bytes read back. -/
theorem number4_bytes4 {n : Nat} (h : n < 4294967296) :
    number4 (BitVec.ofNat 8 (n / 16777216)) (BitVec.ofNat 8 (n / 65536)) (BitVec.ofNat 8 (n / 256)) (BitVec.ofNat 8 n)
      = n := by
  simp only [number4, BitVec.toNat_ofNat]; omega

/-- A byte that names a record. -/
theorem recordNo_val {n : Nat} {b : Byte} {i : Fin n} (h : b.toNat = i.val) : recordNo n b = some i := by
  have hi := i.isLt
  simp only [recordNo]
  rw [dif_pos (by omega)]
  congr 1
  exact Fin.ext h

theorem recordNo_none {n : Nat} {b : Byte} (h : n ≤ b.toNat) : recordNo n b = none := by
  simp only [recordNo]; rw [dif_neg (by omega)]

/-- A record number's own byte names it, for a table of at most 256 records. -/
theorem recordNo_ofNat {n : Nat} (i : Fin n) (h : n ≤ 256) : recordNo n (BitVec.ofNat 8 i.val) = some i := by
  apply recordNo_val
  have hi := i.isLt
  simp only [BitVec.toNat_ofNat]; omega

/-! ### Tags and handles -/

/-- The bytes of a unit's own tag resolve to it (R15). -/
theorem resolveTag_own {s : State} {u : UnitNo} {sh : Shirt} (hg : s.generation u ≤ 1023) (h : s.shirt u = some sh) :
    resolveTag (BitVec.ofNat 8 ((s.tagOf u).number / 256)) (BitVec.ofNat 8 (s.tagOf u).number) s = .ok (u, sh) := by
  have hu := u.isLt
  have hn : (s.tagOf u).number = s.generation u * 64 + u.val := rfl
  have e : number2 (BitVec.ofNat 8 ((s.tagOf u).number / 256)) (BitVec.ofNat 8 (s.tagOf u).number)
      = s.generation u * 64 + u.val := by rw [number2_bytes2 (by omega), hn]
  have hm : (s.generation u * 64 + u.val) % 64 = u.val := by omega
  have hd : (s.generation u * 64 + u.val) / 64 = s.generation u := by omega
  have hlt : (s.generation u * 64 + u.val) % 64 < 40 := by omega
  have hf : (⟨(s.generation u * 64 + u.val) % 64, hlt⟩ : UnitNo) = u := Fin.ext hm
  unfold resolveTag
  simp only [e, dif_pos hlt, hf, h, hd, if_true]

/-- A request on a unit's own tag comes to its checks with that unit. -/
theorem withTag_own {s : State} {u : UnitNo} {sh : Shirt} (hg : s.generation u ≤ 1023) (h : s.shirt u = some sh)
    (k : UnitNo → Shirt → Reply × State) :
    withTag (BitVec.ofNat 8 ((s.tagOf u).number / 256)) (BitVec.ofNat 8 (s.tagOf u).number) s k = k u sh := by
  simp only [withTag, resolveTag_own hg h]

/-- The bytes of an order's own handle resolve to it (R22). -/
theorem resolveHandle_own {s : State} {i : OrderNo} {o : Order} (hg : (s.handleOf i).generation ≤ 255)
    (h : s.order i = some o) :
    resolveHandle (BitVec.ofNat 8 ((s.handleOf i).number / 256)) (BitVec.ofNat 8 (s.handleOf i).number) s
      = .ok (i, o) := by
  have hi := i.isLt
  have hn : (s.handleOf i).number = (s.handleOf i).generation * 256 + i.val := rfl
  have e1 : (BitVec.ofNat 8 (s.handleOf i).number).toNat = i.val := by
    rw [hn, BitVec.toNat_ofNat]; omega
  have e2 : (BitVec.ofNat 8 ((s.handleOf i).number / 256)).toNat = (s.handleOf i).generation := by
    rw [hn, BitVec.toNat_ofNat]; omega
  have ho : (tget s.book.orders i).order = some o := h
  have hge : (tget s.book.orders i).generation = (s.handleOf i).generation := rfl
  simp only [resolveHandle, recordNo_val e1, ho, e2, hge, if_true]

/-- A request on an order's own handle comes to its checks with that order. -/
theorem withHandle_own {s : State} {i : OrderNo} {o : Order} (hg : (s.handleOf i).generation ≤ 255)
    (h : s.order i = some o) (k : OrderNo → Order → Reply × State) :
    withHandle (BitVec.ofNat 8 ((s.handleOf i).number / 256)) (BitVec.ofNat 8 (s.handleOf i).number) s k = k i o := by
  simp only [withHandle, resolveHandle_own hg h]

end Sys2Proof.Machine
end

