-- ==== Sys2Proof/Laws/Returns.lean ====
section
/-! SUPPORT. The way back of lines and orders: what returning one line, a list of lines and a descriptor does (R37),
what the return of the CANCELLING orders at line reset does (R18), and when an order has a shirt in flight. -/

namespace Sys2Proof.Machine

/-! ### Lines -/

@[simp] theorem setRefs_line (a : ArtworkNo) (f : Nat → Nat) (s : State) (n : LineNo) : (setRefs a f s).line n = s.line n :=
  rfl

/-- A line returned is free, its artwork's reference count falls by 1, and nothing else of books and artworks changes. -/
theorem returnLine_cases (s : State) (n : LineNo) :
    (returnLine s n).book.orders = s.book.orders ∧ (returnLine s n).book.active = s.book.active
      ∧ (returnLine s n).book.sequence = s.book.sequence
      ∧ (∀ m, (returnLine s n).line m = if m = n then none else s.line m)
      ∧ ∀ a : ArtworkNo, tget (returnLine s n).artworks a =
          { tget s.artworks a with
            refs := (tget s.artworks a).refs - if (s.line n).map (·.artwork) = some a then 1 else 0 } := by
  unfold returnLine
  cases h : s.line n with
  | none =>
    refine ⟨rfl, rfl, rfl, fun m => ?_, fun a => by simp⟩
    by_cases e : m = n
    · subst e; simp [h]
    · simp [e]
  | some l =>
    refine ⟨rfl, rfl, rfl, fun m => ?_, fun a => ?_⟩
    · by_cases e : m = n
      · subst e; simp
      · simp [e, putLine_line_ne]
    · change tget (tset s.artworks l.artwork _) a = _
      rw [tget_tset]
      by_cases e : a = l.artwork
      · subst e; simp
      · simp [e, Ne.symm e]

theorem linesNaming_nodup (s : State) (a : ArtworkNo) : (s.linesNaming a).Nodup := (List.nodup_finRange _).filter _

/-- Of a list without repeats, those in n :: ns are n, where it stands there, and those in ns among the others. -/
theorem length_filter_contains_cons (L : List LineNo) (hL : L.Nodup) (n : LineNo) (ns : List LineNo) :
    (L.filter (n :: ns).contains).length
      = (if n ∈ L then 1 else 0) + ((L.filter fun m => decide (m ≠ n)).filter ns.contains).length := by
  induction L with
  | nil => simp
  | cons x L ih =>
    rw [List.nodup_cons] at hL
    have := ih hL.2
    by_cases e : x = n
    · subst e
      rw [if_neg hL.1] at this
      simp at this ⊢
      omega
    · have e' : ¬ n = x := Ne.symm e
      have e3 : (x == n) = false := by simp [e]
      by_cases c : ns.contains x = true <;> simp_all
      all_goals omega

/-- What the return of a list of lines does: each is free, each artwork's count falls by its lines among them. -/
theorem returnLines_cases (ns : List LineNo) (s : State) :
    (ns.foldl returnLine s).book.orders = s.book.orders ∧ (ns.foldl returnLine s).book.active = s.book.active
      ∧ (ns.foldl returnLine s).book.sequence = s.book.sequence
      ∧ (∀ m, (ns.foldl returnLine s).line m = if m ∈ ns then none else s.line m)
      ∧ ∀ a : ArtworkNo, tget (ns.foldl returnLine s).artworks a =
          { tget s.artworks a with
            refs := (tget s.artworks a).refs - ((s.linesNaming a).filter ns.contains).length } := by
  induction ns generalizing s with
  | nil =>
    exact ⟨rfl, rfl, rfl, by simp, fun a => by
      rw [show (s.linesNaming a).filter ([] : List LineNo).contains = [] by simp]; rfl⟩
  | cons n ns ih =>
    obtain ⟨h1, h2, h3, h4, h5⟩ := returnLine_cases s n
    obtain ⟨g1, g2, g3, g4, g5⟩ := ih (returnLine s n)
    refine ⟨g1.trans h1, g2.trans h2, g3.trans h3, fun m => ?_, fun a => ?_⟩
    · rw [List.foldl_cons, g4, h4]
      by_cases e : m = n <;> by_cases e2 : m ∈ ns <;> simp [e, e2]
    · rw [List.foldl_cons, g5, h5]
      have hn : (returnLine s n).linesNaming a = (s.linesNaming a).filter fun m => decide (m ≠ n) := by
        unfold State.linesNaming
        rw [List.filter_filter]
        apply List.filter_congr
        intro m _
        rw [h4]
        by_cases e : m = n <;> simp [e]
      have hm : n ∈ s.linesNaming a ↔ (s.line n).map (·.artwork) = some a := by simp [State.linesNaming]
      rw [hn, length_filter_contains_cons _ (linesNaming_nodup s a)]
      simp only [hm, Nat.sub_sub]

/-- The return of lines reads and writes line records and artworks alone. -/
theorem returnLines_congr (ns : List LineNo) {s t : State} (h1 : s.book.lines = t.book.lines)
    (h2 : s.artworks = t.artworks) :
    (ns.foldl returnLine s).book.lines = (ns.foldl returnLine t).book.lines
      ∧ (ns.foldl returnLine s).artworks = (ns.foldl returnLine t).artworks := by
  induction ns generalizing s t with
  | nil => exact ⟨h1, h2⟩
  | cons n ns ih =>
    have h : s.line n = t.line n := by simp only [State.line, h1]
    have one : (returnLine s n).book.lines = (returnLine t n).book.lines
        ∧ (returnLine s n).artworks = (returnLine t n).artworks := by
      unfold returnLine
      rw [h]
      cases t.line n with
      | none => exact ⟨h1, h2⟩
      | some l => simp [putLine, setRefs, h1, h2]
    exact ih one.1 one.2

/-! ### Descriptors -/

/-- What the descriptor return does (R37 steps 1 to 3). -/
theorem returnDescriptor_cases {s : State} {i : OrderNo} {o : Order} (h : s.order i = some o) :
    (returnDescriptor i s).order i = none
      ∧ ((returnDescriptor i s).handleOf i).generation =
          (if (s.handleOf i).generation = 255 then 1 else (s.handleOf i).generation + 1)
      ∧ (∀ j, j ≠ i →
          (returnDescriptor i s).order j = s.order j ∧ (returnDescriptor i s).handleOf j = s.handleOf j)
      ∧ (returnDescriptor i s).book.active = s.book.active ∧ (returnDescriptor i s).book.sequence = s.book.sequence
      ∧ (∀ m, (returnDescriptor i s).line m = if m ∈ o.lines then none else s.line m)
      ∧ (∀ a : ArtworkNo, tget (returnDescriptor i s).artworks a =
          { tget s.artworks a with
            refs := (tget s.artworks a).refs - ((s.linesNaming a).filter o.lines.contains).length })
      ∧ returnDescriptor i s =
          { s with book := (returnDescriptor i s).book, artworks := (returnDescriptor i s).artworks } := by
  obtain ⟨h1, h2, h3, h4, h5⟩ := returnLines_cases o.lines s
  have e : returnDescriptor i s = (o.lines.foldl returnLine s).setBook { (o.lines.foldl returnLine s).book with
      orders := tset (o.lines.foldl returnLine s).book.orders i
        { generation := nextOrderGeneration (tget (o.lines.foldl returnLine s).book.orders i).generation
          order := none } } := by
    unfold returnDescriptor; simp [h]
  refine ⟨returnDescriptor_order i s, ?_, fun j hj => ?_, ?_, ?_, fun m => ?_, fun a => ?_, ?_⟩
  · rw [e]; simp [State.handleOf, h1, nextOrderGeneration]; rfl
  · rw [e]; simp [State.order, State.handleOf, tget_tset_ne _ _ hj, h1]
  · rw [e]; exact h2
  · rw [e]; exact h3
  · rw [e]; exact h4 m
  · rw [e]; exact h5 a
  · have a1 := returnDescriptor_time i s
    have a2 := returnDescriptor_ring i s
    have a3 := returnDescriptor_units i s
    have a4 := returnDescriptor_load i s
    have a5 := returnDescriptor_pretreat i s
    have a6 := returnDescriptor_bar i s
    have a7 := returnDescriptor_print i s
    have a8 := returnDescriptor_tunnel i s
    have a9 := returnDescriptor_pack i s
    have a10 := returnDescriptor_ports i s
    have a11 := returnDescriptor_pending i s
    generalize returnDescriptor i s = t at *
    cases t
    simp_all

/-- The lines and artworks of a descriptor return are those of its lines' return. -/
theorem returnDescriptor_lines {s : State} {i : OrderNo} {o : Order} (h : s.order i = some o) :
    (returnDescriptor i s).book.lines = (o.lines.foldl returnLine s).book.lines
      ∧ (returnDescriptor i s).artworks = (o.lines.foldl returnLine s).artworks := by
  unfold returnDescriptor; simp [h]

/-! ### Line reset's return of the CANCELLING orders (R18) -/

/-- The CANCELLING orders among some indexes, in their order. -/
def State.cancellingAmong (s : State) (L : List OrderNo) : List (OrderNo × Order) :=
  L.filterMap fun i => (s.order i).bind fun o => if o.state = .cancelling then some (i, o) else none

theorem cancelling_eq_among (s : State) : s.cancelling = s.cancellingAmong (List.finRange 128) := rfl

/-- What the return of the CANCELLING orders among some indexes does. -/
theorem returnCancelling_cases (L : List OrderNo) (r : Returned) (hL : L.Nodup) :
    (L.foldl returnCancelling r).freed
        = r.freed ++ (r.state.cancellingAmong L).map (fun x => (r.state.handleOf x.1, x.2.webNumber))
      ∧ (L.foldl returnCancelling r).state.book.lines
        = (((r.state.cancellingAmong L).flatMap (·.2.lines)).foldl returnLine r.state).book.lines
      ∧ (L.foldl returnCancelling r).state.artworks
        = (((r.state.cancellingAmong L).flatMap (·.2.lines)).foldl returnLine r.state).artworks
      ∧ (∀ i, (L.foldl returnCancelling r).state.order i =
          if i ∈ L ∧ (∃ o, r.state.order i = some o ∧ o.state = .cancelling) then none else r.state.order i)
      ∧ (∀ i, ((L.foldl returnCancelling r).state.handleOf i).generation =
          if i ∈ L ∧ (∃ o, r.state.order i = some o ∧ o.state = .cancelling) then
            (if (r.state.handleOf i).generation = 255 then 1 else (r.state.handleOf i).generation + 1)
          else (r.state.handleOf i).generation)
      ∧ (L.foldl returnCancelling r).state.book.active = r.state.book.active
      ∧ (L.foldl returnCancelling r).state.book.sequence = r.state.book.sequence
      ∧ (L.foldl returnCancelling r).state = { r.state with
          book := (L.foldl returnCancelling r).state.book
          artworks := (L.foldl returnCancelling r).state.artworks } := by
  induction L generalizing r with
  | nil => exact ⟨by simp [State.cancellingAmong], rfl, rfl, by simp, by simp, rfl, rfl, rfl⟩
  | cons i L ih =>
    rw [List.nodup_cons] at hL
    rw [List.foldl_cons]
    by_cases hc : ∃ o, r.state.order i = some o ∧ o.state = .cancelling
    · obtain ⟨o, ho, hs⟩ := hc
      have e : returnCancelling r i =
          { state := returnDescriptor i r.state, freed := r.freed ++ [(r.state.handleOf i, o.webNumber)] } := by
        simp only [returnCancelling, ho, hs, if_true]
      obtain ⟨d1, d2, d3, d4, d5, _, _, d8⟩ := returnDescriptor_cases ho
      have rl := returnDescriptor_lines ho
      rw [e]
      obtain ⟨h1, h2, h3, h4, h5, h6, h7, h8⟩ := ih
        { state := returnDescriptor i r.state, freed := r.freed ++ [(r.state.handleOf i, o.webNumber)] } hL.2
      simp only at *
      generalize L.foldl returnCancelling
        { state := returnDescriptor i r.state, freed := r.freed ++ [(r.state.handleOf i, o.webNumber)] } = R at *
      have hne : ∀ j ∈ L, j ≠ i := fun j hj e => hL.1 (e ▸ hj)
      have hcL : (returnDescriptor i r.state).cancellingAmong L = r.state.cancellingAmong L := by
        unfold State.cancellingAmong
        apply List.filterMap_congr
        intro j hj
        rw [(d3 j (hne j hj)).1]
      have hc1 : r.state.cancellingAmong (i :: L) = (i, o) :: r.state.cancellingAmong L := by
        unfold State.cancellingAmong; rw [List.filterMap_cons]; simp [ho, hs]
      rw [hcL] at h1 h2 h3
      have cg := returnLines_congr ((r.state.cancellingAmong L).flatMap (·.2.lines)) rl.1 rl.2
      refine ⟨?_, ?_, ?_, fun j => ?_, fun j => ?_, by rw [h6, d4], by rw [h7, d5], by rw [h8, d8]⟩
      · rw [h1, hc1]
        simp only [List.map_cons, List.append_assoc, List.singleton_append]
        congr 2
        apply List.map_congr_left
        intro x hx
        have hxL : x.1 ∈ L := by
          obtain ⟨j, hj, e⟩ := List.mem_filterMap.mp hx
          cases h : r.state.order j with
          | none => simp [h] at e
          | some o' => simp only [h, Option.bind_some] at e; split at e <;> simp at e; rw [← e]; exact hj
        rw [(d3 _ (hne _ hxL)).2]
      · rw [h2, hc1, List.flatMap_cons, List.foldl_append]; exact cg.1
      · rw [h3, hc1, List.flatMap_cons, List.foldl_append]; exact cg.2
      · rw [h4]
        by_cases hj : j = i
        · subst hj; simp [d1, ho, hs]
        · rw [(d3 j hj).1]; simp [hj]
      · rw [h5]
        by_cases hj : j = i
        · subst hj; simp [d1, d2, ho, hs]
        · rw [(d3 j hj).1, (d3 j hj).2]; simp [hj]
    · have e : returnCancelling r i = r := by
        unfold returnCancelling
        split
        · rename_i o ho; rw [if_neg]; intro h; exact hc ⟨o, ho, h⟩
        · rfl
      rw [e]
      obtain ⟨h1, h2, h3, h4, h5, h6, h7, h8⟩ := ih r hL.2
      have hc1 : r.state.cancellingAmong (i :: L) = r.state.cancellingAmong L := by
        unfold State.cancellingAmong; rw [List.filterMap_cons]
        cases ho : r.state.order i with
        | none => simp
        | some o => simp only [Option.bind_some]; rw [if_neg]; intro h; exact hc ⟨o, ho, h⟩
      rw [hc1]
      refine ⟨h1, h2, h3, fun j => ?_, fun j => ?_, h6, h7, h8⟩
      · rw [h4]
        by_cases hj : j = i
        · subst hj; simp [hc]
        · simp [hj]
      · rw [h5]
        by_cases hj : j = i
        · subst hj; simp [hc]
        · simp [hj]

/-! ### Shirts in flight -/

/-- A sum is above 0 where a summand is. -/
theorem sum_pos_iff {l : List Nat} : 0 < l.sum ↔ ∃ x ∈ l, 0 < x := by
  induction l with
  | nil => simp
  | cons a l ih =>
    rw [List.sum_cons]
    constructor
    · intro h
      by_cases ha : 0 < a
      · exact ⟨a, by simp, ha⟩
      · obtain ⟨x, hx, h0⟩ := ih.mp (by omega); exact ⟨x, by simp [hx], h0⟩
    · rintro ⟨x, hx, h0⟩
      rcases List.mem_cons.mp hx with rfl | hx
      · omega
      · have := ih.mpr ⟨x, hx, h0⟩; omega

/-- An order has a shirt in flight exactly where one of its lines has (R35). -/
theorem totalInFlight_pos (s : State) (o : Order) :
    0 < totalInFlight s o ↔ ∃ k ∈ o.lines, ∃ l, s.line k = some l ∧ 0 < l.inFlight := by
  rw [totalInFlight, sum_pos_iff]
  constructor
  · rintro ⟨x, hx, h0⟩
    obtain ⟨l, hl, rfl⟩ := List.mem_map.mp hx
    obtain ⟨k, hk, e⟩ := List.mem_filterMap.mp hl
    exact ⟨k, hk, l, e, h0⟩
  · rintro ⟨k, hk, l, e, h0⟩
    exact ⟨_, List.mem_map.mpr ⟨l, List.mem_filterMap.mpr ⟨k, hk, e⟩, rfl⟩, h0⟩

end Sys2Proof.Machine
end

