-- ==== Sys2Proof/Laws/Submit.lean ====
section
/-! SUPPORT. SUBMIT ORDER's parts: what its body resolves to (R31, A.3), and what taking its line records does (R32). -/

namespace Sys2Proof.Machine

/-! ### The body -/

theorem lineEntryOf_bytes (e : LineEntry) (h : 1 ≤ e.quantity ∧ e.quantity ≤ 48) :
    lineEntryOf (BitVec.ofNat 8 e.artwork.val) (BitVec.ofNat 8 e.sku.fabric.val) (BitVec.ofNat 8 e.sku.colour.val)
      (BitVec.ofNat 8 e.sku.size.val) (BitVec.ofNat 8 e.quantity) = some e := by
  obtain ⟨a, ⟨f, c, z⟩, q⟩ := e
  simp only at h
  have hq : (BitVec.ofNat 8 q).toNat = q := by simp; omega
  unfold lineEntryOf skuOf
  simp only [recordNo_ofNat a (by omega), recordNo_ofNat f (by omega), recordNo_ofNat c (by omega),
    recordNo_ofNat z (by omega), hq]
  simp
  omega

/-- The bytes of line entries in range resolve to them. -/
theorem lineEntriesOf_bytes (es : List LineEntry) (h : ∀ e ∈ es, 1 ≤ e.quantity ∧ e.quantity ≤ 48) :
    lineEntriesOf (es.flatMap LineEntry.bytes) = some es := by
  induction es with
  | nil => rfl
  | cons e es ih =>
    have := lineEntryOf_bytes e (h e (by simp))
    rw [List.flatMap_cons]
    simp only [LineEntry.bytes, bytes1, skuBytes, List.cons_append, List.nil_append, lineEntriesOf] at ih ⊢
    rw [this, ih fun x hx => h x (by simp [hx])]
    rfl

/-- The bytes of a submission in range resolve to it. -/
theorem submissionOf_bytes (x : Submission) (h : x.inRange) : submissionOf x.bytes = some x := by
  obtain ⟨w, pr, al, es⟩ := x
  obtain ⟨h1, h2, h3, h4, h5⟩ := h
  simp only at h1 h2 h3 h4 h5
  simp only [Submission.bytes, bytes4, bytes1, List.cons_append, List.nil_append, submissionOf]
  rw [show (BitVec.ofNat 8 pr).toNat = pr by simp; omega, show (BitVec.ofNat 8 al).toNat = al by simp; omega,
    show (BitVec.ofNat 8 es.length).toNat = es.length by simp; omega, if_neg (by omega), lineEntriesOf_bytes es h5,
    number4_bytes4 (by have := w.isLt; omega)]
  simp

theorem byte_eq_zero_iff (b : Byte) : b = 0 ↔ b.toNat = 0 :=
  ⟨fun h => by subst h; rfl, fun h => BitVec.eq_of_toNat_eq h⟩

/-- A line entry with a field out of range resolves to nothing. -/
theorem lineEntryOf_bad {a f c z q : Byte}
    (h : 63 < a.toNat ∨ 7 < f.toNat ∨ 63 < c.toNat ∨ 7 < z.toNat ∨ q = 0 ∨ 48 < q.toNat) :
    lineEntryOf a f c z q = none := by
  rw [byte_eq_zero_iff] at h
  unfold lineEntryOf skuOf
  by_cases c1 : 63 < a.toNat
  · rw [recordNo_none (n := 64) (by omega)]; rfl
  rw [recordNo_val (n := 64) (i := ⟨a.toNat, by omega⟩) rfl]
  by_cases c2 : 7 < f.toNat
  · rw [recordNo_none (n := 8) (b := f) (by omega)]; rfl
  rw [recordNo_val (n := 8) (i := ⟨f.toNat, by omega⟩) rfl]
  by_cases c3 : 63 < c.toNat
  · rw [recordNo_none (n := 64) (b := c) (by omega)]; rfl
  rw [recordNo_val (n := 64) (i := ⟨c.toNat, by omega⟩) rfl]
  by_cases c4 : 7 < z.toNat
  · rw [recordNo_none (n := 8) (b := z) (by omega)]; rfl
  rw [recordNo_val (n := 8) (i := ⟨z.toNat, by omega⟩) rfl]
  have : q.toNat = 0 ∨ 48 < q.toNat := by omega
  simp [this]

/-- A body in which the k-th line entry has a field out of range resolves to nothing. -/
theorem lineEntriesOf_bad (k : Nat) (more : List Byte) {a f c z q : Byte}
    (h : (more.drop (5 * k)).take 5 = [a, f, c, z, q])
    (hb : 63 < a.toNat ∨ 7 < f.toNat ∨ 63 < c.toNat ∨ 7 < z.toNat ∨ q = 0 ∨ 48 < q.toNat) :
    lineEntriesOf more = none := by
  induction k generalizing more with
  | zero =>
    match more, h with
    | a' :: f' :: c' :: z' :: q' :: r, h =>
      simp at h
      obtain ⟨rfl, rfl, rfl, rfl, rfl⟩ := h
      unfold lineEntriesOf
      rw [lineEntryOf_bad hb]
      rfl
  | succ k ih =>
    match more with
    | a' :: f' :: c' :: z' :: q' :: r =>
      have : lineEntriesOf r = none := by
        apply ih r
        rw [← h, show 5 * (k + 1) = 5 * k + 5 by omega]
        rfl
      unfold lineEntriesOf
      rw [this]
      cases lineEntryOf a' f' c' z' q' <;> rfl
    | [] => simp at h
    | [_] => simp [show 5 * (k + 1) = 5 * k + 4 + 1 by omega] at h
    | [_, _] => simp [show 5 * (k + 1) = 5 * k + 3 + 1 + 1 by omega] at h
    | [_, _, _] => simp [show 5 * (k + 1) = 5 * k + 2 + 1 + 1 + 1 by omega] at h
    | [_, _, _, _] => simp [show 5 * (k + 1) = 5 * k + 1 + 1 + 1 + 1 + 1 by omega] at h

/-- No position names an EMPTY artwork exactly where every entry names a DEFINED one. -/
theorem emptyArtworkAt_none (s : State) (es : List LineEntry) :
    emptyArtworkAt s es = none ↔ ∀ e ∈ es, (tget s.artworks e.artwork).design.isSome = true := by
  unfold emptyArtworkAt
  rw [List.findIdx?_eq_none_iff]
  constructor <;> intro h e he <;> have := h e he <;> cases hh : (tget s.artworks e.artwork).design <;> simp_all

/-! ### Taking line records -/

/-- The line a SUBMIT ORDER makes of an entry. -/
def newLine (i : OrderNo) (k : Fin 8) (e : LineEntry) : Line :=
  { order := i, position := k, artwork := e.artwork, sku := e.sku, quantity := e.quantity
    good := 0, inFlight := 0, scrap := 0 }

/-- With a line record free, taking one gives the order a line more, of a record that was free. -/
theorem takeLine_cases {i : OrderNo} {s : State} {o : Order} (e : LineEntry) (k : Fin 8) (ho : s.order i = some o)
    (hf : 0 < freeLines s) :
    ∃ n : LineNo, s.line n = none ∧ (takeLine i s e k).order i = some { o with lines := o.lines ++ [n] }
      ∧ (∀ j, j ≠ i → (takeLine i s e k).order j = s.order j)
      ∧ (∀ j, (takeLine i s e k).handleOf j = s.handleOf j)
      ∧ (∀ m, (takeLine i s e k).line m = if m = n then some (newLine i k e) else s.line m)
      ∧ (∀ a : ArtworkNo, tget (takeLine i s e k).artworks a =
          { tget s.artworks a with refs := (tget s.artworks a).refs + if e.artwork = a then 1 else 0 })
      ∧ (takeLine i s e k).book.sequence = s.book.sequence ∧ (takeLine i s e k).book.active = s.book.active
      ∧ freeLines (takeLine i s e k) + 1 = freeLines s
      ∧ takeLine i s e k =
          { s with book := (takeLine i s e k).book, artworks := (takeLine i s e k).artworks } := by
  cases hl : lowestFreeLine s with
  | none =>
    unfold lowestFreeLine at hl
    rw [lowest_eq_none] at hl
    have : freeLines s = 0 := by
      unfold freeLines countOf
      rw [List.length_eq_zero_iff, List.filter_eq_nil_iff]
      intro a _ h
      have h2 := hl a
      rw [show (tget s.book.lines a).isNone = true from h] at h2
      cases h2
    omega
  | some n =>
    have hn : s.line n = none := by
      unfold lowestFreeLine at hl; simpa [State.line] using (lowest_some hl).1
    have eT : takeLine i s e k = putOrder i (some { o with lines := o.lines ++ [n] })
        (setRefs e.artwork (fun r => r + 1) (putLine n (some (newLine i k e)) s)) := by
      have ho' : (setRefs e.artwork (fun r => r + 1) (putLine n (some (newLine i k e)) s)).order i = some o := ho
      unfold takeLine
      simp only [hl]
      change modifyOrder i _ (setRefs e.artwork (fun r => r + 1) (putLine n (some (newLine i k e)) s)) = _
      unfold modifyOrder
      simp only [ho']
    have hline : ∀ m, (takeLine i s e k).line m = if m = n then some (newLine i k e) else s.line m := by
      intro m
      rw [eT]
      change tget (tset s.book.lines n _) m = _
      rw [tget_tset]; rfl
    refine ⟨n, hn, by rw [eT]; exact putOrder_order_same _ _ _, ?_, ?_, hline, ?_, by rw [eT]; rfl, by rw [eT]; rfl, ?_,
      by rw [eT]; rfl⟩
    · intro j hj; rw [eT, putOrder_order_ne _ _ hj]; rfl
    · intro j; rw [eT, putOrder_handleOf]; rfl
    · intro a
      rw [eT]
      change tget (tset s.artworks e.artwork _) a = _
      rw [tget_tset]
      by_cases h : a = e.artwork
      · subst h; simp
      · simp [h, Ne.symm h]
    · unfold freeLines countOf
      generalize takeLine i s e k = T at hline
      obtain ⟨A, B, eAB⟩ := List.append_of_mem (List.mem_finRange n)
      have hnd := List.nodup_finRange 384
      rw [eAB] at hnd ⊢
      rw [List.nodup_append] at hnd
      have hA : ∀ x ∈ A, x ≠ n := fun x hx => hnd.2.2 x hx n (by simp)
      have hB : ∀ x ∈ B, x ≠ n := fun x hx h => (List.nodup_cons.mp hnd.2.1).1 (h ▸ hx)
      have same : ∀ L : List LineNo, (∀ x ∈ L, x ≠ n) →
          L.filter (fun j => (tget T.book.lines j).isNone) = L.filter (fun j => (tget s.book.lines j).isNone) := by
        intro L h
        apply List.filter_congr
        intro x hx
        have := hline x
        rw [if_neg (h x hx)] at this
        change (T.line x).isNone = (s.line x).isNone
        rw [this]
      have hTn : (tget T.book.lines n).isNone = false := by
        have := hline n
        rw [if_pos rfl] at this
        change (T.line n).isNone = false
        rw [this]; rfl
      have hsn : (tget s.book.lines n).isNone = true := by
        change (s.line n).isNone = true
        rw [hn]; rfl
      simp only [List.filter_append, List.filter_cons, same A hA, same B hB, hTn, hsn, List.length_append, if_true,
        Bool.false_eq_true, if_false, List.length_cons]
      omega

/-- What taking the line records of a list of entries does, with as many free. -/
theorem takeLines_cases (i : OrderNo) (xs : List (LineEntry × Fin 8)) (s : State) (o : Order) (ho : s.order i = some o)
    (hf : xs.length ≤ freeLines s) :
    ∃ (ls : List LineNo) (t : State), xs.foldl (fun s x => takeLine i s x.1 x.2) s = t
      ∧ ls.length = xs.length ∧ ls.Nodup ∧ (∀ n ∈ ls, s.line n = none)
      ∧ t.order i = some { o with lines := o.lines ++ ls }
      ∧ (∀ j, j ≠ i → t.order j = s.order j) ∧ (∀ j, t.handleOf j = s.handleOf j)
      ∧ (∀ m, m ∉ ls → t.line m = s.line m)
      ∧ (∀ (q : Nat) (e : LineEntry) (k : Fin 8) (n : LineNo), xs[q]? = some (e, k) → ls[q]? = some n →
          t.line n = some (newLine i k e))
      ∧ (∀ a : ArtworkNo, tget t.artworks a =
          { tget s.artworks a with
            refs := (tget s.artworks a).refs + (xs.filter fun x => decide (x.1.artwork = a)).length })
      ∧ t.book.sequence = s.book.sequence ∧ t.book.active = s.book.active
      ∧ t = { s with book := t.book, artworks := t.artworks } := by
  induction xs generalizing s o with
  | nil => exact ⟨[], s, rfl, rfl, List.nodup_nil, by simp, by simpa using ho, by simp, by simp, by simp, by simp,
      by simp, rfl, rfl, rfl⟩
  | cons x xs ih =>
    obtain ⟨e, k⟩ := x
    simp only [List.length_cons] at hf
    obtain ⟨n, hn, h1, h2, h3, h4, h5, h6, h7, h8, h9⟩ := takeLine_cases e k ho (by omega)
    obtain ⟨ls, t, e0, g1, g2, g3, g4, g5, g6, g7, g8, g9, g10, g11, g12⟩ := ih (takeLine i s e k) _ h1 (by omega)
    have hnot : n ∉ ls := by
      intro h
      have := g3 n h
      rw [h4, if_pos rfl] at this
      cases this
    refine ⟨n :: ls, t, by rw [List.foldl_cons, e0], by simp [g1], List.nodup_cons.mpr ⟨hnot, g2⟩, fun m hm => ?_,
      by rw [g4]; simp [List.append_assoc], fun j hj => by rw [g5 j hj, h2 j hj], fun j => by rw [g6, h3],
      fun m hm => ?_, fun q e' k' n' hq hq2 => ?_, fun a => ?_, by rw [g10, h6], by rw [g11, h7], by rw [g12, h9]⟩
    · rcases List.mem_cons.mp hm with rfl | hm
      · exact hn
      · have := g3 m hm
        rwa [h4, if_neg fun h : m = n => hnot (h ▸ hm)] at this
    · simp only [List.mem_cons, not_or] at hm
      rw [g7 m hm.2, h4, if_neg hm.1]
    · cases q with
      | zero =>
        simp at hq hq2
        obtain ⟨rfl, rfl⟩ := hq
        subst hq2
        rw [g7 n hnot, h4, if_pos rfl]
      | succ q => simp at hq hq2; exact g8 q e' k' n' hq hq2
    · rw [g9, h5]
      by_cases h : e.artwork = a
      · simp [h]; omega
      · simp [h]

/-- An order put in its sorted place stands in the list. -/
theorem mem_insertActive (s : State) (i : OrderNo) (o : Order) (l : List OrderNo) : i ∈ insertActive s i o l := by
  induction l with
  | nil => simp [insertActive]
  | cons j l ih =>
    unfold insertActive
    split
    · split <;> simp [ih]
    · simp [ih]

end Sys2Proof.Machine
end

