-- ==== Sys2Proof/Laws/Transfer.lean ====
section
/-! SUPPORT. The Tunnel station follows its entry test: what the entry test is, and which operations on the tunnel queue,
the exit list and the station keep `State.transferFollows` (R126, R127); and the removal that completes its quiesce (R133). -/

namespace Sys2Proof.Machine

/-- What the entry test asks (R127). -/
theorem entryTest_iff (s : State) :
    entryTest s = true ↔ s.tunnel.quiesce = .running ∧ s.tunnel.ready = true ∧ s.tunnel.queue.length < 10
      ∧ s.pack.exits.length < 16 := by
  simp only [entryTest, Bool.and_eq_true, decide_eq_true_eq, and_assoc]
  exact Iff.rfl

@[simp] theorem retest_held (s : State) : (retest s).tunnel.held = s.tunnel.held := by unfold retest; split <;> simp
@[simp] theorem retest_quiesce (s : State) : (retest s).tunnel.quiesce = s.tunnel.quiesce := by unfold retest; split <;> simp
@[simp] theorem retest_ready (s : State) : (retest s).tunnel.ready = s.tunnel.ready := by unfold retest; split <;> simp

/-- The station is held to its unit: it is not IDLE exactly while it has one. -/
def State.transferHeld (s : State) : Prop := s.tunnel.state ≠ .idle ↔ s.tunnel.held.isSome = true

/-- What leaves the tunnel and the exit list alone leaves the station following its test. -/
theorem transferFollows_of_eq {s t : State} (ht : t.tunnel = s.tunnel) (hp : t.pack.exits = s.pack.exits)
    (h : s.transferFollows) : t.transferFollows := by
  unfold State.transferFollows at *; rw [ht, hp]; exact h

/-- The entry test made again brings the station into agreement with it (R127). -/
theorem retest_follows {s : State} (h : s.transferHeld) : (retest s).transferFollows := by
  rcases retest_cases s with ⟨hi, e⟩ | ⟨hi, e⟩
  · rw [e]; exact ⟨h, fun c => absurd hi c⟩
  · rw [e]
    refine ⟨⟨fun _ => by simpa using h.mp hi, fun _ => by simp only [State.setTunnel_tunnel]; split <;> simp⟩, fun _ => ?_⟩
    rw [← entryTest_iff]
    simp only [State.setTunnel_tunnel]
    have e2 : entryTest (s.setTunnel { s.tunnel with state := if entryTest s then .transferWait else .inhibited })
        = entryTest s := rfl
    rw [e2]
    cases entryTest s <;> simp

theorem completeTunnelQuiesce_held {s : State} (h : s.transferHeld) : (completeQuiesce .tunnel s).transferHeld := by
  rcases completeQuiesce_cases .tunnel s with ⟨_, e⟩ | ⟨_, e⟩ <;> rw [e] <;> exact h

theorem leaveQueue_follows (u : UnitNo) {s : State} (h : s.transferFollows) : (leaveQueue u s).transferFollows := by
  unfold leaveQueue
  dsimp only
  split
  · apply retest_follows
    split
    · exact completeTunnelQuiesce_held h.1
    · exact h.1
  · exact h

theorem joinQueue_follows (u : UnitNo) {s : State} (h : s.transferHeld) : (joinQueue u s).transferFollows := retest_follows h

theorem leaveExits_follows (u : UnitNo) {s : State} (h : s.transferFollows) : (leaveExits u s).transferFollows := by
  unfold leaveExits
  split
  · exact retest_follows h.1
  · exact h

theorem joinExits_follows (u : UnitNo) {s : State} (h : s.transferHeld) : (joinExits u s).transferFollows :=
  retest_follows (by unfold State.transferHeld at *; simpa [setUnitState] using h)

theorem freeUnit_follows (d : Disposition) (u : UnitNo) {s : State} (h : s.transferFollows) :
    (freeUnit d u s).transferFollows := by
  unfold freeUnit
  split
  · exact h
  · refine transferFollows_of_eq (s := leavePlace u s) (by simp) (by simp) ?_
    exact leaveExits_follows u (leaveQueue_follows u (transferFollows_of_eq (by simp) (by simp) h))

theorem tunnelRelease_follows (s : State) : (tunnelRelease s).transferFollows :=
  ⟨by simp [tunnelRelease], fun h => absurd rfl h⟩

theorem tunnelHold_follows (u : UnitNo) (s : State) : (tunnelHold u s).transferFollows := by
  have e : entryTest (tunnelHold u s) = entryTest s := rfl
  refine ⟨by simp only [tunnelHold, State.setTunnel_tunnel]; split <;> simp, fun _ => ?_⟩
  rw [← entryTest_iff, e]
  simp only [tunnelHold, State.setTunnel_tunnel]
  cases entryTest s <;> simp

theorem tunnelArrival_follows {s : State} (h : s.transferFollows) : (tunnelArrival s).transferFollows := by
  unfold tunnelArrival
  split
  · exact h
  · dsimp only
    split
    · exact transferFollows_of_eq rfl rfl h
    · exact tunnelHold_follows _ _

theorem liftUnit_follows (u : UnitNo) {s : State} (h : s.transferFollows) : (liftUnit u s).transferFollows := by
  unfold liftUnit
  dsimp only
  split
  · exact tunnelRelease_follows _
  · exact transferFollows_of_eq (by simp) (by simp) h

theorem loseUnit_follows (u : UnitNo) (r : LostReason) {s : State} (h : s.transferFollows) :
    (loseUnit u r s).transferFollows := by
  unfold loseUnit
  split
  · exact leaveQueue_follows u h
  · exact transferFollows_of_eq rfl rfl (freeUnit_follows .lost u h)

theorem enterQueue_follows (u : UnitNo) (b : Bool) {s : State} (h : s.transferFollows) :
    (enterQueue u b s).transferFollows :=
  joinQueue_follows u (by unfold State.transferHeld; simpa using h.1)

theorem tunnelEntry_follows {s : State} (h : s.transferFollows) : (tunnelEntry s).transferFollows := by
  unfold tunnelEntry
  split
  · exact transferFollows_of_eq rfl rfl h
  · split
    · exact enterQueue_follows _ _ (liftUnit_follows _ h)
    · unfold forcedEntry
      split
      · exact enterQueue_follows _ _ (liftUnit_follows _ h)
      · split
        · exact joinExits_follows _ (by unfold State.transferHeld; simpa using (liftUnit_follows _ h).1)
        · exact loseUnit_follows _ _ (liftUnit_follows _ h)

theorem missingGarments_follows (n : Nat) {s : State} (h : s.transferFollows) : (missingGarments n s).transferFollows := by
  induction n generalizing s with
  | zero => exact h
  | succ n ih =>
    unfold missingGarments
    split
    · exact h
    · split
      · exact ih (loseUnit_follows _ _ h)
      · exact h

theorem beltStep_follows {s : State} (h : s.transferFollows) : (beltStep s).transferFollows :=
  missingGarments_follows _ h

theorem tunnelExit_follows {s : State} (h : s.transferFollows) : (tunnelExit s).transferFollows := by
  unfold tunnelExit
  split
  · exact transferFollows_of_eq rfl rfl h
  · split
    · exact transferFollows_of_eq rfl rfl h
    · split
      · rename_i r _ _ _ _
        exact transferFollows_of_eq (s := joinExits r.unit (leaveQueue r.unit s)) (by simp [exitUnit]) (by simp [exitUnit])
          (joinExits_follows _ (leaveQueue_follows _ h).1)
      · exact loseUnit_follows _ _ h

theorem acceptRecure_follows (u : UnitNo) (c : CureRecord) {s : State} (h : s.transferFollows) :
    (acceptRecure u c s).transferFollows :=
  joinQueue_follows u (by unfold State.transferHeld; simpa using (leaveExits_follows u h).1)

/-- An accepted profile write finds the station QUIESCED, so the test fails before it and after it (R123). -/
theorem acceptProfile_follows (x : CureProfile) {s : State} (h : s.transferFollows) (hq : s.tunnel.quiesce = .quiesced) :
    (acceptProfile x s).transferFollows := by
  refine ⟨h.1, fun hs => ?_⟩
  have := h.2 hs
  simp only [acceptProfile, State.setTunnel_tunnel]
  simp [hq] at this ⊢
  exact this

theorem readyTest_follows {s : State} (h : s.transferFollows) : (readyTest s).transferFollows := by
  unfold readyTest
  repeat' split
  · exact h
  · exact h
  · exact h
  · exact retest_follows h.1

/-- A port's part is read out of the ports. -/
theorem port_of_ports {s t : State} (h : t.ports = s.ports) (q : Port) : t.port q = s.port q := by
  unfold State.port; rw [h]

/-- The removal that empties the queue of a QUIESCING tunnel completes its quiesce (R133, R165). -/
theorem leaveQueue_completes {u : UnitNo} {s : State} (hm : ∃ r ∈ s.tunnel.queue, r.unit = u)
    (ha : ∀ x ∈ s.tunnel.queue, x.unit = u) (hq : s.tunnel.quiesce = .quiescing) :
    (leaveQueue u s).tunnel.quiesce = .quiesced
      ∧ (leaveQueue u s).port .order = (s.port .order).join ⟨.quiesced .tunnel, s.time.now⟩
      ∧ ∀ q, q ≠ Port.order → (leaveQueue u s).port q = s.port q := by
  have h1 : (s.tunnel.queue.any fun r => decide (r.unit = u)) = true := by simpa using hm
  have h2 : (s.tunnel.queue.filter fun r => decide (r.unit ≠ u)) = [] := by simpa using ha
  unfold leaveQueue
  rw [if_pos h1]; dsimp only; rw [h2]
  simp only [State.setTunnel_tunnel, List.isEmpty_nil, if_true]
  have hc : completeQuiesce .tunnel (s.setTunnel { s.tunnel with queue := [] }) =
      post .order (.quiesced .tunnel) (setQuiesce .tunnel .quiesced (s.setTunnel { s.tunnel with queue := [] })) := if_pos hq
  rw [hc]
  refine ⟨by rw [retest_quiesce]; rfl, ?_, ?_⟩
  · rw [port_of_ports (retest_ports _), post_port, if_pos rfl]; rfl
  · intro q hq; rw [port_of_ports (retest_ports _), post_port, if_neg hq]; rfl

/-- Any other removal leaves the quiesce state and the ports. -/
theorem leaveQueue_quiesce_stays {u : UnitNo} {s : State}
    (h : (∃ x ∈ s.tunnel.queue, x.unit ≠ u) ∨ s.tunnel.quiesce ≠ .quiescing) :
    (leaveQueue u s).tunnel.quiesce = s.tunnel.quiesce ∧ (leaveQueue u s).ports = s.ports := by
  unfold leaveQueue; split
  · dsimp only
    rw [retest_quiesce, retest_ports]
    split
    · rename_i h2
      have : s.tunnel.quiesce ≠ .quiescing := by
        rcases h with ⟨x, hx, hn⟩ | h
        · simp at h2; exact absurd (h2 x hx) hn
        · exact h
      have hc : completeQuiesce .tunnel
          (s.setTunnel { s.tunnel with queue := s.tunnel.queue.filter fun r => decide (r.unit ≠ u) }) = _ := if_neg this
      rw [hc]; exact ⟨rfl, rfl⟩
    · exact ⟨rfl, rfl⟩
  · exact ⟨rfl, rfl⟩

end Sys2Proof.Machine
end

