-- ==== Sys2Proof/Laws/Unmoved.lean ====
section
/-! SUPPORT. What the stations leave alone. Every operation of the Pretreat station, the spray bar, the Print station
and the heater control, and most of the Tunnel station's, moves no unit from its place and no claim from its line, and
keeps the books, the artworks and the pack table: it leaves the state `Unmoved`. -/

namespace Sys2Proof.Machine

/-- What places and claims a unit: its platen, its order handle and its line position. -/
def Shirt.claim (sh : Shirt) : Option PlatenNo × Handle × Fin 8 := (sh.platen, sh.order, sh.line)

/-- From `s` to `t` no unit changes its place or its claim, none becomes EXITED, and the books, the artworks and the
pack table stay. -/
structure Unmoved (s t : State) : Prop where
  units : ∀ p : PlatenNo, (tget t.ring.platens p).unit = (tget s.ring.platens p).unit
  queue : t.queued = s.queued
  pack : t.pack = s.pack
  book : t.book = s.book
  artworks : t.artworks = s.artworks
  shirts : ∀ u, (t.shirt u).map Shirt.claim = (s.shirt u).map Shirt.claim
  exited : ∀ u sh, t.shirt u = some sh → sh.state = .exited → ∃ sh', s.shirt u = some sh' ∧ sh'.state = .exited

namespace Unmoved

theorem refl (s : State) : Unmoved s s := ⟨fun _ => rfl, rfl, rfl, rfl, rfl, fun _ => rfl, fun _ sh h e => ⟨sh, h, e⟩⟩

theorem trans {s t u : State} (a : Unmoved s t) (b : Unmoved t u) : Unmoved s u where
  units p := (b.units p).trans (a.units p)
  queue := b.queue.trans a.queue
  pack := b.pack.trans a.pack
  book := b.book.trans a.book
  artworks := b.artworks.trans a.artworks
  shirts v := (b.shirts v).trans (a.shirts v)
  exited v sh h e := by
    obtain ⟨sh', h', e'⟩ := b.exited v sh h e
    exact a.exited v sh' h' e'

/-- A change outside these blocks. -/
theorem of_blocks {s t : State} (h1 : t.ring.platens = s.ring.platens) (h2 : t.units = s.units)
    (h3 : t.tunnel.queue = s.tunnel.queue) (h4 : t.pack = s.pack) (h5 : t.book = s.book)
    (h6 : t.artworks = s.artworks) : Unmoved s t where
  units p := by rw [h1]
  queue := by simp only [State.queued, h3]
  pack := h4
  book := h5
  artworks := h6
  shirts u := by simp only [State.shirt, h2]
  exited u sh h e := ⟨sh, by simpa only [State.shirt, h2] using h, e⟩

end Unmoved

/-! ### The shared operations -/

theorem setPort_unmoved (s : State) (p : Port) (x : PortState) : Unmoved s (s.setPort p x) := .of_blocks rfl rfl rfl rfl rfl rfl

theorem send_unmoved (s : State) (p : Port) (f : Frame) : Unmoved s (s.send p f) := .of_blocks rfl rfl rfl rfl rfl rfl

theorem without_unmoved (s : State) (p : Port) (l : List Frame) : Unmoved s (s.without p l) :=
  .of_blocks rfl rfl rfl rfl rfl rfl

theorem setPending_unmoved (s : State) (l : List Instr) : Unmoved s { s with pending := l } :=
  .of_blocks rfl rfl rfl rfl rfl rfl

theorem setTime_unmoved (s : State) (v : TimeBase) : Unmoved s (s.setTime v) := .of_blocks rfl rfl rfl rfl rfl rfl

theorem setLoad_unmoved (s : State) (v : LoadStation) : Unmoved s (s.setLoad v) := .of_blocks rfl rfl rfl rfl rfl rfl

theorem setPretreat_unmoved (s : State) (v : Pretreat) : Unmoved s (s.setPretreat v) := .of_blocks rfl rfl rfl rfl rfl rfl

theorem setBar_unmoved (s : State) (v : Bar) : Unmoved s (s.setBar v) := .of_blocks rfl rfl rfl rfl rfl rfl

theorem setPrint_unmoved (s : State) (v : Print) : Unmoved s (s.setPrint v) := .of_blocks rfl rfl rfl rfl rfl rfl

theorem setTunnel_unmoved (s : State) (v : Tunnel) (h : v.queue = s.tunnel.queue) : Unmoved s (s.setTunnel v) :=
  .of_blocks rfl rfl h rfl rfl rfl

theorem setRing_unmoved (s : State) (v : Ring) (h : v.platens = s.ring.platens) : Unmoved s (s.setRing v) :=
  .of_blocks h rfl rfl rfl rfl rfl

theorem post_unmoved (p : Port) (n : Notice) (s : State) : Unmoved s (post p n s) := setPort_unmoved s p _

theorem releaseHold_unmoved (w : Holder) (s : State) : Unmoved s (releaseHold w s) :=
  setRing_unmoved s _ (Ring.release_platens s.ring w)

theorem takeArrival_unmoved (w : Holder) (s : State) : Unmoved s (takeArrival w s) := setRing_unmoved s _ rfl

/-- A revision of a unit's record that keeps its platen, its order and its line, and makes it EXITED only if it was. -/
theorem modifyShirt_unmoved (u : UnitNo) (f : Shirt → Shirt) (s : State)
    (hf : ∀ sh, (f sh).claim = sh.claim ∧ ((f sh).state = .exited → sh.state = .exited)) :
    Unmoved s (modifyShirt u f s) := by
  have hb : (modifyShirt u f s).ring = s.ring ∧ (modifyShirt u f s).tunnel = s.tunnel ∧ (modifyShirt u f s).pack = s.pack
      ∧ (modifyShirt u f s).book = s.book ∧ (modifyShirt u f s).artworks = s.artworks := by
    unfold modifyShirt; split <;> exact ⟨rfl, rfl, rfl, rfl, rfl⟩
  obtain ⟨h1, h2, h3, h4, h5⟩ := hb
  refine ⟨fun p => by rw [h1], by simp only [State.queued, h2], h3, h4, h5, fun v => ?_, fun v sh h e => ?_⟩
  · by_cases hv : v = u
    · subst hv
      rw [modifyShirt_shirt_same, Option.map_map]
      cases s.shirt v with
      | none => rfl
      | some sh => exact congrArg some (hf sh).1
    · rw [modifyShirt_shirt_ne f s hv]
  · by_cases hv : v = u
    · subst hv
      rw [modifyShirt_shirt_same] at h
      cases h' : s.shirt v with
      | none => rw [h'] at h; cases h
      | some sh' =>
        rw [h'] at h
        obtain rfl := Option.some.inj h
        exact ⟨sh', rfl, (hf sh').2 e⟩
    · rw [modifyShirt_shirt_ne f s hv] at h
      exact ⟨sh, h, e⟩

theorem setUnitState_unmoved (u : UnitNo) {st : UnitState} (h : st ≠ .exited) (s : State) :
    Unmoved s (setUnitState u st s) :=
  modifyShirt_unmoved u _ s fun _ => ⟨rfl, fun e => absurd e h⟩

theorem noteFault_unmoved (u : UnitNo) (f : UnitFault) (s : State) : Unmoved s (noteFault u f s) :=
  modifyShirt_unmoved u _ s fun _ => ⟨rfl, id⟩

theorem setQuiesce_unmoved (st : Station) (q : Quiesce) (s : State) : Unmoved s (setQuiesce st q s) := by
  cases st <;> exact .of_blocks rfl rfl rfl rfl rfl rfl

theorem completeQuiesce_unmoved (st : Station) (s : State) : Unmoved s (completeQuiesce st s) := by
  rcases completeQuiesce_cases st s with ⟨_, h⟩ | ⟨_, h⟩ <;> rw [h]
  · exact .refl s
  · exact (setQuiesce_unmoved st _ s).trans (post_unmoved _ _ _)

theorem retest_unmoved (s : State) : Unmoved s (retest s) := by
  rcases retest_cases s with ⟨_, h⟩ | ⟨_, h⟩ <;> rw [h]
  · exact .refl s
  · exact setTunnel_unmoved _ _ (by rfl)

/-! ### The Pretreat station and the spray bar -/

theorem setPretreatState_unmoved (st : PretreatState) (p : Option SprayPlan) (s : State) :
    Unmoved s (setPretreatState st p s) := setPretreat_unmoved s _

theorem pretreatRelease_unmoved (s : State) : Unmoved s (pretreatRelease s) :=
  (setPretreatState_unmoved _ _ s).trans (releaseHold_unmoved _ _)

theorem postPretreated_unmoved (u : UnitNo) (s : State) : Unmoved s (postPretreated u s) := by
  unfold postPretreated
  split
  · exact post_unmoved _ _ s
  · exact .refl s

theorem startTestFor_unmoved (u : UnitNo) (sh : Shirt) (s : State) : Unmoved s (startTestFor u sh s) := by
  unfold startTestFor
  split
  · exact setPretreatState_unmoved _ _ s
  · dsimp only
    split
    · unfold passUnsprayed
      exact ((modifyShirt_unmoved u
        (fun sh => { sh with state := .pretreated, dose := some { sweeps := 0, fluid := 0 } }) s
        fun _ => ⟨rfl, by simp⟩).trans (pretreatRelease_unmoved _)).trans (postPretreated_unmoved u _)
    · split
      · exact setPretreatState_unmoved _ _ s
      · split
        · unfold enterLowFluid
          dsimp only
          split
          · exact setPretreatState_unmoved _ _ s
          · exact (setPretreatState_unmoved _ _ s).trans (post_unmoved _ _ _)
        · unfold startSequence
          exact ((setPretreat_unmoved s _).trans (modifyShirt_unmoved u
            (fun x => { x with
              state := .pretreating
              dose := some { sweeps := (sprayPlanOf s u sh).sweepCount, fluid := (sprayPlanOf s u sh).fluidTotal }
              flags := { x.flags with saturated := x.flags.saturated || (sprayPlanOf s u sh).saturated } }) _
            fun _ => ⟨rfl, by simp⟩)).trans (setBar_unmoved _ _)

theorem pretreatStartTest_unmoved (s : State) : Unmoved s (pretreatStartTest s) := by
  unfold pretreatStartTest
  split
  · exact .refl s
  · split
    · exact startTestFor_unmoved _ _ s
    · exact .refl s

theorem pretreatArrival_unmoved (s : State) : Unmoved s (pretreatArrival s) := by
  unfold pretreatArrival
  split
  · exact .refl s
  · refine (takeArrival_unmoved .pretreat s).trans ?_
    dsimp only
    split
    · exact pretreatRelease_unmoved _
    · split
      · exact pretreatRelease_unmoved _
      · split
        · exact pretreatRelease_unmoved _
        · exact startTestFor_unmoved _ _ _

theorem barInPosition_unmoved (s : State) : Unmoved s (barInPosition s) := by
  unfold barInPosition
  split
  · split
    · exact setBar_unmoved s _
    · split
      · split
        · exact setBar_unmoved s _
        · exact (setBar_unmoved s _).trans ((setUnitState_unmoved _ (by simp) _).trans
            ((pretreatRelease_unmoved _).trans ((postPretreated_unmoved _ _).trans (completeQuiesce_unmoved _ _))))
      · exact setBar_unmoved s _
    · exact .refl s
  · split
    · dsimp only
      split
      · exact (setBar_unmoved s _).trans (pretreatStartTest_unmoved _)
      · exact setBar_unmoved s _
    · exact .refl s
  all_goals exact .refl s

theorem bareFault_unmoved (s : State) : Unmoved s (bareFault s) := by
  refine (setBar_unmoved s s.bar.fail).trans (.trans ?_ (post_unmoved _ _ _))
  split
  · exact setPretreatState_unmoved _ _ _
  · exact .refl _

theorem sequenceFaulted_unmoved (p : SprayPlan) (s : State) : Unmoved s (sequenceFaulted p s) :=
  (setBar_unmoved s _).trans ((noteFault_unmoved _ _ _).trans ((setUnitState_unmoved _ (by simp) _).trans
    ((pretreatRelease_unmoved _).trans ((completeQuiesce_unmoved _ _).trans (post_unmoved _ _ _)))))

theorem barFault_unmoved (s : State) : Unmoved s (barFault s) := by
  unfold barFault
  split
  · split
    · exact (setBar_unmoved s _).trans (post_unmoved _ _ _)
    · exact .refl s
  · exact bareFault_unmoved s
  all_goals
    split
    · exact sequenceFaulted_unmoved _ s
    · exact bareFault_unmoved s

/-! ### The Print station -/

theorem setPrintState_unmoved (st : PrintState) (s : State) : Unmoved s (setPrintState st s) := setPrint_unmoved s _

theorem writePrintError_unmoved (c : PrintCause) (t : Tag) (pl : Option SwathPlace) (s : State) :
    Unmoved s (writePrintError c t pl s) := by
  unfold writePrintError
  split
  · exact (setPrint_unmoved s _).trans (post_unmoved _ _ _)
  · exact setPrint_unmoved s _

theorem printStartTestFor_unmoved (u : UnitNo) (sh : Shirt) (s : State) : Unmoved s (printStartTestFor u sh s) := by
  unfold printStartTestFor
  split
  · exact setPrintState_unmoved _ s
  · split
    · exact (setPrint_unmoved s _).trans ((post_unmoved _ _ _).trans (setPrint_unmoved _ _))
    · unfold waitArtwork
      dsimp only
      split
      · exact setPrintState_unmoved _ s
      · exact (setPrintState_unmoved _ s).trans ((setPrint_unmoved _ _).trans (post_unmoved _ _ _))

theorem printStartTest_unmoved (s : State) : Unmoved s (printStartTest s) := by
  unfold printStartTest
  split
  · exact .refl s
  · split
    · exact printStartTestFor_unmoved _ _ s
    · exact .refl s

theorem printRelease_unmoved (s : State) : Unmoved s (printRelease s) :=
  (setPrint_unmoved s _).trans (releaseHold_unmoved _ _)

theorem releasePrinted_unmoved (s : State) : Unmoved s (releasePrinted s) := by
  unfold releasePrinted
  split
  · exact .refl s
  · exact (setUnitState_unmoved _ (by simp) s).trans ((setPrint_unmoved _ _).trans
      ((printRelease_unmoved _).trans (completeQuiesce_unmoved _ _)))

theorem printArrival_unmoved (s : State) : Unmoved s (printArrival s) := by
  unfold printArrival
  split
  · exact .refl s
  · refine (takeArrival_unmoved .print s).trans ?_
    dsimp only
    split
    · exact releaseHold_unmoved _ _
    · split
      · exact releaseHold_unmoved _ _
      · split
        · exact (noteFault_unmoved _ _ _).trans (releaseHold_unmoved _ _)
        · exact (setPrint_unmoved _ _).trans ((setUnitState_unmoved _ (by simp) _).trans (printStartTest_unmoved _))

theorem acceptRegistered_unmoved (u : UnitNo) (sh : Shirt) (s : State) : Unmoved s (acceptRegistered u sh s) := by
  unfold acceptRegistered
  dsimp only
  have h := fun x => (modifyShirt_unmoved u
    (fun x => { x with print := some { white := 0, colour := 0, fired := 0, dry := 0 } }) s fun _ => ⟨rfl, id⟩).trans
    (setPrint_unmoved _ x)
  split
  · exact .trans (h _) (releasePrinted_unmoved _)
  · exact h _

theorem acceptRegisterFault_unmoved (u : UnitNo) (s : State) : Unmoved s (acceptRegisterFault u s) :=
  (noteFault_unmoved _ _ s).trans ((writePrintError_unmoved _ _ _ _).trans
    ((setPrint_unmoved _ _).trans (releasePrinted_unmoved _)))

theorem issueSwath_unmoved (d : Design) (tag : Tag) (t : Traverse) (s : State) : Unmoved s (issueSwath d tag t s).2 := by
  unfold issueSwath
  dsimp only
  split
  · exact (setPrint_unmoved s _).trans (setPrint_unmoved _ _)
  · exact setPrint_unmoved s _

theorem afterOldest_unmoved (rest : List SwathOrder) (s : State) : Unmoved s (afterOldest rest s) := by
  unfold afterOldest
  dsimp only
  split <;> exact (setPrint_unmoved s _).trans (setPrint_unmoved _ _)

theorem parkIfDrained_unmoved (s : State) : Unmoved s (parkIfDrained s) := by
  unfold parkIfDrained
  split
  · exact setPrintState_unmoved _ s
  · exact .refl s

theorem abortPrint_unmoved (o : SwathOrder) (f : UnitFault) (c : PrintCause) (s : State) :
    Unmoved s (abortPrint o f c s) := by
  unfold abortPrint
  dsimp only
  refine Unmoved.trans (t := if s.print.state = .passing then noteFault o.tag.unit f s else s) ?_
    ((writePrintError_unmoved _ _ _ _).trans ((setPrintState_unmoved _ _).trans (parkIfDrained_unmoved _)))
  split
  · exact noteFault_unmoved _ _ s
  · exact .refl s

theorem creditSwath_unmoved (o : SwathOrder) (s : State) : Unmoved s (creditSwath o s) := by
  unfold creditSwath
  exact modifyShirt_unmoved _ _ s fun sh => ⟨rfl, id⟩

theorem swathReported_unmoved (o : SwathOrder) (rest : List SwathOrder) (result : Byte) (s : State) :
    Unmoved s (swathReported o rest result s) := by
  have failed : ∀ c, Unmoved s (swathFailed o rest c s) := fun c =>
    (afterOldest_unmoved rest s).trans (abortPrint_unmoved _ _ _ _)
  unfold swathReported
  split
  · unfold swathOk
    dsimp only
    refine (creditSwath_unmoved o s).trans ((afterOldest_unmoved rest _).trans ?_)
    split
    · exact releasePrinted_unmoved _
    · exact parkIfDrained_unmoved _
  · split <;> exact failed _

theorem watchdogExpiry_unmoved (s : State) : Unmoved s (watchdogExpiry s) := by
  have ended : ∀ o rest, Unmoved s (terminateOldest o rest s) := fun o rest =>
    (setPrint_unmoved s _).trans ((afterOldest_unmoved rest _).trans (abortPrint_unmoved _ _ _ _))
  unfold watchdogExpiry
  split
  · split
    · exact (setPrint_unmoved s _).trans ((noteFault_unmoved _ _ _).trans
        ((writePrintError_unmoved _ _ _ _).trans (releasePrinted_unmoved _)))
    · exact .refl s
  · split
    · exact ended _ _
    · exact .refl s
  · split
    · exact ended _ _
    · exact .refl s
  all_goals exact .refl s

/-! ### The Tunnel station and the heater control -/

theorem tunnelRelease_unmoved (s : State) : Unmoved s (tunnelRelease s) :=
  (setTunnel_unmoved s _ (by rfl)).trans (releaseHold_unmoved _ _)

theorem tunnelArrival_unmoved (s : State) : Unmoved s (tunnelArrival s) := by
  unfold tunnelArrival
  split
  · exact .refl s
  · refine (takeArrival_unmoved .tunnel s).trans ?_
    dsimp only
    split
    · exact releaseHold_unmoved _ _
    · exact setTunnel_unmoved _ _ (by rfl)

theorem putZone_unmoved (z : ZoneNo) (x : Zone) (s : State) : Unmoved s (putZone z x s) := setTunnel_unmoved s _ (by rfl)

theorem mapZones_unmoved (f : Zone → Zone) (s : State) : Unmoved s (mapZones f s) := setTunnel_unmoved s _ (by rfl)

/-- What each zone's work leaves unmoved, the work of all four does. -/
theorem foldl_unmoved {α : Type} {f : State → α → State} (h : ∀ s a, Unmoved s (f s a)) (l : List α) (s : State) :
    Unmoved s (l.foldl f s) := by
  induction l generalizing s with
  | nil => exact .refl s
  | cons a l ih => exact (h s a).trans (ih _)

theorem eachZone_unmoved {f : ZoneNo → State → State} (h : ∀ z s, Unmoved s (f z s)) (s : State) :
    Unmoved s (eachZone f s) := foldl_unmoved (fun s z => h z s) _ s

theorem zoneReading_unmoved (z : ZoneNo) (r : BitVec 10) (s : State) : Unmoved s (zoneReading z r s) := by
  unfold zoneReading
  dsimp only
  split
  · split
    · exact (putZone_unmoved _ _ s).trans (post_unmoved _ _ _)
    all_goals exact putZone_unmoved _ _ s
  · exact putZone_unmoved _ _ s

theorem absenceTick_unmoved (z : ZoneNo) (s : State) : Unmoved s (absenceTick z s) := by
  unfold absenceTick
  dsimp only
  split
  · exact .refl s
  · split
    · exact (putZone_unmoved _ _ s).trans (post_unmoved _ _ _)
    · exact putZone_unmoved _ _ s

theorem staleTick_unmoved (z : ZoneNo) (s : State) : Unmoved s (staleTick z s) := by
  unfold staleTick
  dsimp only
  split
  · split
    · exact putZone_unmoved _ _ s
    · exact (putZone_unmoved _ _ s).trans (post_unmoved _ _ _)
  · exact .refl s

theorem dutyTick_unmoved (z : ZoneNo) (s : State) : Unmoved s (dutyTick z s) := by
  unfold dutyTick
  dsimp only
  split
  · split
    · exact (putZone_unmoved _ _ s).trans (post_unmoved _ _ _)
    · exact putZone_unmoved _ _ s
  · exact .refl s
  · exact putZone_unmoved _ _ s

theorem readyTest_unmoved (s : State) : Unmoved s (readyTest s) := by
  unfold readyTest
  split
  · exact .refl s
  · split
    · exact setTunnel_unmoved s _ (by rfl)
    · split
      · exact setTunnel_unmoved s _ (by rfl)
      · exact (setTunnel_unmoved s _ (by rfl)).trans ((post_unmoved _ _ _).trans (retest_unmoved _))

theorem addExposure_unmoved (s : State) : Unmoved s (addExposure s) := by
  refine foldl_unmoved (fun s r => ?_) _ s
  unfold exposeOne
  exact modifyShirt_unmoved _ _ s fun _ => ⟨rfl, id⟩

theorem reviseSensors_unmoved (s : State) : Unmoved s (reviseSensors s) :=
  (eachZone_unmoved absenceTick_unmoved s).trans
    ((mapZones_unmoved _ _).trans (eachZone_unmoved staleTick_unmoved _))

theorem cureTick_unmoved (s : State) : Unmoved s (cureTick s) :=
  (setTunnel_unmoved s _ (by rfl)).trans ((mapZones_unmoved _ _).trans ((reviseSensors_unmoved _).trans
    ((addExposure_unmoved _).trans ((eachZone_unmoved dutyTick_unmoved _).trans (readyTest_unmoved _)))))

/-! ### Quiesce and the station's side of a scrap -/

theorem restUnit_unmoved (st : Station) (s : State) : Unmoved s (restUnit st s) := by
  cases st <;> simp only [restUnit]
  · exact .refl s
  · split
    · exact setPretreatState_unmoved _ _ s
    · exact .refl s
  · split
    · exact setPrintState_unmoved _ s
    · exact .refl s
  · exact retest_unmoved s

theorem beginHeld_unmoved (st : Station) (s : State) : Unmoved s (beginHeld st s) := by
  cases st <;> simp only [beginHeld]
  · exact .refl s
  · split
    · exact pretreatStartTest_unmoved s
    · exact .refl s
  · split
    · exact printStartTest_unmoved s
    · exact .refl s
  · exact retest_unmoved s

theorem resumeWorking_unmoved (st : Station) (s : State) : Unmoved s (resumeWorking st s) := by
  cases st <;> simp only [resumeWorking]
  case tunnel => exact retest_unmoved s
  all_goals exact .refl s

theorem scrapStation_unmoved (u : UnitNo) (sh : Shirt) (s : State) : Unmoved s (scrapStation u sh s) := by
  unfold scrapStation
  split
  · exact pretreatRelease_unmoved s
  · split
    · unfold printWithdraw
      dsimp only
      split
      · exact (printRelease_unmoved s).trans (post_unmoved _ _ _)
      · exact printRelease_unmoved s
    · split
      · exact tunnelRelease_unmoved s
      · exact .refl s

end Sys2Proof.Machine
end

