-- ==== Sys2Proof/Laws/Uptake.lean ====
section
/-! SUPPORT. Orphan uptake and the emptying of a bin, one shirt at a time: what one take does, that the fuel of the
uptake never runs out, what an emptying leaves on the shelf (R157 to R159). -/

namespace Sys2Proof.Machine

/-! ### The oldest matching entry -/

/-- An entry that matches fits, and stands in the age order. -/
theorem oldestMatch_some {s : State} {a : ArtworkNo} {k : Sku} {sl : SlotNo} (h : oldestMatch s a k = some sl) :
    sl ∈ s.pack.age ∧ ∃ e, tget s.pack.shelf sl = some e ∧ e.artwork = a ∧ e.sku = k := by
  unfold oldestMatch at h
  have h2 := List.find?_some h
  refine ⟨List.mem_of_find?_eq_some h, ?_⟩
  cases e : tget s.pack.shelf sl with
  | none => simp [e] at h2
  | some x => simp [e] at h2; exact ⟨x, rfl, h2.1, h2.2⟩

/-- The entry that matches a line is the first of the age order that fits it. -/
theorem oldestMatch_eq {s : State} {l : Line} {older newer : List SlotNo} {sl : SlotNo}
    (ha : s.pack.age = older ++ sl :: newer) (hf : s.fits l sl) (ho : ∀ x ∈ older, ¬ s.fits l x) :
    oldestMatch s l.artwork l.sku = some sl := by
  obtain ⟨p, e, hp⟩ : ∃ p : SlotNo → Bool,
      oldestMatch s l.artwork l.sku = s.pack.age.find? p ∧ ∀ x, p x = true ↔ s.fits l x :=
    ⟨_, rfl, fun x => by unfold State.fits; cases tget s.pack.shelf x <;> simp⟩
  rw [e, ha, List.find?_append, List.find?_eq_none.mpr (fun x hx => fun h => ho x hx ((hp x).mp h)),
    List.find?_cons_of_pos ((hp sl).mpr hf)]
  rfl

/-! ### One take -/

/-- One shirt taken: the entry leaves the shelf, the line's good count rises, SHELF TO BIN, the completion check. -/
def takeOne (i : OrderNo) (n : LineNo) (l : Line) (sl : SlotNo) (b : BinNo) (s : State) : State :=
  completionCheck i (post .pack (.shelfToBin sl b (s.handleOf i) l.position.val)
    (putLine n (some { l with good := l.good + 1 }) (removeEntry sl s)))

/-- What a run of the uptake does with fuel: it stops, or takes one shirt and goes on. -/
theorem uptakeLine_succ (i : OrderNo) (n : LineNo) (fuel : Nat) (r : Uptake) :
    uptakeLine i n (fuel + 1) r =
      if r.stopped then r
      else
        match r.state.line n with
        | none => r
        | some l =>
          match oldestMatch r.state l.artwork l.sku with
          | none => r
          | some sl =>
            if l.need = 0 then r
            else
              match assignBin i r.state with
              | none => { r with stopped := true }
              | some (b, s1) =>
                uptakeLine i n fuel { state := takeOne i n l sl b s1, taken := r.taken + 1, stopped := false } := rfl

theorem assignBin_shelf {i : OrderNo} {s s1 : State} {b : BinNo} (h : assignBin i s = some (b, s1)) :
    s1.pack.shelf = s.pack.shelf ∧ s1.pack.age = s.pack.age := by
  unfold assignBin at h
  split at h
  · cases h
  · split at h
    · simp only [Option.some.injEq, Prod.mk.injEq] at h; obtain ⟨_, rfl⟩ := h; exact ⟨rfl, rfl⟩
    · split at h
      · cases h
      · simp only [Option.some.injEq, Prod.mk.injEq] at h; obtain ⟨_, rfl⟩ := h; exact ⟨rfl, rfl⟩

@[simp] theorem takeOne_pack (i : OrderNo) (n : LineNo) (l : Line) (sl : SlotNo) (b : BinNo) (s : State) :
    (takeOne i n l sl b s).pack = (removeEntry sl s).pack := by simp [takeOne]

theorem completionCheck_line (i : OrderNo) (s : State) (n : LineNo) : (completionCheck i s).line n = s.line n := by
  unfold completionCheck; split
  · rfl
  · split <;> rfl

/-- The completion check keeps an order's list of lines. -/
theorem completionCheck_lines {i : OrderNo} {s : State} {o : Order} (h : s.order i = some o) :
    ∃ o', (completionCheck i s).order i = some o' ∧ o'.lines = o.lines := by
  unfold completionCheck; simp only [h]; split
  · exact ⟨_, putOrder_order_same _ _ _, rfl⟩
  · exact ⟨o, h, rfl⟩

/-! ### The fuel -/

/-- The number of entries on the shelf. -/
def filledSlots (s : State) : Nat := countOf s.pack.shelf fun e => e.isSome

theorem filledSlots_le (s : State) : filledSlots s ≤ 16 := (List.length_filter_le _ _).trans (by simp)

theorem countOf_tset_none_lt {α : Type} {n : Nat} (v : Vector (Option α) n) (sl : Fin n) (h : (tget v sl).isSome = true) :
    countOf (tset v sl none) (fun e => e.isSome) < countOf v (fun e => e.isSome) := by
  unfold countOf
  have le : ∀ L : List (Fin n), (L.filter fun i => (tget (tset v sl none) i).isSome).length
      ≤ (L.filter fun i => (tget v i).isSome).length := by
    intro L
    induction L with
    | nil => simp
    | cons x L ih =>
      simp only [tget_tset] at ih
      simp only [List.filter_cons, tget_tset]
      by_cases hx : x = sl
      · subst hx; simp [h]; omega
      · simp [hx]; by_cases c : (tget v x).isSome = true <;> simp [c] <;> omega
  obtain ⟨A, B, e⟩ := List.append_of_mem (List.mem_finRange sl)
  rw [e]
  simp only [List.filter_append, List.filter_cons, List.length_append, tget_tset_same, h, Option.isSome_none, if_true,
    Bool.false_eq_true, if_false, List.length_cons]
  have hA := le A
  have hB := le B
  omega

/-- A take leaves fewer entries. -/
theorem takeOne_filledSlots {i : OrderNo} {n : LineNo} {l : Line} {sl : SlotNo} {b : BinNo} {s s1 : State}
    (h : assignBin i s = some (b, s1)) (hm : (tget s.pack.shelf sl).isSome = true) :
    filledSlots (takeOne i n l sl b s1) < filledSlots s := by
  unfold filledSlots
  rw [takeOne_pack]
  change countOf (tset s1.pack.shelf sl none) _ < _
  rw [(assignBin_shelf h).1]
  exact countOf_tset_none_lt _ _ hm

/-- An empty shelf gives nothing. -/
theorem uptakeLine_empty (i : OrderNo) (n : LineNo) (fuel : Nat) (r : Uptake) (h : filledSlots r.state = 0) :
    uptakeLine i n fuel r = r := by
  have none_ : ∀ sl, tget r.state.pack.shelf sl = none := by
    unfold filledSlots countOf at h
    simpa using h
  cases fuel with
  | zero => rfl
  | succ fuel =>
    rw [uptakeLine_succ]
    split
    · rfl
    · split
      · rfl
      · split
        · rfl
        · rename_i e
          obtain ⟨_, x, e2, _⟩ := oldestMatch_some e
          rw [none_] at e2; cases e2

/-- Fuel for each entry on the shelf is fuel enough. -/
theorem uptakeLine_fuel (i : OrderNo) (n : LineNo) (f1 f2 : Nat) (r : Uptake) (h1 : filledSlots r.state ≤ f1)
    (h2 : filledSlots r.state ≤ f2) : uptakeLine i n f1 r = uptakeLine i n f2 r := by
  induction f1 generalizing f2 r with
  | zero => rw [uptakeLine_empty i n f2 r (by omega)]; rfl
  | succ f1 ih =>
    cases f2 with
    | zero => rw [uptakeLine_empty i n _ r (by omega)]; rfl
    | succ f2 =>
      rw [uptakeLine_succ, uptakeLine_succ]
      split
      · rfl
      · split
        · rfl
        · split
          · rfl
          · rename_i e
            split
            · rfl
            · split
              · rfl
              · rename_i ea
                obtain ⟨_, x, e2, _⟩ := oldestMatch_some e
                have := takeOne_filledSlots (n := n) (l := ‹Line›) ea (by rw [e2]; rfl)
                exact ih _ _ (by simp only; omega) (by simp only; omega)

/-! ### The count and the stop -/

/-- A run that starts from a higher count ends with a count as much higher. -/
theorem uptakeLine_taken (i : OrderNo) (n : LineNo) (k fuel : Nat) (r : Uptake) :
    uptakeLine i n fuel { r with taken := r.taken + k }
      = { uptakeLine i n fuel r with taken := (uptakeLine i n fuel r).taken + k } := by
  induction fuel generalizing r with
  | zero => rfl
  | succ fuel ih =>
    rw [uptakeLine_succ, uptakeLine_succ]
    dsimp only
    split
    · rfl
    · split
      · rfl
      · split
        · rfl
        · split
          · rfl
          · split
            · rfl
            · rw [← ih]; dsimp only; congr 2; omega

theorem uptakeLines_taken (i : OrderNo) (k : Nat) (ls : List LineNo) (r : Uptake) :
    ls.foldl (fun r n => uptakeLine i n 16 r) { r with taken := r.taken + k }
      = { ls.foldl (fun r n => uptakeLine i n 16 r) r with
          taken := (ls.foldl (fun r n => uptakeLine i n 16 r) r).taken + k } := by
  induction ls generalizing r with
  | nil => rfl
  | cons n ls ih => rw [List.foldl_cons, List.foldl_cons, uptakeLine_taken, ih]

/-- A stopped uptake takes nothing more. -/
theorem uptakeLines_stopped (i : OrderNo) (ls : List LineNo) (r : Uptake) (h : r.stopped = true) :
    ls.foldl (fun r n => uptakeLine i n 16 r) r = r := by
  induction ls with
  | nil => rfl
  | cons n ls ih =>
    have e : uptakeLine i n 16 r = r := by rw [show (16 : Nat) = 15 + 1 from rfl, uptakeLine_succ, if_pos h]
    rw [List.foldl_cons, e]
    exact ih

/-- No entry of the age order fits the line while it has need. -/
def State.unmet (s : State) (n : LineNo) : Prop :=
  ∀ l, s.line n = some l → 0 < l.need → ∀ sl ∈ s.pack.age, ¬ s.fits l sl

/-- A line that nothing fits takes nothing. -/
theorem uptakeLine_unmet {i : OrderNo} {n : LineNo} {r : Uptake} (h : r.state.unmet n) : uptakeLine i n 16 r = r := by
  rw [show (16 : Nat) = 15 + 1 from rfl, uptakeLine_succ]
  split
  · rfl
  · split
    · rfl
    · rename_i l hl
      split
      · rfl
      · rename_i sl e
        obtain ⟨hm, x, e2, ha, hk⟩ := oldestMatch_some e
        split
        · rfl
        · exact absurd ⟨x, e2, ha, hk⟩ (h l hl (by omega) sl hm)

theorem uptakeLines_unmet (i : OrderNo) (ls : List LineNo) (r : Uptake) (h : ∀ n ∈ ls, r.state.unmet n) :
    ls.foldl (fun r n => uptakeLine i n 16 r) r = r := by
  induction ls with
  | nil => rfl
  | cons n ls ih =>
    rw [List.foldl_cons, uptakeLine_unmet (h n (by simp))]
    exact ih fun m hm => h m (by simp [hm])

/-! ### The emptying of a bin -/

/-- The empty slots, lowest first. -/
def emptySlots (s : State) : List SlotNo := (List.finRange 16).filter fun sl => (tget s.pack.shelf sl).isNone

theorem emptySlots_nodup (s : State) : (emptySlots s).Nodup := (List.nodup_finRange _).filter _

theorem lowestFreeSlot_eq (s : State) : lowestFreeSlot s = (emptySlots s).head? := by
  unfold lowestFreeSlot lowest emptySlots; rw [List.head?_filter]

theorem placeEntry_emptySlots (s : State) (sl : SlotNo) (a : ArtworkNo) (k : Sku) :
    emptySlots (placeEntry sl a k s) = (emptySlots s).filter fun x => decide (x ≠ sl) := by
  unfold emptySlots
  rw [List.filter_filter]
  apply List.filter_congr
  intro x _
  change (tget (tset s.pack.shelf sl _) x).isNone = _
  rw [tget_tset]
  by_cases h : x = sl <;> simp [h]

/-- Shirts go to the shelf one after another. -/
def shelves (shirts : List (ArtworkNo × Sku)) (r : Emptying) : Emptying :=
  shirts.foldl (fun r x => shelveOne x.1 x.2 r) r

/-- What shelving a list of shirts does: the k-th goes to the k-th empty slot with the present stamp, as the newest
entry; those beyond the last empty slot are wasted. -/
theorem shelves_cases (shirts : List (ArtworkNo × Sku)) (r : Emptying) :
    (shelves shirts r).made = r.made + min (emptySlots r.state).length shirts.length
      ∧ (shelves shirts r).wasted
        = r.wasted + (shirts.length - min (emptySlots r.state).length shirts.length)
      ∧ ∃ shelf : Vector (Option ShelfEntry) 16,
        (shelves shirts r).state = r.state.setPack { r.state.pack with
            shelf := shelf, age := r.state.pack.age ++ (emptySlots r.state).take shirts.length }
        ∧ (∀ (k : Nat) (sl : SlotNo) (a : ArtworkNo) (x : Sku), (emptySlots r.state)[k]? = some sl →
            shirts[k]? = some (a, x) →
            tget shelf sl = some { artwork := a, sku := x, stamp := r.state.time.now })
        ∧ ∀ sl : SlotNo, sl ∉ (emptySlots r.state).take shirts.length → tget shelf sl = tget r.state.pack.shelf sl := by
  induction shirts generalizing r with
  | nil => exact ⟨by simp [shelves], by simp [shelves], r.state.pack.shelf, by simp [shelves, State.setPack], by simp, by simp⟩
  | cons y shirts ih =>
    obtain ⟨a, x⟩ := y
    rw [show shelves ((a, x) :: shirts) r = shelves shirts (shelveOne a x r) from rfl]
    cases hf : emptySlots r.state with
    | nil =>
      have e : shelveOne a x r = { r with wasted := r.wasted + 1 } := by
        unfold shelveOne; rw [lowestFreeSlot_eq, hf]; rfl
      rw [e]
      obtain ⟨h1, h2, shelf, h3, h4, h5⟩ := ih { r with wasted := r.wasted + 1 }
      simp only [hf] at *
      exact ⟨by simpa using h1, by simp at h2 ⊢; omega, shelf, by simpa using h3, by simp, by simpa using h5⟩
    | cons sl fl =>
      have hn := emptySlots_nodup r.state
      rw [hf, List.nodup_cons] at hn
      have e : shelveOne a x r = { r with state := placeEntry sl a x r.state, made := r.made + 1 } := by
        unfold shelveOne; rw [lowestFreeSlot_eq, hf]; rfl
      have hfl : emptySlots (placeEntry sl a x r.state) = fl := by
        rw [placeEntry_emptySlots, hf]
        simp only [ne_eq, not_true_eq_false, decide_false, Bool.false_eq_true, not_false_eq_true,
          List.filter_cons_of_neg, List.filter_eq_self, decide_eq_true_eq]
        intro y hy e; subst e; exact hn.1 hy
      rw [e]
      obtain ⟨h1, h2, shelf, h3, h4, h5⟩ := ih { r with state := placeEntry sl a x r.state, made := r.made + 1 }
      simp only [hfl] at *
      refine ⟨by rw [h1]; simp; omega, by rw [h2]; simp, shelf, ?_, ?_, ?_⟩
      · rw [h3]; simp [placeEntry, State.setPack]
      · intro k sl' a' x' hk hs
        cases k with
        | zero =>
          simp at hk hs
          obtain ⟨rfl, rfl⟩ := hs
          subst hk
          rw [h5 sl fun h => hn.1 (List.mem_of_mem_take h)]
          change tget (tset _ _ _) _ = _
          rw [tget_tset_same]
        | succ k => simp at hk hs; exact h4 k sl' a' x' hk hs
      · intro sl' hs
        simp at hs
        rw [h5 sl' hs.2]
        change tget (tset _ _ _) _ = _
        rw [tget_tset_ne _ _ hs.1]

/-- The good shirts of a line go to the shelf alike, one after another. -/
theorem shelveLine_eq (r : Emptying) (l : Line) :
    shelveLine r l = shelves (List.replicate l.good (l.artwork, l.sku)) r := by
  unfold shelveLine shelves
  induction l.good generalizing r with
  | zero => rfl
  | succ n ih => rw [List.replicate_succ, List.replicate_succ, List.foldl_cons, List.foldl_cons]; exact ih _

theorem shelveLines_eq (ls : List Line) (r : Emptying) :
    ls.foldl shelveLine r = shelves (ls.flatMap fun l => List.replicate l.good (l.artwork, l.sku)) r := by
  induction ls generalizing r with
  | nil => rfl
  | cons l ls ih =>
    rw [List.foldl_cons, ih, shelveLine_eq, List.flatMap_cons]
    unfold shelves
    rw [List.foldl_append]

/-- The emptying of a bin leaves the order without a bin, its other fields as they were. -/
theorem emptyBin_order {i : OrderNo} {s : State} {o : Order} (h : s.order i = some o) :
    (emptyBin i s).order i = some { o with bin := none } := by
  unfold emptyBin
  simp only [h]
  cases hb : o.bin with
  | none => simp only [h]; cases o; simp_all
  | some b =>
    obtain ⟨_, _, shelf, e, _⟩ := shelves_cases ((linesOf s o).flatMap fun l => List.replicate l.good (l.artwork, l.sku))
      { state := s, made := 0, wasted := 0 }
    simp only [shelveLines_eq, e]
    change (releaseBin b i _).order i = _
    have ho : ∀ v : Pack, (s.setPack v).order i = some o := fun _ => h
    unfold releaseBin modifyOrder
    simp only [State.setPack_pack]
    rw [show ∀ v w : Pack, (s.setPack v).setPack w = s.setPack w from fun _ _ => rfl]
    simp only [ho, putOrder_order_same]

end Sys2Proof.Machine
end

