-- ==== Sys2Proof/WellFormed.lean ====
section
/-! DEFINITION. Which commands are well formed: the conditions the table's rows put on their operands. -/

namespace Sys2Proof

/-- FRAME_RECEIVED carries the characters of one complete frame with a good CRC (R172). FRAME_ERROR_DISCARD
carries characters that are no such frame, at least one of them (R171). Every other row's operands are ranged by
their types (a zone 0..3, a reading 0..1023, a port, the straps). `exec` gives every command a meaning, well
formed or not: the frame assembler decides what arriving characters are (log entry 5). -/
def Instr.wellFormed : Instr → Bool
  | .frameReceived _ chars => (Machine.frameOf chars).isSome
  | .frameErrorDiscard _ chars => (Machine.frameOf chars).isNone && !chars.isEmpty
  | .powerOn _ | .timeBaseTick | .intercharacterTimeout _ => true
  | .setPlaten _ | .lineReset _ | .indexRequest | .indexDone => true
  | .pretreatArrival | .printArrival | .tunnelArrival => true
  | .submitOrder _ | .holdOrder _ | .releaseOrder _ | .cancelOrder _ | .readOrder _ => true
  | .defineArtwork _ | .removeArtwork _ | .readArtwork _ | .artworkStaged _ | .artworkEvicted _ => true
  | .load _ | .unload _ | .bypassPretreat _ => true
  | .writeColourTable _ | .writeSizeMap _ | .writeDarkThreshold _ | .writeScrapLimit _ | .readLoadTables _ => true
  | .writeDoseTable _ | .refill _ | .readPretreat _ => true
  | .writeSpraySettings _ | .readSprayBar _ | .barClear _ => true
  | .barInPosition | .sweepEnd | .centringEnd | .barFault => true
  | .registered _ | .registerFault _ | .nextSwath _ | .swathDone _ | .carriageParked _ => true
  | .watchdogExpiry | .readPrint _ | .readErrorRecord _ | .writeEngineProfile _ => true
  | .writeCureProfile _ | .beltStep | .tunnelEntrySensor | .zoneReading _ _ | .cureTick | .tunnelExitSensor => true
  | .readTunnel _ => true
  | .matchShirt _ | .scrap _ | .recure _ | .binClosed _ | .clearShelfSlot _ | .readPack _ => true
  | .quiesceStation _ | .resumeStation _ | .fetchNotice _ | .readStatus _ => true

end Sys2Proof
end

