-- ==== Sys2Proof/Tests/Slice0.lean ====
section
/-! SUPPORT. The model's own tests: what `wellFormed` refuses, the spec's worked examples, and for every statement
that has hypotheses a witness: a concrete state and operands that meet them, clause by clause, at the values where
the clauses meet. -/

open Sys2Proof Sys2Proof.Machine

namespace Sys2Proof.Tests

set_option maxRecDepth 20000

/-! ### Small states -/

/-- A dark shirt of order 0, LOADED on platen 0. -/
def shirt : Shirt where
  state := .loaded
  order := { generation := 1, index := 0 }
  line := 0
  sku := { fabric := 2, colour := 5, size := 1 }
  artwork := 3
  darkness := 200
  dark := true
  platen := some 0
  flags := { bypassed := false, saturated := false, unreadyEntry := false, recured := false }
  fault := none
  dose := none
  print := none
  cure := none

/-- The artwork of chapter 4's example: six zones, four bands. -/
def design : Design where
  zoneMask := 0x3F
  whitePasses := 1
  colourPasses := 2
  coverage :=
    [{ white := 180, colour := 100 }, { white := 200, colour := 110 }, { white := 0, colour := 80 },
     { white := 150, colour := 120 }]

/-- An ACTIVE order of one line. -/
def order : Order where
  state := .active
  webNumber := 1000
  sequence := 1
  priority := 1
  alterLevel := 1
  holdReason := none
  bin := none
  lines := [0]

/-- Its line: four shirts, one in flight. -/
def line : Line where
  order := 0
  position := 0
  artwork := 3
  sku := { fabric := 2, colour := 5, size := 1 }
  quantity := 4
  good := 0
  inFlight := 1
  scrap := 0

/-- The state right after power-on but for artwork 3, DEFINED and staged. -/
def stocked : State :=
  State.reset.setArtworks (tset State.reset.artworks 3 { design := some design, refs := 1, staged := true })

/-- Order 0 with its line, and its shirt as unit 0 on the load platen. -/
def demo : State :=
  let s := putLine 0 (some line) (putOrder 0 (some order) stocked)
  setPlatenUnit 0 (some 0) (putShirt 0 (some shirt) (s.setBook { s.book with active := [0] }))

/-- The frame of a request with a body. -/
def frame (p : Port) (r : Request) (body : List Byte) : Frame :=
  { portCode := portCode p, code := r.code, tag := 7, body := body }

/-- A request waits alone in a port's input buffer. -/
def offer (p : Port) (r : Request) (body : List Byte) (s : State) : State :=
  s.setPort p { s.port p with input := [frame p r body] }

/-- The request just offered is the one the statements suppose. -/
abbrev Asked (s : State) (p : Port) (r : Request) (body : List Byte) : Prop := Offered s p r (frame p r body) []

/-- The carousel stands k positions on. -/
def turned (k : Position) (s : State) : State :=
  s.setRing { s.ring with platens := tmap (fun x => { x with position := x.position + k }) s.ring.platens }

/-- Unit 0 with some fields revised. -/
def recast (f : Shirt → Shirt) (s : State) : State := modifyShirt 0 f s

/-- Order 0 with some fields revised. -/
def reorder (f : Order → Order) (s : State) : State := modifyOrder 0 f s

/-- Every hold set or clear alike. -/
def held (b : Bool) : Holds := { pretreat := b, print := b, tunnel := b }

/-- The Time Base at a value. -/
def later (n : Word32) (s : State) : State := s.setTime { s.time with now := n }

/-- The tag of unit 0 in its two bytes. -/
def tag0 : List Byte := tagBytes (demo.tagOf 0)

/-- The handle of order 0 in its two bytes. -/
def handle0 : List Byte := handleBytes (demo.handleOf 0)

/-- The next state of an outcome has a property. -/
def leaves (o : Host.Outcome State Fault Refusal) (p : State → Bool) : Bool :=
  match o with
  | .next t => p t
  | .fault _ | .refused _ => false

/-! ### WellFormed: an ill-formed term for each check -/

theorem test_frameReceived_wellFormed :
    (Instr.frameReceived .order (frame .order .readStatus []).chars).wellFormed = true := by decide

/-- A frame whose last CRC byte is missing is no complete frame. -/
theorem test_frameReceived_truncated_refused :
    (Instr.frameReceived .order (frame .order .readStatus []).chars.dropLast).wellFormed = false := by decide

/-- Characters that are a good frame are no frame error. -/
theorem test_frameErrorDiscard_goodFrame_refused :
    (Instr.frameErrorDiscard .order (frame .order .readStatus []).chars).wellFormed = false := by decide

/-- A frame error has at least one character. -/
theorem test_frameErrorDiscard_empty_refused : (Instr.frameErrorDiscard .order []).wellFormed = false := by decide

/-! ### Worked examples and tables of the spec -/

/-- A.1: the CRC of the ASCII characters 123456789 is 29B1h. -/
theorem test_crc_check_value :
    crc16 [0x31, 0x32, 0x33, 0x34, 0x35, 0x36, 0x37, 0x38, 0x39] = 0x29B1#16 := by decide

/-- The inputs of chapter 4's example. -/
def exampleInputs : DoseInputs :=
  { base := 250, darkness := 200, dark := true, passCapacity := 80, minDose := 0, zones := 6 }

/-- Chapter 4, Dosing a Dark Shirt: bands 0 and 3. -/
theorem test_dose_example_bands :
    bandPlan exampleInputs { white := 180, colour := 100 } = { sweeps := 3, duty := 174, delivered := 163, fluid := 978 }
      ∧ bandPlan exampleInputs { white := 150, colour := 120 }
        = { sweeps := 2, duty := 226, delivered := 141, fluid := 846 } := by decide

/-- Chapter 4, Dosing a Dark Shirt: a band without white stays dry on a dark shirt. -/
theorem test_dose_example_dry_band :
    bandPlan exampleInputs { white := 0, colour := 80 } = { sweeps := 0, duty := 0, delivered := 0, fluid := 0 } := by
  decide

/-- R17: the Time Base wraps. -/
theorem test_tick_wraps : leaves (exec .timeBaseTick (later 0xFFFFFFFF State.reset)) (fun t => t.time.now == 0) = true := by
  decide

/-- R9: platen 11 advances to position 0, where a MOVING ring comes to rest. -/
theorem test_indexDone_wraps :
    leaves (exec .indexDone (State.reset.setRing State.reset.ring.grant))
      (fun t => (tget t.ring.platens 11).position == 0 && t.ring.holds.tunnel) = true := by decide

/-- R11: a freed record's generation 1023 advances to 1. -/
theorem test_unload_generation_wraps :
    leaves
      (exec (.unload .load)
        (offer .load .unload (tagBytes { generation := 1023, unit := 0 })
          (demo.setUnits (tset demo.units 0 { generation := 1023, shirt := some shirt }))))
      (fun t => t.generation 0 == 1 && (t.shirt 0).isNone && (t.line 0).map (·.need) == some 4) = true := by decide

/-- R55: the candidate's line is claimed and the load platen carries the lowest free unit. -/
theorem test_load_claims :
    leaves (exec (.load .load) (offer .load .load (skuBytes shirt.sku) (turned 1 demo)))
      (fun t => (tget t.ring.platens 11).unit == some 1 && (t.line 0).map (·.inFlight) == some 2) = true := by decide

/-- A.2: the tag of unit 5 at generation 2 is 2 × 64 + 5. -/
theorem test_tagBytes : tagBytes { generation := 2, unit := 5 } = [0x00, 0x85] := by decide

/-- A.7: the status reply holds 39 results after its two bytes of class and code. -/
theorem test_status_length : (statusResults .pack demo).length = 39 := by decide

/-- R139: a zone far above its setpoint loses duty by the floor of a negative share. -/
theorem test_control_law_floors : controlLaw 100 160 161 8 = 99 ∧ controlLaw 0 160 161 8 = 0 := by decide

/-! ### Witnesses: the machine as a whole, frames and ports -/

/-- A refused request, its reply the one sent (RefusedRequestChangesNothing). -/
theorem test_witness_refused :
    ∃ s t : State, Asked s .order .setPlaten [12, 0, 0]
      ∧ exec (Request.command .setPlaten .order) s = .next t
      ∧ (t.port .order).sent
        = (s.port .order).sent ++ [replyFrame .order (frame .order .setPlaten [12, 0, 0]) (.refused .badField [])] :=
  ⟨offer .order .setPlaten [12, 0, 0] State.reset, _, by decide, rfl, by decide⟩

/-- A command that is no power-on, from a state with every station RUNNING and a unit in use
(TimeBaseTicksAlone, GatedTablesChangeOnlyAtRest, UnitsKeepTheirRecord). -/
theorem test_witness_command :
    ∃ t : State, exec .indexRequest demo = .next t ∧ (∀ straps, Instr.indexRequest ≠ .powerOn straps)
      ∧ Instr.indexRequest ≠ .timeBaseTick ∧ (∀ p, Instr.indexRequest ≠ .lineReset p)
      ∧ Instr.indexRequest ≠ .indexDone ∧ demo.load.quiesce ≠ .quiesced ∧ demo.pretreat.quiesce ≠ .quiesced
      ∧ demo.print.quiesce ≠ .quiesced ∧ demo.tunnel.quiesce ≠ .quiesced ∧ demo.shirt 0 = some shirt
      ∧ t.shirt 0 = some shirt :=
  ⟨_, rfl, by simp, by simp, by simp, by simp, by decide, by decide, by decide, by decide, by decide, by decide⟩

/-- A MOVING ring whose platens stand one on from the start: the ring's invariant holds and a step is taken. -/
theorem test_witness_ring_invariant :
    ∃ s t : State, s.ringSound ∧ s.ring.state = .moving ∧ step s = .next t :=
  ⟨(turned 1 (State.reset.setRing State.reset.ring.grant)).setPending [.indexDone], _,
    ⟨⟨by decide, by decide, by decide⟩, ⟨1, by decide⟩⟩, by decide, rfl⟩

/-- A tunnel with a unit in its queue meets its invariant, and a step is taken. -/
theorem test_witness_tunnel_invariant :
    ∃ s t : State, s.tunnelSound ∧ s.tunnel.queue ≠ [] ∧ step s = .next t := by
  refine ⟨(joinQueue 0 demo).setPending [.beltStep], _, ⟨by decide, by decide, fun z => ⟨?_, ?_⟩, by decide, by decide,
    by decide⟩, by decide, rfl⟩
  · intro r h
    have : ∀ z : ZoneNo, (tget (joinQueue 0 demo).tunnel.zones z).lastValid = none := by decide
    exact absurd ((this z).symm.trans h) (by simp)
  · revert z; decide

/-- The demo state keeps every range, and a step is taken (BoundsKept). -/
theorem test_witness_bounds :
    ∃ t : State, demo.portsBounded ∧ demo.exposuresBounded ∧ demo.tablesInRange ∧ demo.countersInRange
      ∧ step demo = .next t := by
  refine ⟨_, ?_, ?_, ?_, ?_, rfl⟩
  · intro p; cases p <;> exact ⟨by decide, by decide, by decide⟩
  · intro u sh c h hc
    have : ∀ u : UnitNo, ((demo.shirt u).bind (·.cure)) = none := by decide
    have := this u
    rw [h] at this
    exact absurd (hc.symm.trans this) (by simp)
  · exact ⟨by decide, by decide, by decide, by decide, by decide, by decide, by decide, by decide, by decide, by decide⟩
  · refine ⟨by decide, by decide, by decide, by decide, ?_⟩
    intro n l h
    have : ∀ n : LineNo, (demo.line n).all (fun l => decide (l.scrap ≤ 255)) = true := by decide
    have := this n
    rw [h] at this
    simpa [Config.scrapCountMax] using this

/-- The demo order, line and unit stand alone in their tables. -/
theorem test_demo_tables :
    (∀ i : OrderNo, demo.order i = if i = 0 then some order else none)
      ∧ (∀ n : LineNo, demo.line n = if n = 0 then some line else none)
      ∧ (∀ u : UnitNo, demo.shirt u = if u = 0 then some shirt else none)
      ∧ ∀ p : PlatenNo, (tget demo.ring.platens p).unit = if p = 0 then some 0 else none := by
  refine ⟨by decide, fun n => ?_, by decide, by decide⟩
  have h : demo.book.lines = tset (Vector.replicate 384 none) 0 (some line) := rfl
  simp only [State.line, h, tget_tset, tget_replicate]

/-- The demo unit stands on its platen alone (UnitsKeepTheirRecord, second part). -/
theorem test_witness_places : ∃ t : State, demo.placed ∧ step demo = .next t := by
  obtain ⟨_, _, hu, hp⟩ := test_demo_tables
  refine ⟨_, ⟨fun p u => ?_, by decide, by decide, fun u h => ?_, fun u sh h hn => ?_, fun u sh h he => ?_⟩, rfl⟩
  · rw [hp, hu]
    by_cases p0 : p = 0 <;> by_cases u0 : u = 0
    · simp [p0, u0, shirt]
    · simp [p0, u0, Ne.symm u0]
    · simp [p0, u0, shirt, Ne.symm p0]
    · simp [p0, u0]
  · have he : demo.queued = [] ∧ demo.pack.exits = [] := by decide
    simp [he.1, he.2] at h
  · rw [hu] at h; split at h <;> simp at h; subst h; simp [shirt] at hn
  · rw [hu] at h; split at h <;> simp at h; subst h; simp [shirt] at he

/-- The demo books agree, one artwork staged, an idle pipeline and one that prints; a step is taken (BoundsKept). -/
theorem test_witness_counts :
    ∃ t : State, demo.countsAgree ∧ stagedCount demo = 1 ∧ demo.pipelineSound ∧ step demo = .next t := by
  obtain ⟨ho, hl, hu, _⟩ := test_demo_tables
  refine ⟨_, ⟨⟨fun n l h => ?_, fun i o k n h e => ?_⟩, fun u sh h => ?_, fun n l h => ?_, fun i o h hc => ?_,
    fun a => ?_⟩, by decide, by unfold State.pipelineSound Ring.sound; decide, rfl⟩
  · rw [hl] at h; split at h <;> simp at h; subst h n; exact ⟨order, ho 0, rfl⟩
  · rw [ho] at h; split at h <;> simp at h; subst h i
    match k with
    | 0 => obtain rfl : (0 : LineNo) = n := by simpa [order] using e
           exact ⟨line, hl 0, rfl, rfl⟩
    | k + 1 => simp [order] at e
  · rw [hu] at h; split at h <;> simp at h; subst h; decide
  · rw [hl] at h; split at h <;> simp at h; subst h; decide
  · rw [ho] at h; split at h <;> simp at h; subst h; simp [order] at hc
  · have hr : ∀ a : ArtworkNo, (tget demo.artworks a).refs = (if a = 3 then [(0 : LineNo)] else []).length
        ∧ (0 < (tget demo.artworks a).refs → (tget demo.artworks a).design.isSome = true) := by decide
    have hn : demo.linesNaming a = if a = 3 then [0] else [] := by
      simp only [State.linesNaming, hl]
      by_cases h : a = 3
      · subst h; decide
      · simp [h, line, Ne.symm h]
    rw [hn]
    refine ⟨(hr a).1, ?_, (hr a).2⟩
    rw [(hr a).1]; split <;> decide

/-- An ACTIVE order alone in the list (ActiveOrderListKept). -/
theorem test_witness_active_list : ∃ t : State, demo.activeListed ∧ step demo = .next t := by
  refine ⟨_, ⟨?_, by decide, ?_⟩, rfl⟩
  · have h0 : demo.order 0 = some order := by decide
    have hn : ∀ i : OrderNo, i ≠ 0 → demo.order i = none := by decide
    have ha : demo.book.active = [0] := by decide
    intro i
    rw [ha]
    by_cases h : i = 0
    · subst h; simp [h0, order]
    · simp [h, hn i h]
  · have ha : demo.book.active = [0] := by decide
    rw [ha]; exact List.pairwise_singleton _ _

/-- The longest body, and a port that hunts (FrameIsAssembled). -/
theorem test_witness_frame :
    ∃ (s : State) (f : Frame), f.body.length = 240 ∧ (s.port .load).receiver.held = [] :=
  ⟨State.reset, frame .load .load (List.replicate 240 0), by decide, by decide⟩

/-- Junk, the least length too long, a bad CRC (FrameErrorsAreCounted, first part). -/
theorem test_witness_frame_errors :
    (State.reset.port .pack).receiver.held = [] ∧ (State.reset.port .pack).receiver.junkRun = false
      ∧ (([0#8] : List Byte) ≠ [] ∧ ∀ c ∈ ([0#8] : List Byte), c ≠ 0xA5#8)
      ∧ 240 < (241 : Byte).toNat
      ∧ (frame .pack .readStatus []).body.length ≤ 240
      ∧ ([0, 0] : List Byte) ≠ crcBytes (crc16 (frame .pack .readStatus []).covered) := by decide

/-- A frame begun 21 ms ago, one begun 20 ms ago, and none begun (FrameErrorsAreCounted, second part). -/
theorem test_witness_silence :
    (∃ s : State, (s.port .load).receiver.held ≠ []
        ∧ 20 < (s.time.now - (s.port .load).receiver.lastChar).toNat)
      ∧ (∃ s : State, (s.port .load).receiver.held ≠ []
        ∧ (s.time.now - (s.port .load).receiver.lastChar).toNat ≤ 20)
      ∧ (State.reset.port .load).receiver.held = [] :=
  ⟨⟨later 21 (receiveChars .load [0xA5] State.reset), by decide⟩,
    ⟨later 20 (receiveChars .load [0xA5] State.reset), by decide⟩, by decide⟩

/-- A frame for each of the four frame checks (FrameChecksInOrder). -/
theorem test_witness_frame_checks :
    (∃ f : Frame, f.code = Request.readStatus.code ∧ f.portCode ≠ portCode .order)
      ∧ (∃ f : Frame, reservedCode f.code = true ∧ f.portCode = portCode .order)
      ∧ (∃ f : Frame, f.portCode = portCode .order ∧ f.code = Request.load.code ∧ Request.load.takenOn .order = false)
      ∧ ∃ f : Frame, f.portCode = portCode .load ∧ f.code = Request.load.code ∧ Request.load.takenOn .load = true
        ∧ Request.load.lengthOk f.body = false :=
  ⟨⟨frame .load .readStatus [], by decide⟩, ⟨{ portCode := 1, code := 0x80, tag := 0, body := [] }, by decide⟩,
    ⟨frame .order .load [0, 0, 0], by decide⟩, ⟨frame .load .load [0, 0], by decide⟩⟩

/-- A frame waits in the buffer (FrameChecksInOrder). -/
theorem test_witness_frame_waits :
    ((offer .order .load [0, 0, 0] State.reset).port .order).input = [frame .order .load [0, 0, 0]] := by decide

/-- An order index of 128, a FREE descriptor and a stale generation; a unit number of 40, a free record and a stale
generation (FrameChecksInOrder, second and third parts). -/
theorem test_witness_operand_checks :
    (Request.cancelOrder.namesOrder = true ∧ 127 < (128 : Byte).toNat ∧ ∃ s : State, Asked s .order .cancelOrder [1, 128])
      ∧ (∃ s : State, Asked s .order .holdOrder [1, 127] ∧ (127 : Byte).toNat = (127 : OrderNo).val ∧ s.order 127 = none)
      ∧ (∃ s : State, Asked s .load .releaseOrder [2, 0] ∧ (s.order 0).isSome = true
        ∧ (s.handleOf 0).generation ≠ (2 : Byte).toNat)
      ∧ (Request.matchShirt.namesUnit = true ∧ 39 < 104 % 64 ∧ ∃ s : State, Asked s .pack .matchShirt [0, 104])
      ∧ (∃ s : State, Asked s .load .unload [0, 103] ∧ 103 % 64 = (39 : UnitNo).val ∧ s.shirt 39 = none)
      ∧ ∃ s : State, Asked s .engine .registered [0, 128] ∧ 128 % 64 = (0 : UnitNo).val ∧ (s.shirt 0).isSome = true
        ∧ s.generation 0 ≠ 128 / 64 :=
  ⟨⟨by decide, by decide, offer .order .cancelOrder [1, 128] demo, by decide⟩,
    ⟨offer .order .holdOrder [1, 127] demo, by decide⟩, ⟨offer .load .releaseOrder [2, 0] demo, by decide⟩,
    ⟨by decide, by decide, offer .pack .matchShirt [0, 104] demo, by decide⟩,
    ⟨offer .load .unload [0, 103] demo, by decide⟩, ⟨offer .engine .registered [0, 128] demo, by decide⟩⟩

/-- A queue of n notices on the Order port. -/
def notices (n : Nat) (s : State) : State :=
  s.setPort .order { s.port .order with notices := List.replicate n { notice := .indexFault, stamp := 0 } }

/-- A queue with room, a full one, a fetch from each kind of queue, a status read (NoticesPostedAndFetched). -/
theorem test_witness_notices :
    ((notices 15 demo).port .order).notices.length < 16 ∧ ((notices 16 demo).port .order).notices.length = 16
      ∧ (∃ (s : State) (n : NoticeRecord) (ns : List NoticeRecord), Asked s .order .fetchNotice []
        ∧ (s.port .order).notices = n :: ns)
      ∧ (∃ s : State, Asked s .order .fetchNotice [] ∧ (s.port .order).notices = [])
      ∧ ∃ s : State, Asked s .pack .readStatus [] :=
  ⟨by decide, by decide,
    ⟨offer .order .fetchNotice [] (notices 16 demo), { notice := .indexFault, stamp := 0 },
      List.replicate 15 { notice := .indexFault, stamp := 0 }, by decide, by decide⟩,
    ⟨offer .order .fetchNotice [] demo, by decide, by decide⟩, ⟨offer .pack .readStatus [] demo, by decide⟩⟩

/-! ### Witnesses: chapter 1 -/

/-- Each field just out of range; platen 11 empty; platen 0 with a unit (SetPlatenReplacesClassAndFlag). -/
theorem test_witness_setPlaten :
    (∃ s : State, Asked s .order .setPlaten [12, 0, 0]) ∧ (∃ s : State, Asked s .order .setPlaten [0, 3, 0])
      ∧ (∃ s : State, Asked s .order .setPlaten [0, 0, 2])
      ∧ (∃ s : State, Asked s .order .setPlaten [11, 2, 1] ∧ (tget s.ring.platens 11).unit = none
        ∧ (11 : Byte).toNat = (11 : PlatenNo).val ∧ (2 : Byte).toNat = SizeClass.oversize.code
        ∧ (1 : Byte).toNat = yesNoCode true)
      ∧ ∃ s : State, Asked s .order .setPlaten [0, 0, 0] ∧ (tget s.ring.platens 0).unit.isSome = true :=
  ⟨⟨offer .order .setPlaten [12, 0, 0] demo, by decide⟩, ⟨offer .order .setPlaten [0, 3, 0] demo, by decide⟩,
    ⟨offer .order .setPlaten [0, 0, 2] demo, by decide⟩, ⟨offer .order .setPlaten [11, 2, 1] demo, by decide⟩,
    ⟨offer .order .setPlaten [0, 0, 0] demo, by decide⟩⟩

/-- One hold set on a STILL ring, with a request pending or not. -/
def oneHold (pending : Bool) : State :=
  State.reset.setRing { State.reset.ring with
    holds := { pretreat := false, print := true, tunnel := false }, pendingIndex := pending }

/-- The four rows of R7 (IndexRequestTable); both ring states (IndexDoneTable); the three releases and the race
(HoldReleaseGrants). -/
theorem test_witness_index :
    (State.reset.ring.state = .still ∧ State.reset.ring.holds.allClear = true)
      ∧ ((oneHold false).ring.state = .still ∧ (oneHold false).ring.holds.allClear = false
        ∧ (oneHold false).ring.pendingIndex = false)
      ∧ ((oneHold true).ring.holds.allClear = false ∧ (oneHold true).ring.pendingIndex = true)
      ∧ State.reset.ring.grant.state = .moving
      ∧ State.reset.ring.holds.get .print = false
      ∧ ((oneHold true).ring.holds.get .print = true ∧ ((oneHold true).ring.holds.put .print false).allClear = true
        ∧ (oneHold true).ring.state = .still)
      ∧ ((held true).put .print false).allClear = false := by decide

/-- LINE RESET waits on the Order port, with an ACTIVE and with a CANCELLING order in the books, and a bar in each state
the stop names (LineResetClearsLineAndBar). -/
theorem test_witness_lineReset :
    (∃ s : State, Asked s .order .lineReset [] ∧ s.cancelling = [])
      ∧ (∃ s : State, Asked s .order .lineReset [] ∧ s.cancelling.length = 1 ∧ s.ofCancelling 0 = true)
      ∧ State.reset.bar.state = .parked
      ∧ (State.reset.bar.moveTo (.band 0)).state = .moving
      ∧ (∃ b : Bar, b.state = .sweeping ∧ b.dithering = false) ∧ ∃ b : Bar, b.state = .sweeping ∧ b.dithering = true :=
  ⟨⟨offer .order .lineReset [] demo, by decide⟩,
    ⟨offer .order .lineReset [] (reorder (fun o => { o with state := .cancelling }) demo), by decide⟩, by decide, by decide,
    ⟨{ Bar.initial with state := .sweeping }, by decide⟩,
    ⟨{ Bar.initial with state := .sweeping, dithering := true }, by decide⟩⟩

/-- Unit 0's platen just arrived at a station, with the hold set. -/
def arrived (w : Holder) (s : State) : State :=
  let s1 := turned w.position s
  s1.setRing { s1.ring with
    holds := held true
    arrivals := s1.ring.arrivals.put w (some { platen := 0, unit := (tget s1.ring.platens 0).unit }) }

/-- An empty platen, a bypassed unit, any other, at each station (StationsTakeArrivals). -/
theorem test_witness_arrivals :
    (∀ w : Holder,
      (∃ a, (arrived w State.reset).ring.arrivals.get w = some a
        ∧ (tget (arrived w State.reset).ring.platens a.platen).unit = none)
      ∧ ∃ a, (arrived w demo).ring.arrivals.get w = some a
        ∧ (tget (arrived w demo).ring.platens a.platen).unit = some 0)
      ∧ demo.shirt 0 = some shirt ∧ shirt.flags.bypassed = false ∧ shirt.dark = true ∧ shirt.fault = none
      ∧ shirt.state = .loaded
      ∧ (∃ sh : Shirt, (recast (fun x => { x with flags := { x.flags with bypassed := true } }) demo).shirt 0 = some sh
        ∧ sh.flags.bypassed = true ∧ sh.dark = true ∧ sh.fault = none ∧ sh.state = .loaded)
      ∧ ∃ sh : Shirt, (recast (fun x => { x with fault := some .pretreatFault }) demo).shirt 0 = some sh
        ∧ sh.dark = true ∧ sh.fault = some .pretreatFault := by
  refine ⟨?_, by decide, by decide, by decide, by decide, by decide,
    ⟨{ shirt with flags := { shirt.flags with bypassed := true } }, by decide⟩,
    ⟨{ shirt with fault := some .pretreatFault }, by decide⟩⟩
  intro w
  cases w <;> exact ⟨⟨{ platen := 0, unit := none }, by decide⟩, ⟨{ platen := 0, unit := some 0 }, by decide⟩⟩

/-! ### Witnesses: chapter 2 -/

/-- A submission of one line. -/
def submission : Submission :=
  { webNumber := 77, priority := 3, alterLevel := 2, entries := [{ artwork := 3, sku := shirt.sku, quantity := 48 }] }

/-- A submission at the top of its ranges, every descriptor FREE, the shelf empty (SubmitOrderAccepted). -/
theorem test_witness_submit :
    ∃ s : State, Asked s .order .submitOrder submission.bytes ∧ submission.inRange
      ∧ (∀ e ∈ submission.entries, (tget s.artworks e.artwork).design.isSome = true)
      ∧ (∀ j o, s.order j = some o → o.webNumber ≠ submission.webNumber)
      ∧ s.order 0 = none ∧ (∀ j : OrderNo, j < 0 → (s.order j).isSome = true)
      ∧ submission.entries.length ≤ freeLines s ∧ s.pack.age = [] := by
  refine ⟨offer .order .submitOrder submission.bytes stocked, by decide,
    ⟨by decide, by decide, by decide, by decide, by decide⟩, by decide, ?_, by decide, by decide, by decide, by decide⟩
  intro j o h
  have : ∀ j : OrderNo, stocked.order j = none := by decide
  exact absurd ((this j).symm.trans h) (by simp)

/-- The fields of a SUBMIT ORDER of one line: priority, alter level, line count, then the line. -/
def submits (head line : List Byte) : List Byte := bytes4 77 ++ head ++ line

/-- Each field of SUBMIT ORDER just out of range (SubmitOrderAccepted, BAD FIELD). -/
theorem test_witness_submit_fields :
    (∃ s : State, Asked s .order .submitOrder (submits [4, 0, 1] [0, 0, 0, 0, 1]))
      ∧ (∃ s : State, Asked s .order .submitOrder (submits [0, 3, 1] [0, 0, 0, 0, 1]))
      ∧ (∃ s : State, Asked s .order .submitOrder (submits [0, 0, 0] []))
      ∧ (∃ s : State, Asked s .order .submitOrder (submits [0, 0, 9] (List.replicate 45 1)))
      ∧ ∀ l ∈ ([[64, 0, 0, 0, 1], [0, 8, 0, 0, 1], [0, 0, 64, 0, 1], [0, 0, 0, 8, 1], [0, 0, 0, 0, 0], [0, 0, 0, 0, 49]]
          : List (List Byte)), ∃ s : State, Asked s .order .submitOrder (submits [0, 0, 1] l)
        ∧ (l.drop (5 * 0)).take 5 = l :=
  ⟨⟨offer .order .submitOrder (submits [4, 0, 1] [0, 0, 0, 0, 1]) demo, by decide⟩,
    ⟨offer .order .submitOrder (submits [0, 3, 1] [0, 0, 0, 0, 1]) demo, by decide⟩,
    ⟨offer .order .submitOrder (submits [0, 0, 0] []) demo, by decide⟩,
    ⟨offer .order .submitOrder (submits [0, 0, 9] (List.replicate 45 1)) demo, by decide⟩,
    fun l h => ⟨offer .order .submitOrder (submits [0, 0, 1] l) demo, by revert l; decide⟩⟩

/-- The submission with a second line, on an EMPTY artwork. -/
def submission2 : Submission :=
  { submission with entries := submission.entries ++ [{ artwork := 4, sku := shirt.sku, quantity := 1 }] }

/-- Every descriptor in use. -/
def ordersFull (s : State) : State :=
  s.setBook { s.book with orders := Vector.replicate 128 { generation := 1, order := some order } }

/-- Every line record in use. -/
def linesFull (s : State) : State := s.setBook { s.book with lines := Vector.replicate 384 (some line) }

/-- An EMPTY artwork at position 1 alone, a web order number in use, no FREE descriptor, no free line record
(SubmitOrderAccepted, the other refusals). -/
theorem test_witness_submit_refused :
    (∃ (s : State) (x : Submission) (e : LineEntry), Asked s .order .submitOrder x.bytes ∧ x.entries[1]? = some e
        ∧ (tget s.artworks e.artwork).design = none
        ∧ ∀ e' : LineEntry, x.entries[0]? = some e' → (tget s.artworks e'.artwork).design.isSome = true)
      ∧ (∃ (s : State) (x : Submission) (o : Order), Asked s .order .submitOrder x.bytes ∧ s.order 0 = some o
        ∧ o.webNumber = x.webNumber)
      ∧ (∃ s : State, Asked s .order .submitOrder submission.bytes ∧ (∀ j : OrderNo, s.order j = some order)
        ∧ order.webNumber ≠ submission.webNumber)
      ∧ ∃ s : State, Asked s .order .submitOrder submission.bytes ∧ s.order 0 = none
        ∧ freeLines s < submission.entries.length := by
  refine ⟨⟨offer .order .submitOrder
        submission2.bytes demo,
      submission2, { artwork := 4, sku := shirt.sku, quantity := 1 }, by decide, by decide, by decide,
      fun e' h => by obtain rfl := Option.some.inj h; decide⟩,
    ⟨offer .order .submitOrder ({ submission with webNumber := 1000 } : Submission).bytes demo, { submission with webNumber := 1000 },
      order, by decide⟩,
    ⟨offer .order .submitOrder submission.bytes (ordersFull demo), by decide, fun j => ?_, by decide⟩,
    ⟨offer .order .submitOrder submission.bytes (linesFull stocked), by decide, by decide, ?_⟩⟩
  · have h : (offer .order .submitOrder submission.bytes (ordersFull demo)).book.orders
        = Vector.replicate 128 { generation := 1, order := some order } := rfl
    simp only [State.order, h, tget_replicate]
  · have h : (offer .order .submitOrder submission.bytes (linesFull stocked)).book.lines
        = Vector.replicate 384 (some line) := rfl
    simp only [freeLines, countOf, h, tget_replicate, Option.isNone_some, List.filter_false]
    decide

/-- The demo order with another state and alter level, a request naming it. -/
def asksOrder (p : Port) (r : Request) (f : Order → Order) : State := offer p r handle0 (reorder f demo)

/-- Authority at the alter level and below it; a state that fits the request and one that does not
(HoldAndReleaseOrder). -/
theorem test_witness_hold_release :
    (∃ s o, Asked s .pack .holdOrder handle0 ∧ handle0 = handleBytes (s.handleOf 0) ∧ (s.handleOf 0).generation ≤ 255
        ∧ s.order 0 = some o ∧ authorityLevel .pack = some 1 ∧ 1 ≤ o.alterLevel ∧ o.state = .active)
      ∧ (∃ s o, Asked s .load .holdOrder handle0 ∧ s.order 0 = some o ∧ authorityLevel .load = some 2
        ∧ o.alterLevel < 2)
      ∧ (∃ s o, Asked s .order .holdOrder handle0 ∧ s.order 0 = some o ∧ 0 ≤ o.alterLevel ∧ o.state ≠ .active)
      ∧ (∃ s o, Asked s .order .releaseOrder handle0 ∧ s.order 0 = some o ∧ o.state = .held ∧ s.pack.age = [])
      ∧ (∃ s o, Asked s .order .releaseOrder handle0 ∧ s.order 0 = some o ∧ o.state ≠ .held)
      ∧ ∃ s o, Asked s .load .releaseOrder handle0 ∧ s.order 0 = some o ∧ o.alterLevel < 2 :=
  ⟨⟨asksOrder .pack .holdOrder id, order, by decide⟩, ⟨asksOrder .load .holdOrder id, order, by decide⟩,
    ⟨asksOrder .order .holdOrder fun o => { o with state := .held }, { order with state := .held }, by decide⟩,
    ⟨asksOrder .order .releaseOrder fun o => { o with state := .held }, { order with state := .held }, by decide⟩,
    ⟨asksOrder .order .releaseOrder id, order, by decide⟩, ⟨asksOrder .load .releaseOrder id, order, by decide⟩⟩

/-- Every slot of the shelf filled. -/
def shelfFull (s : State) : State :=
  s.setPack { s.pack with
    shelf := Vector.replicate 16 (some { artwork := 3, sku := shirt.sku, stamp := 0 }), age := List.finRange 16 }

/-- Every bin owned. -/
def binsFull (s : State) : State :=
  s.setPack { s.pack with bins := Vector.replicate 24 (some { generation := 1, index := 9 }) }

/-- Order 0 with bin 23, in a state. -/
def binned (st : OrderState) (s : State) : State :=
  let s1 := reorder (fun o => { o with state := st, bin := some 23 }) s
  s1.setPack { s1.pack with bins := tset s1.pack.bins 23 (some (s1.handleOf 0)) }

/-- A release and a submission that find their shirts on the shelf: R159 gives the demo order's need of 3 (HoldAndReleaseOrder,
SubmitOrderAccepted). -/
theorem test_witness_shelf_used :
    (∃ s : State, Asked s .order .releaseOrder handle0 ∧ (s.order 0).map (·.state) = some .held ∧ s.pack.age ≠ [])
      ∧ (∃ s : State, Asked s .order .submitOrder submission.bytes ∧ s.order 0 = none ∧ s.pack.age ≠ [])
      ∧ (orphanUptake 0 (shelfFull demo)).2 = 3 :=
  ⟨⟨shelfFull (asksOrder .order .releaseOrder fun o => { o with state := .held }), by decide⟩,
    ⟨shelfFull (offer .order .submitOrder submission.bytes stocked), by decide⟩, by decide⟩

/-- An order with a bin cancelled, with and without a shirt in flight (CancelOrderByState). -/
theorem test_witness_cancel_bin :
    (∃ s o, Asked s .order .cancelOrder handle0 ∧ s.order 0 = some o ∧ o.state = .held ∧ o.bin = some 23
        ∧ totalInFlight s o = 0)
      ∧ ∃ s o, Asked s .order .cancelOrder handle0 ∧ s.order 0 = some o ∧ o.state = .active ∧ o.bin = some 23
        ∧ 0 < totalInFlight s o :=
  ⟨⟨binned .held (putLine 0 (some { line with inFlight := 0 }) (asksOrder .order .cancelOrder id)),
      { order with state := .held, bin := some 23 }, by decide⟩,
    ⟨binned .active (asksOrder .order .cancelOrder id), { order with bin := some 23 }, by decide⟩⟩

/-- Uptake that finds nothing, an own bin, the lowest free bin, no bin; the entry that fits is the oldest
(ShelfCountsBalance, second part). -/
theorem test_witness_uptake :
    (∃ s : State, s.order 0 = some order ∧ order.lines = [0] ∧ s.pack.age = [])
      ∧ (∃ (s : State) (o : Order), s.order 0 = some o ∧ o.lines = [] ++ 0 :: [] ∧ s.line 0 = some line ∧ 0 < line.need
        ∧ s.pack.age = [] ++ 0 :: (List.finRange 16).drop 1 ∧ s.fits line 0 ∧ o.bin = some 23)
      ∧ (∃ s : State, s.order 0 = some order ∧ s.pack.age = [] ++ 0 :: (List.finRange 16).drop 1 ∧ s.fits line 0
        ∧ order.bin = none ∧ tget s.pack.bins 0 = none)
      ∧ ∃ s : State, s.order 0 = some order ∧ s.pack.age = [] ++ 0 :: (List.finRange 16).drop 1 ∧ s.fits line 0
        ∧ order.bin = none ∧ ∀ b : BinNo, (tget s.pack.bins b).isSome = true :=
  ⟨⟨demo, by decide⟩,
    ⟨shelfFull (binned .active demo), { order with bin := some 23 }, by decide, by decide, by decide, by decide, by decide,
      ⟨{ artwork := 3, sku := shirt.sku, stamp := 0 }, by decide⟩, by decide⟩,
    ⟨shelfFull demo, by decide, by decide, ⟨{ artwork := 3, sku := shirt.sku, stamp := 0 }, by decide⟩, by decide⟩,
    ⟨binsFull (shelfFull demo), by decide, by decide, ⟨{ artwork := 3, sku := shirt.sku, stamp := 0 }, by decide⟩,
      by decide⟩⟩

/-- A bin of four good shirts and a shelf with room, and a full one (ShelfCountsBalance, third part). -/
theorem test_witness_empty_bin :
    (∃ (s : State) (o : Order), s.order 0 = some o ∧ o.bin = some 23 ∧ totalGood s o = 4 ∧ freeSlots s = 16)
      ∧ ∃ (s : State) (o : Order), s.order 0 = some o ∧ o.bin = some 23 ∧ totalGood s o = 4 ∧ freeSlots s = 0 :=
  ⟨⟨putLine 0 (some { line with good := 4, inFlight := 0 }) (binned .held demo), { order with state := .held, bin := some 23 },
      by decide⟩,
    ⟨shelfFull (putLine 0 (some { line with good := 4, inFlight := 0 }) (binned .held demo)),
      { order with state := .held, bin := some 23 }, by decide⟩⟩

/-- An owned bin and a full shelf meet their invariants, and a step is taken (ShelfCountsBalance, last parts). -/
theorem test_witness_pack_invariants :
    ∃ s t : State, s.binsOwned ∧ s.shelfAged ∧ s.pack.age ≠ [] ∧ tget s.pack.bins 23 ≠ none ∧ step s = .next t := by
  have hb : ∀ b : BinNo, tget (shelfFull (binned .active demo)).pack.bins b
      = if b = 23 then some { generation := 1, index := 0 } else none := by decide
  have ho : ∀ i : OrderNo, (shelfFull (binned .active demo)).order i
      = if i = 0 then some { order with bin := some 23 } else none := by decide
  refine ⟨shelfFull (binned .active demo), _, ⟨fun b h e => ?_, fun i o b h e => ?_, fun i o h hc => ?_⟩,
    ⟨by decide, by decide⟩, by decide, by decide, rfl⟩
  · rw [hb] at e; split at e <;> simp at e; subst e b; exact ⟨by decide, { order with bin := some 23 }, ho 0, by decide⟩
  · rw [ho] at h; split at h <;> simp at h; subst h i
    obtain rfl : (23 : BinNo) = b := by simpa using e
    rw [hb]; decide
  · rw [ho] at h; split at h <;> simp at h; subst h; simp [order] at hc

/-- A unit of a CANCELLING order, the last in flight and not the last (FreedUnitAndItsOrder). -/
theorem test_witness_cancelling_unit :
    (∃ (s : State) (o : Order), s.shirt 0 = some shirt ∧ s.order shirt.order.index = some o ∧ o.state = .cancelling
        ∧ lineNoOf s shirt.order.index shirt.line = some 0 ∧ s.line 0 = some line ∧ line.inFlight ≤ 1 ∧ o.lines = [0])
      ∧ ∃ (s : State) (o : Order), s.order shirt.order.index = some o ∧ o.state = .cancelling
        ∧ s.line 0 = some { line with inFlight := 2 } ∧ 1 < ({ line with inFlight := 2 } : Line).inFlight :=
  ⟨⟨reorder (fun o => { o with state := .cancelling }) demo, { order with state := .cancelling }, by decide⟩,
    ⟨putLine 0 (some { line with inFlight := 2 }) (reorder (fun o => { o with state := .cancelling }) demo),
      { order with state := .cancelling }, by decide⟩⟩

/-- COMPLETE, CANCELLING, and ACTIVE with and without a shirt in flight (CancelOrderByState). -/
theorem test_witness_cancel :
    (∃ s o, Asked s .order .cancelOrder handle0 ∧ s.order 0 = some o ∧ o.state = .complete)
      ∧ (∃ s o, Asked s .order .cancelOrder handle0 ∧ s.order 0 = some o ∧ o.state = .cancelling)
      ∧ (∃ s o, Asked s .order .cancelOrder handle0 ∧ s.order 0 = some o ∧ o.state = .active ∧ o.bin = none
        ∧ 0 < totalInFlight s o)
      ∧ ∃ s o, Asked s .order .cancelOrder handle0 ∧ s.order 0 = some o ∧ o.state = .active ∧ o.bin = none
        ∧ totalInFlight s o = 0 ∧ handle0 = handleBytes (s.handleOf 0) ∧ (s.handleOf 0).generation ≤ 255 :=
  ⟨⟨asksOrder .order .cancelOrder fun o => { o with state := .complete }, { order with state := .complete }, by decide⟩,
    ⟨asksOrder .order .cancelOrder fun o => { o with state := .cancelling }, { order with state := .cancelling },
      by decide⟩,
    ⟨asksOrder .order .cancelOrder id, order, by decide⟩,
    ⟨putLine 0 (some { line with inFlight := 0 }) (asksOrder .order .cancelOrder id), order, by decide⟩⟩

/-- An order with a bin (ShelfCountsBalance); a unit of an order not CANCELLING, a scrap across the limit, lines good
and short (FreedUnitAndItsOrder). -/
theorem test_witness_books :
    (∃ (s : State) (o : Order), s.order 0 = some o ∧ o.bin = some 0)
      ∧ (demo.shirt 0 = some shirt ∧ demo.order shirt.order.index = some order
        ∧ lineNoOf demo shirt.order.index shirt.line = some 0 ∧ demo.line 0 = some line ∧ order.state ≠ .cancelling)
      ∧ (3 ≤ demo.load.scrapLimit ∧ demo.load.scrapLimit < 4 ∧ order.state = .active)
      ∧ (∃ l ∈ linesOf demo order, l.good ≠ l.quantity)
      ∧ ∃ s : State, s.order 0 = some order ∧ ∀ l ∈ linesOf s order, l.good = l.quantity :=
  ⟨⟨reorder (fun o => { o with bin := some 0 }) demo, { order with bin := some 0 }, by decide⟩, by decide, by decide,
    ⟨line, by decide, by decide⟩, ⟨putLine 0 (some { line with good := 4, inFlight := 0 }) demo, by decide⟩⟩

/-- The artwork requests on an EMPTY, a referenced and an unreferenced descriptor, staged or not (ArtworkRequests). -/
theorem test_witness_artwork :
    (∃ s : State, Asked s .order .defineArtwork (design.bytes 63) ∧ (tget s.artworks 63).design = none)
      ∧ design.inRange
      ∧ (∃ s : State, Asked s .order .defineArtwork (design.bytes 3) ∧ (tget s.artworks 3).design.isSome = true)
      ∧ (∃ s : State, Asked s .order .removeArtwork (bytes1 (63 : ArtworkNo).val) ∧ (tget s.artworks 63).design = none)
      ∧ (∃ s : State, Asked s .order .removeArtwork [3] ∧ (tget s.artworks 3).design.isSome = true
        ∧ 0 < (tget s.artworks 3).refs)
      ∧ (∃ s : State, Asked s .order .removeArtwork [3] ∧ (tget s.artworks 3).design.isSome = true
        ∧ (tget s.artworks 3).refs = 0 ∧ (tget s.artworks 3).staged = false)
      ∧ ∃ s : State, Asked s .order .removeArtwork [3] ∧ (tget s.artworks 3).design.isSome = true
        ∧ (tget s.artworks 3).refs = 0 ∧ (tget s.artworks 3).staged = true :=
  ⟨⟨offer .order .defineArtwork (design.bytes 63) demo, by decide⟩,
    ⟨by decide, by decide, by decide, by decide, by decide, by decide, by decide, by decide⟩,
    ⟨offer .order .defineArtwork (design.bytes 3) demo, by decide⟩,
    ⟨offer .order .removeArtwork [63] demo, by decide⟩, ⟨offer .order .removeArtwork [3] demo, by decide⟩,
    ⟨offer .order .removeArtwork [3]
      (demo.setArtworks (tset demo.artworks 3 { design := some design, refs := 0, staged := false })), by decide⟩,
    ⟨offer .order .removeArtwork [3]
      (demo.setArtworks (tset demo.artworks 3 { design := some design, refs := 0, staged := true })), by decide⟩⟩

/-- Each field of a design just out of range; a number of 64 and an EMPTY descriptor in the others
(ArtworkRequests, third part). -/
theorem test_witness_artwork_refused :
    (∀ b ∈ ([[64, 1, 1, 1, 1, 0, 0], [0, 0, 1, 1, 1], [0, 25, 1, 1, 1] ++ List.replicate 50 0, [0, 1, 0, 1, 1, 0, 0],
          [0, 1, 1, 0, 1, 0, 0], [0, 1, 1, 3, 1, 0, 0], [0, 1, 1, 1, 0, 0, 0], [0, 1, 1, 1, 5, 0, 0]] : List (List Byte)),
        ∃ s : State, Asked s .order .defineArtwork b)
      ∧ (∃ s : State, Asked s .order .removeArtwork [64]) ∧ (∃ s : State, Asked s .engine .artworkStaged [64])
      ∧ (∃ s : State, Asked s .engine .artworkEvicted [64])
      ∧ (∃ s : State, Asked s .engine .artworkStaged [63] ∧ (tget s.artworks 63).design = none)
      ∧ ∃ s : State, Asked s .engine .artworkEvicted [63] ∧ (tget s.artworks 63).design = none :=
  ⟨fun b h => ⟨offer .order .defineArtwork b demo, by revert b; decide⟩,
    ⟨offer .order .removeArtwork [64] demo, by decide⟩, ⟨offer .engine .artworkStaged [64] demo, by decide⟩,
    ⟨offer .engine .artworkEvicted [64] demo, by decide⟩, ⟨offer .engine .artworkStaged [63] demo, by decide⟩,
    ⟨offer .engine .artworkEvicted [63] demo, by decide⟩⟩

/-- Artworks 0 to n − 1 DEFINED and staged, artwork 20 DEFINED and not staged. -/
def stagedTo (n : Nat) : State :=
  demo.setArtworks (tableOf fun a =>
    if a.val < n then { design := some design, refs := 1, staged := true }
    else { design := some design, refs := 1, staged := false })

/-- The Print station in a state with unit 0 held. -/
def printing (st : PrintState) (s : State) : State :=
  s.setPrint { s.print with state := st, held := some (s.tagOf 0) }

/-- Staging at 15 and at 16 staged, waited for or not; evictions of engaged and of free artworks (ArtworkRequests). -/
theorem test_witness_staging :
    (∃ s : State, Asked s .engine .artworkStaged [0] ∧ (tget s.artworks 0).staged = true)
      ∧ (∃ s : State, Asked s .engine .artworkStaged [20] ∧ (tget s.artworks 20).design.isSome = true
        ∧ (tget s.artworks 20).staged = false ∧ stagedCount s = 16)
      ∧ (∃ s : State, Asked s .engine .artworkStaged [20] ∧ (tget s.artworks 20).staged = false ∧ stagedCount s = 15
        ∧ ¬ (s.print.state = .waitArtwork ∧ heldArtwork s = some 20))
      ∧ (∃ s : State, Asked s .engine .artworkStaged [3] ∧ (tget s.artworks 3).staged = false ∧ stagedCount s < 16
        ∧ s.print.state = .waitArtwork ∧ heldArtwork s = some 3)
      ∧ (∃ s : State, Asked s .engine .artworkEvicted [20] ∧ (tget s.artworks 20).staged = false)
      ∧ (∃ s : State, Asked s .engine .artworkEvicted [3] ∧ (tget s.artworks 3).staged = true
        ∧ s.print.state ∈ [.registering, .passing, .aborting, .parking] ∧ heldArtwork s = some 3)
      ∧ ∃ s : State, Asked s .engine .artworkEvicted [3] ∧ (tget s.artworks 3).staged = true
        ∧ ¬ (s.print.state ∈ [.registering, .passing, .aborting, .parking] ∧ heldArtwork s = some 3) :=
  ⟨⟨offer .engine .artworkStaged [0] (stagedTo 1), by decide⟩, ⟨offer .engine .artworkStaged [20] (stagedTo 16), by decide⟩,
    ⟨offer .engine .artworkStaged [20] (stagedTo 15), by decide⟩,
    ⟨offer .engine .artworkStaged [3] (printing .waitArtwork (stagedTo 3)), by decide⟩,
    ⟨offer .engine .artworkEvicted [20] (stagedTo 16), by decide⟩,
    ⟨offer .engine .artworkEvicted [3] (printing .parking (stagedTo 16)), by decide⟩,
    ⟨offer .engine .artworkEvicted [3] (printing .waitArtwork (stagedTo 16)), by decide⟩⟩

/-! ### Witnesses: chapter 3 -/

/-- The SKU of the demo line in its three bytes. -/
def sku0 : List Byte := skuBytes shirt.sku

/-- A LOAD of the demo SKU in a state. -/
def loads (s : State) : State := offer .load .load sku0 s

/-- A design of 21 bands in artwork 3. -/
def longDesign (s : State) : State :=
  s.setArtworks (tset s.artworks 3
    { design := some { design with coverage := List.replicate 21 { white := 0, colour := 1 } }, refs := 1, staged := true })

/-- A candidate and none (CandidateIsFirst); every check of LOAD, and a LOAD that passes them (LoadByItsChecks). -/
theorem test_witness_load :
    candidate demo shirt.sku = some (0, 0, line)
      ∧ candidate demo { shirt.sku with size := 0 } = none
      ∧ (∃ s : State, Asked s .load .load sku0 ∧ s.ring.state = .moving)
      ∧ (∃ s : State, Asked s .load .load sku0 ∧ s.ring.state = .still ∧ s.load.quiesce ≠ .running)
      ∧ (∃ s : State, Asked s .load .load sku0 ∧ s.ring.state = .still ∧ s.load.quiesce = .running
        ∧ platenAt s 0 = some 0 ∧ (tget s.ring.platens 0).enabled = false)
      ∧ (∃ s : State, Asked s .load .load sku0 ∧ platenAt s 0 = some 0 ∧ (tget s.ring.platens 0).enabled = true
        ∧ (tget s.ring.platens 0).unit.isSome = true)
      ∧ (∃ s : State, Asked s .load .load [8, 0, 0] ∧ platenAt s 0 = some 11 ∧ (tget s.ring.platens 11).unit = none)
      ∧ (∃ s : State, Asked s .load .load [0, 64, 0] ∧ platenAt s 0 = some 11)
      ∧ (∃ s : State, Asked s .load .load [0, 0, 8] ∧ platenAt s 0 = some 11)
      ∧ (∃ s : State, Asked s .load .load sku0 ∧ platenAt s 0 = some 11 ∧ (tget s.ring.platens 11).unit = none
        ∧ candidate s shirt.sku = none)
      ∧ (∃ s : State, Asked s .load .load sku0 ∧ platenAt s 0 = some 11 ∧ candidate s shirt.sku = some (0, 0, line)
        ∧ (tget s.artworks 3).design = some design
        ∧ (tget s.ring.platens 11).sizeClass ≠ tget s.load.sizeMap shirt.sku.size)
      ∧ (∃ s : State, ∃ d : Design, Asked s .load .load sku0 ∧ platenAt s 0 = some 11
        ∧ candidate s shirt.sku = some (0, 0, line) ∧ (tget s.artworks 3).design = some d
        ∧ (tget s.ring.platens 11).sizeClass = tget s.load.sizeMap shirt.sku.size
        ∧ (tget s.load.sizeMap shirt.sku.size).capacity < d.coverage.length)
      ∧ ∃ s : State, Asked s .load .load sku0 ∧ s.ring.state = .still ∧ s.load.quiesce = .running
        ∧ platenAt s 0 = some 11 ∧ (tget s.ring.platens 11).enabled = true ∧ (tget s.ring.platens 11).unit = none
        ∧ candidate s shirt.sku = some (0, 0, line) ∧ s.order 0 = some order
        ∧ (tget s.artworks 3).design = some design
        ∧ (tget s.ring.platens 11).sizeClass = tget s.load.sizeMap shirt.sku.size
        ∧ design.coverage.length ≤ (tget s.load.sizeMap shirt.sku.size).capacity
        ∧ s.shirt 1 = none ∧ ∀ v : UnitNo, v < 1 → (s.shirt v).isSome = true :=
  ⟨by decide, by decide, ⟨loads (demo.setRing demo.ring.grant), by decide⟩,
    ⟨loads (setQuiesce .load .quiescing demo), by decide⟩,
    ⟨loads (stocked.setRing { stocked.ring with
      platens := tset stocked.ring.platens 0 { tget stocked.ring.platens 0 with enabled := false } }), by decide⟩,
    ⟨loads demo, by decide⟩, ⟨offer .load .load [8, 0, 0] (turned 1 demo), by decide⟩,
    ⟨offer .load .load [0, 64, 0] (turned 1 demo), by decide⟩, ⟨offer .load .load [0, 0, 8] (turned 1 demo), by decide⟩,
    ⟨loads (turned 1 stocked), by decide⟩,
    ⟨loads ((turned 1 demo).setLoad { demo.load with sizeMap := Vector.replicate 8 .youth }), by decide⟩,
    ⟨loads (longDesign (turned 1 demo)), { design with coverage := List.replicate 21 { white := 0, colour := 1 } },
      by decide⟩,
    ⟨loads (turned 1 demo), by decide⟩⟩

/-- A request of a port that names unit 0. -/
def asksUnit (p : Port) (r : Request) (s : State) : State := offer p r tag0 s

/-- UNLOAD on a MOVING ring, off the load platen, and taken; BYPASS by the rows of R58 (UnloadAndBypass). -/
theorem test_witness_unload_bypass :
    (∃ s : State, Asked s .load .unload tag0 ∧ s.ring.state = .moving)
      ∧ (∃ s : State, Asked s .load .unload tag0 ∧ s.ring.state = .still ∧ (tget s.ring.platens 0).position ≠ 0)
      ∧ (∃ s : State, Asked s .load .unload tag0 ∧ tag0 = tagBytes (s.tagOf 0) ∧ s.generation 0 ≤ 1023
        ∧ s.shirt 0 = some shirt ∧ shirt.platen = some 0 ∧ s.ring.state = .still ∧ shirt.state = .loaded
        ∧ (tget s.ring.platens 0).position = 0 ∧ lineOf s shirt = some line)
      ∧ (∃ s sh, Asked s .load .bypassPretreat tag0 ∧ s.shirt 0 = some sh ∧ sh.platen = some 0 ∧ sh.state ≠ .loaded)
      ∧ (∃ s sh, Asked s .load .bypassPretreat tag0 ∧ s.shirt 0 = some sh ∧ sh.state = .loaded
        ∧ sh.flags.bypassed = true)
      ∧ (∃ s : State, Asked s .load .bypassPretreat tag0 ∧ s.shirt 0 = some shirt
        ∧ 3 < (tget s.ring.platens 0).position.val)
      ∧ (∃ s : State, Asked s .load .bypassPretreat tag0 ∧ s.shirt 0 = some shirt
        ∧ (tget s.ring.platens 0).position.val = 3 ∧ pretreatHolds s 0 = false)
      ∧ ∃ s : State, Asked s .load .bypassPretreat tag0 ∧ s.shirt 0 = some shirt ∧ shirt.state = .loaded
        ∧ shirt.flags.bypassed = false ∧ (tget s.ring.platens 0).position.val = 3 ∧ pretreatHolds s 0 = true :=
  ⟨⟨asksUnit .load .unload (demo.setRing demo.ring.grant), by decide⟩, ⟨asksUnit .load .unload (turned 1 demo), by decide⟩,
    ⟨asksUnit .load .unload demo, by decide⟩,
    ⟨asksUnit .load .bypassPretreat (recast (fun x => { x with state := .pretreated }) demo),
      { shirt with state := .pretreated }, by decide⟩,
    ⟨asksUnit .load .bypassPretreat (recast (fun x => { x with flags := { x.flags with bypassed := true } }) demo),
      { shirt with flags := { shirt.flags with bypassed := true } }, by decide⟩,
    ⟨asksUnit .load .bypassPretreat (turned 4 demo), by decide⟩, ⟨asksUnit .load .bypassPretreat (turned 3 demo), by decide⟩,
    ⟨asksUnit .load .bypassPretreat (setPretreatState .lowFluid none (turned 3 demo)), by decide⟩⟩

/-- Unit 0 EXITED with a cure result, its order revised. -/
def exited (r : CureResult) (f : Order → Order) : State :=
  let s := reorder f (recast (fun x => { x with
    state := .exited, platen := none
    cure := some { required := some 3000, exposure := 3000, scorch := some 5500, result := r } }) demo)
  s.setPack { s.pack with exits := [0] }

/-- The unit of `exited`. -/
def exitedShirt (r : CureResult) : Shirt :=
  { shirt with
    state := .exited, platen := none
    cure := some { required := some 3000, exposure := 3000, scorch := some 5500, result := r } }

/-- A unit on no platen: UNLOAD of an EXITED one on a MOVING and a STILL ring; BYPASS of it, and of a LOADED one with and
without the flag (UnloadAndBypass). -/
theorem test_witness_off_platen :
    (∃ s : State, Asked s .load .unload tag0 ∧ s.shirt 0 = some (exitedShirt .cured) ∧ s.ring.state = .moving)
      ∧ (∃ s : State, Asked s .load .unload tag0 ∧ s.shirt 0 = some (exitedShirt .cured) ∧ s.ring.state = .still)
      ∧ (∃ s : State, Asked s .load .bypassPretreat tag0 ∧ s.shirt 0 = some (exitedShirt .cured)
        ∧ (exitedShirt .cured).state ≠ .loaded ∧ (exitedShirt .cured).platen = none)
      ∧ (∃ s sh, Asked s .load .bypassPretreat tag0 ∧ s.shirt 0 = some sh ∧ sh.platen = none ∧ sh.state = .loaded
        ∧ sh.flags.bypassed = true)
      ∧ ∃ s sh, Asked s .load .bypassPretreat tag0 ∧ s.shirt 0 = some sh ∧ sh.platen = none ∧ sh.state = .loaded
        ∧ sh.flags.bypassed = false :=
  ⟨⟨asksUnit .load .unload ((exited .cured id).setRing demo.ring.grant), by decide⟩,
    ⟨asksUnit .load .unload (exited .cured id), by decide⟩, ⟨asksUnit .load .bypassPretreat (exited .cured id), by decide⟩,
    ⟨asksUnit .load .bypassPretreat (recast (fun x => { x with
        platen := none, flags := { x.flags with bypassed := true } }) demo),
      { shirt with platen := none, flags := { shirt.flags with bypassed := true } }, by decide⟩,
    ⟨asksUnit .load .bypassPretreat (recast (fun x => { x with platen := none }) demo), { shirt with platen := none },
      by decide⟩⟩

/-- The five writes just out of range (LoadAndDoseTableWrites); in range the demo state, RUNNING, meets NOT QUIESCED. -/
theorem test_witness_table_writes_refused :
    (∃ s : State, Asked s .order .writeColourTable [64, 0]) ∧ (∃ s : State, Asked s .order .writeColourTable [0])
      ∧ (∃ s : State, Asked s .order .writeColourTable [63, 0, 0]) ∧ (∃ s : State, Asked s .order .writeSizeMap [8, 0])
      ∧ (∃ s : State, Asked s .order .writeSizeMap [0, 3]) ∧ (∃ s : State, Asked s .order .writeScrapLimit [8])
      ∧ (∃ s : State, Asked s .order .writeDoseTable ((7 : Byte) :: [401].flatMap bytes2))
      ∧ (∃ s : State, Asked s .order .writeDoseTable ((7 : Byte) :: [0, 0].flatMap bytes2))
      ∧ ∃ s : State, Asked s .order .writeDarkThreshold [0] ∧ s.load.quiesce ≠ .quiesced ∧ s.pretreat.quiesce ≠ .quiesced :=
  ⟨⟨offer .order .writeColourTable [64, 0] demo, by decide⟩, ⟨offer .order .writeColourTable [0] demo, by decide⟩,
    ⟨offer .order .writeColourTable [63, 0, 0] demo, by decide⟩, ⟨offer .order .writeSizeMap [8, 0] demo, by decide⟩,
    ⟨offer .order .writeSizeMap [0, 3] demo, by decide⟩, ⟨offer .order .writeScrapLimit [8] demo, by decide⟩,
    ⟨offer .order .writeDoseTable [7, 1, 145] demo, by decide⟩, ⟨offer .order .writeDoseTable [7, 0, 0, 0, 0] demo, by decide⟩,
    ⟨offer .order .writeDarkThreshold [0] demo, by decide⟩⟩

/-- The five writes at the ends of their ranges, with the station QUIESCED (LoadAndDoseTableWrites). -/
theorem test_witness_table_writes :
    (∃ s : State, Asked s .order .writeColourTable [63, 255] ∧ s.load.quiesce = .quiesced
        ∧ ([255] : List Byte) ≠ [] ∧ (63 : Byte).toNat + ([255] : List Byte).length ≤ 64)
      ∧ (∃ s : State, Asked s .order .writeSizeMap [7, 2] ∧ (7 : Byte).toNat = (7 : Fin 8).val
        ∧ (2 : Byte).toNat = SizeClass.oversize.code ∧ s.load.quiesce = .quiesced)
      ∧ (∃ s : State, Asked s .order .writeDarkThreshold [255] ∧ s.load.quiesce = .quiesced)
      ∧ (∃ s : State, Asked s .order .writeScrapLimit [7] ∧ (7 : Byte).toNat ≤ 7 ∧ s.load.quiesce = .quiesced)
      ∧ ∃ s : State, Asked s .order .writeDoseTable ((7 : Byte) :: [400].flatMap bytes2)
        ∧ s.pretreat.quiesce = .quiesced ∧ (7 : Byte).toNat + [400].length ≤ 8 ∧ ∀ d ∈ [400], d ≤ 400 :=
  ⟨⟨offer .order .writeColourTable [63, 255] (setQuiesce .load .quiesced demo), by decide⟩,
    ⟨offer .order .writeSizeMap [7, 2] (setQuiesce .load .quiesced demo), by decide⟩,
    ⟨offer .order .writeDarkThreshold [255] (setQuiesce .load .quiesced demo), by decide⟩,
    ⟨offer .order .writeScrapLimit [7] (setQuiesce .load .quiesced demo), by decide⟩,
    ⟨offer .order .writeDoseTable [7, 1, 144] (setQuiesce .pretreat .quiesced demo), by decide⟩⟩

/-! ### Witnesses: chapters 4 and 5 -/

/-- The inputs at the top of their ranges; a dose three sweeps reach, and one they do not (DoseArithmetic). -/
theorem test_witness_dose :
    (∃ (i : DoseInputs) (c : Coverage), i.base = 400 ∧ i.darkness = 255 ∧ i.passCapacity = 200 ∧ i.minDose = 100
        ∧ i.zones = 8 ∧ c.white = 255 ∧ c.colour = 255)
      ∧ (0 < bandDose exampleInputs { white := 180, colour := 100 }
        ∧ bandDose exampleInputs { white := 180, colour := 100 } ≤ 3 * exampleInputs.passCapacity)
      ∧ ∃ (i : DoseInputs) (c : Coverage), 20 ≤ i.passCapacity ∧ 3 * i.passCapacity < bandDose i c :=
  ⟨⟨{ base := 400, darkness := 255, dark := true, passCapacity := 200, minDose := 100, zones := 8 },
      { white := 255, colour := 255 }, by decide⟩, by decide,
    ⟨{ exampleInputs with passCapacity := 20 }, { white := 180, colour := 100 }, by decide⟩⟩

/-- Stages 1 to 4 with coverage 0, with a raw dose 0, with one below and one at the minimum dose (DoseArithmetic). -/
theorem test_witness_dose_stages :
    bandDose exampleInputs { white := 0, colour := 255 } = 0
      ∧ ({ exampleInputs with base := 0 }.base * (128 + 200 / 2) * (32 + 7 * 255 / 8) + 32768) / 65536 = 0
      ∧ (0 < rawDose 1 (darknessScale 200) (coverageScale 180) ∧ rawDose 1 (darknessScale 200) (coverageScale 180) < 100)
      ∧ rawDose exampleInputs.base (darknessScale exampleInputs.darkness) (coverageScale 180)
        = bandDose { exampleInputs with minDose := bandDose exampleInputs { white := 180, colour := 100 } }
          { white := 180, colour := 100 } := by decide

/-- A dose of 250 gsm for every fabric class and a reservoir level. -/
def dosed (level : Nat) (s : State) : State :=
  s.setPretreat { s.pretreat with doses := Vector.replicate 8 250, reservoir := level }

/-- Unit 0's spray plan in a state. -/
def plan0 (s : State) : SprayPlan := sprayPlanOf s 0 shirt

/-- R70's cases, with the level one short of F and at F; a plan handed to a PARKED and to a MOVING bar
(PretreatStartAndHandover). -/
theorem test_witness_pretreat_start :
    (setQuiesce .pretreat .quiescing demo).pretreat.quiesce ≠ .running
      ∧ (demo.pretreat.quiesce = .running ∧ (plan0 demo).sweepCount = 0 ∧ demo.shirt 0 = some shirt)
      ∧ (∃ s : State, s.shirt 0 = some shirt ∧ s.pretreat.quiesce = .running ∧ 0 < (plan0 s).sweepCount
        ∧ s.bar.state = .faulted)
      ∧ (∃ s : State, s.shirt 0 = some shirt ∧ 0 < (plan0 s).sweepCount ∧ s.bar.state ≠ .faulted
        ∧ s.pretreat.reservoir + 1 = (plan0 s).fluidTotal ∧ s.pretreat.state ≠ .lowFluid)
      ∧ (∃ s : State, s.shirt 0 = some shirt ∧ 0 < (plan0 s).sweepCount ∧ s.bar.state ≠ .faulted
        ∧ s.pretreat.reservoir + 1 = (plan0 s).fluidTotal ∧ s.pretreat.state = .lowFluid)
      ∧ (∃ s : State, s.shirt 0 = some shirt ∧ s.pretreat.quiesce = .running ∧ 0 < (plan0 s).sweepCount
        ∧ s.bar.state = .parked ∧ (plan0 s).fluidTotal = s.pretreat.reservoir)
      ∧ (Bar.initial.moveTo .home).state = .moving
      ∧ ((tget demo.artworks shirt.artwork).design = some design ∧ sprayPlanOf demo 0 shirt = plan0 demo
        ∧ design.coverage[3]? = some { white := 150, colour := 120 }) :=
  ⟨by decide, by decide, ⟨(dosed 0 demo).setBar { demo.bar with state := .faulted }, by decide⟩,
    ⟨dosed 2897 demo, by decide⟩, ⟨setPretreatState .lowFluid none (dosed 2897 demo), by decide⟩,
    ⟨dosed 2898 demo, by decide⟩, by decide, by decide⟩

/-- Unit 0 alone at position 3, and no unit there (PretreatStartAndHandover, the start test of the station). -/
theorem test_witness_pretreat_station :
    ((∀ q : PlatenNo, (tget (turned 3 demo).ring.platens q).position = 3 ↔ q = 0)
        ∧ (tget (turned 3 demo).ring.platens 0).unit = some 0 ∧ (turned 3 demo).shirt 0 = some shirt)
      ∧ ∀ q : PlatenNo, (tget demo.ring.platens q).position = 3 → (tget demo.ring.platens q).unit = none := by
  decide

/-- Amounts that fill the reservoir exactly and by one too much; a station in LOW FLUID (RefillRaisesTheLevel). -/
theorem test_witness_refill :
    (∃ s : State, Asked s .load .refill (bytes4 1) ∧ s.pretreat.reservoir + 1 = 8000000 ∧ s.pretreat.state ≠ .lowFluid)
      ∧ (∃ s : State, Asked s .load .refill (bytes4 4294967295) ∧ s.pretreat.reservoir = 8000000
        ∧ s.pretreat.state ≠ .lowFluid)
      ∧ (∃ s : State, ∃ t, Asked s .load .refill (bytes4 1) ∧ s.pretreat.state = .lowFluid
        ∧ s.pretreat.reservoir ≤ 8000000
        ∧ t = pretreatStartTest (s.setPretreat { s.pretreat with reservoir := s.pretreat.reservoir + 1 })
        ∧ t.pretreat.state = .spraying)
      ∧ ∃ s : State, ∃ t, Asked s .load .refill (bytes4 0) ∧ s.pretreat.state = .lowFluid
        ∧ t = pretreatStartTest s ∧ t.pretreat.state ≠ .spraying :=
  ⟨⟨offer .load .refill (bytes4 1) (dosed 7999999 demo), by decide⟩,
    ⟨offer .load .refill (bytes4 4294967295) (dosed 8000000 demo), by decide⟩,
    ⟨offer .load .refill (bytes4 1) (turned 3 (setPretreatState .lowFluid none (dosed 2897 demo))), _, by decide,
      by decide, by decide, rfl, by decide⟩,
    ⟨offer .load .refill (bytes4 0) (turned 3 (setPretreatState .lowFluid none (dosed 2897 demo))), _, by decide,
      by decide, rfl, by decide⟩⟩

/-- Settings in a WRITE SPRAY SETTINGS body. -/
def settingsBody (x : SpraySettings) : List Byte :=
  bytes2 x.sweepTime ++ bytes1 x.amplitude ++ bytes2 x.halfPeriod ++ bytes1 x.passCapacity ++ bytes1 x.minDose

/-- A bar that sweeps with dither, its dither-off write taken or not. -/
def dithered (off : Option Nat) (s : State) : State :=
  s.setBar { s.bar with
    settings := { s.bar.settings with amplitude := 7 }, state := .sweeping, dithering := true, sweepTime := 500
    sweepHalf := 100, ditherOffAt := off, plan := some (plan0 (dosed 0 demo)), band := some 0 }

/-- Out of range by one; a dither-off write in and out of a dithered sweep; a gated write (WriteSpraySettingsTable). -/
theorem test_witness_spray_settings :
    (∃ s x, Asked s .order .writeSpraySettings (settingsBody x) ∧ x.inRange = false ∧ x.amplitude = 8)
      ∧ (∃ s x, Asked s .order .writeSpraySettings (settingsBody x) ∧ x.inRange = true
        ∧ x = { s.bar.settings with amplitude := 0 } ∧ ¬ (s.bar.state = .sweeping ∧ s.bar.dithering = true))
      ∧ (∃ s x, Asked s .order .writeSpraySettings (settingsBody x) ∧ x.inRange = true
        ∧ x = { s.bar.settings with amplitude := 0 } ∧ s.bar.state = .sweeping ∧ s.bar.dithering = true
        ∧ s.bar.ditherOffAt = none)
      ∧ (∃ s x, Asked s .order .writeSpraySettings (settingsBody x) ∧ x.inRange = true
        ∧ x = { s.bar.settings with amplitude := 0 } ∧ s.bar.state = .sweeping ∧ s.bar.dithering = true
        ∧ s.bar.ditherOffAt = some 3)
      ∧ (∃ s x, Asked s .order .writeSpraySettings (settingsBody x) ∧ x.inRange = true
        ∧ x ≠ { s.bar.settings with amplitude := 0 } ∧ s.pretreat.quiesce ≠ .quiesced)
      ∧ ∃ s x, Asked s .order .writeSpraySettings (settingsBody x) ∧ x.inRange = true
        ∧ x ≠ { s.bar.settings with amplitude := 0 } ∧ s.pretreat.quiesce = .quiesced :=
  ⟨⟨offer .order .writeSpraySettings (settingsBody { Bar.initial.settings with amplitude := 8 }) demo,
      { Bar.initial.settings with amplitude := 8 }, by decide⟩,
    ⟨offer .order .writeSpraySettings (settingsBody Bar.initial.settings) demo, Bar.initial.settings, by decide⟩,
    ⟨offer .order .writeSpraySettings (settingsBody Bar.initial.settings) (dithered none demo), Bar.initial.settings,
      by decide⟩,
    ⟨offer .order .writeSpraySettings (settingsBody Bar.initial.settings) (dithered (some 3) demo),
      Bar.initial.settings, by decide⟩,
    ⟨offer .order .writeSpraySettings (settingsBody { Bar.initial.settings with amplitude := 7 }) demo,
      { Bar.initial.settings with amplitude := 7 }, by decide⟩,
    ⟨offer .order .writeSpraySettings (settingsBody { Bar.initial.settings with amplitude := 7 })
      (setQuiesce .pretreat .quiesced demo), { Bar.initial.settings with amplitude := 7 }, by decide⟩⟩

/-- The bar with unit 0's plan, in a state with a target. -/
def barAt (st : BarState) (t : Option Target) (s : State) : State :=
  s.setBar { s.bar with state := st, target := t, plan := some (plan0 (dosed 0 demo)), band := some 0 }

/-- Every row of R86 and of R91 (BarInPositionTable, BarFaultTable). -/
theorem test_witness_bar_moves :
    ((barAt .moving (some (.band 0)) demo).bar.target = some (.band 0)
        ∧ (barAt .moving (some (.band 0)) demo).bar.band = some 0)
      ∧ (∃ (s : State) (p : SprayPlan) (sh : Shirt) (d : DoseRecord), s.bar.state = .moving ∧ s.bar.target = some .home ∧ s.bar.plan = some p
        ∧ s.bar.planWaiting = false ∧ s.shirt p.tag.unit = some sh ∧ sh.dose = some d)
      ∧ (∃ s : State, s.bar.state = .moving ∧ s.bar.target = some .home ∧ s.bar.plan = none
        ∧ s.bar.planWaiting = false ∧ s.pretreat.state ≠ .lowFluid)
      ∧ (∃ (s : State) (p : SprayPlan), s.bar.state = .moving ∧ s.bar.target = some .home ∧ s.bar.plan = some p
        ∧ s.bar.planWaiting = true ∧ p.nextBand 0 = some 0)
      ∧ (∃ s : State, s.bar.state = .faulted ∧ s.bar.clearPending = true ∧ s.pretreat.state ≠ .barFault)
      ∧ (∃ s : State, s.bar.state = .faulted ∧ s.bar.clearPending = true ∧ s.pretreat.state = .barFault)
      ∧ demo.bar.state = .parked
      ∧ (∃ s : State, s.bar.state = .faulted ∧ s.bar.clearPending = false)
      ∧ (∃ (s : State) (p : SprayPlan), s.bar.state = .sweeping ∧ s.bar.plan = some p ∧ s.shirt p.tag.unit = some shirt)
      ∧ ∃ s : State, s.bar.state = .parked ∧ s.pretreat.state = .lowFluid :=
  ⟨by decide,
    ⟨recast (fun x => { x with dose := some { sweeps := 8, fluid := 2898 } }) (barAt .moving (some .home) demo),
      plan0 (dosed 0 demo), { shirt with dose := some { sweeps := 8, fluid := 2898 } }, { sweeps := 8, fluid := 2898 },
      by decide⟩,
    ⟨demo.setBar (demo.bar.moveTo .home), by decide⟩,
    ⟨demo.setBar { (barAt .moving (some .home) demo).bar with planWaiting := true }, plan0 (dosed 0 demo), by decide⟩,
    ⟨demo.setBar { demo.bar with state := .faulted, clearPending := true }, by decide⟩,
    ⟨setPretreatState .barFault none (demo.setBar { demo.bar with state := .faulted, clearPending := true }), by decide⟩,
    by decide, ⟨demo.setBar { demo.bar with state := .faulted }, by decide⟩,
    ⟨barAt .sweeping none demo, plan0 (dosed 0 demo), by decide⟩, ⟨setPretreatState .lowFluid none demo, by decide⟩⟩

/-- A FAULTED bar with its clear pending comes home: the clear stands before the step and not after it
(BarFaultTable, second part). -/
theorem test_witness_clear_pending :
    (∃ s t : State, s.bar.state ≠ .faulted ∧ s.bar.clearPending = false ∧ step s = .next t ∧ t.bar.state ≠ .faulted)
      ∧ ∃ s t : State, s.bar.state = .faulted ∧ s.bar.clearPending = true ∧ step s = .next t ∧ t.bar.state = .parked :=
  ⟨⟨demo, _, by decide, by decide, rfl, by decide⟩,
    ⟨(demo.setBar { demo.bar with state := .faulted, clearPending := true }).setPending [.barInPosition], _, by decide,
      by decide, rfl, by decide⟩⟩

/-- The bar of `dithered` at the end of a sweep, k sweeps of its band done. -/
def sweepOver (k : Nat) (s : State) : State :=
  let s1 := later 500 (dithered none s)
  s1.setBar { s1.bar with sweepsDone := k }

/-- Sweeps without dither, with it, with a dither-off write at a crossing; a sweep not due; a band with sweeps left and
without; the last band; a centring due and not due (SweepTimesAndEnds). -/
theorem test_witness_sweeps :
    (∃ s : State, s.bar.state = .sweeping ∧ 0 < s.bar.sweepHalf ∧ s.bar.dithering = false)
      ∧ ((dithered none demo).bar.state = .sweeping ∧ (dithered none demo).bar.dithering = true
        ∧ 0 < (dithered none demo).bar.sweepHalf ∧ (dithered none demo).bar.ditherOffAt = none)
      ∧ (dithered (some 300) demo).bar.ditherOffAt = some 300
      ∧ ((later 499 (dithered none demo)).time.now - (later 499 (dithered none demo)).bar.sweepStart).toNat
        < (dithered none demo).bar.sweepLength
      ∧ ((sweepOver 1 demo).bar.sweepLength
          ≤ ((sweepOver 1 demo).time.now - (sweepOver 1 demo).bar.sweepStart).toNat
        ∧ (sweepOver 1 demo).bar.plan = some (plan0 (dosed 0 demo)) ∧ (sweepOver 1 demo).bar.band = some 0
        ∧ (sweepOver 1 demo).bar.sweepsDone + 1 < (plan0 (dosed 0 demo)).sweepsOf 0)
      ∧ ((plan0 (dosed 0 demo)).sweepsOf 0 ≤ (sweepOver 2 demo).bar.sweepsDone + 1
        ∧ (plan0 (dosed 0 demo)).nextBand (0 + 1) = some 1)
      ∧ ((plan0 (dosed 0 demo)).nextBand (3 + 1) = none)
      ∧ (∃ s : State, s.bar.state = .centring ∧ s.bar.stopAt = some 300 ∧ s.bar.sweepHalf = 100 ∧ 300 < 4 * 100
        ∧ 4 * 100 ≤ 300 + 100 ∧ 4 * s.bar.sweepHalf ≤ (s.time.now - s.bar.sweepStart).toNat)
      ∧ ∃ s : State, s.bar.state = .centring ∧ s.bar.stopAt = some 300 ∧ s.bar.sweepHalf = 100
        ∧ (s.time.now - s.bar.sweepStart).toNat < 4 * s.bar.sweepHalf :=
  ⟨⟨demo.setBar { demo.bar with state := .sweeping, sweepHalf := 100 }, by decide⟩, by decide, by decide, by decide,
    by decide, by decide, by decide,
    ⟨later 400 ((dithered none demo).setBar ((dithered none demo).bar.stop 300)), by decide⟩,
    ⟨later 399 ((dithered none demo).setBar ((dithered none demo).bar.stop 300)), by decide⟩⟩

/-- A band's later sweep after a dither-off write and with the dither on (SweepTimesAndEnds). -/
theorem test_witness_later_sweep :
    (∃ (s : State) (p : SprayPlan), s.bar.state = .sweeping ∧ s.bar.plan = some p ∧ s.bar.band = some 0
        ∧ s.bar.sweepLength ≤ (s.time.now - s.bar.sweepStart).toNat ∧ s.bar.sweepsDone + 1 < p.sweepsOf 0
        ∧ s.bar.dithering = true ∧ s.bar.ditherOffAt = some 300 ∧ s.bar.settings.amplitude = 0)
      ∧ 0 < (sweepOver 1 demo).bar.settings.amplitude :=
  ⟨⟨(sweepOver 1 demo).setBar { (sweepOver 1 demo).bar with
        ditherOffAt := some 300, settings := { (sweepOver 1 demo).bar.settings with amplitude := 0 } },
      plan0 (dosed 0 demo), by decide⟩, by decide⟩

/-- The three rows of R92 (BarClearTable). -/
theorem test_witness_bar_clear :
    (∃ s : State, Asked s .load .barClear [] ∧ s.bar.state = .faulted ∧ s.bar.clearPending = false)
      ∧ (∃ s : State, Asked s .load .barClear [] ∧ s.bar.state = .faulted ∧ s.bar.clearPending = true)
      ∧ ∃ s : State, Asked s .load .barClear [] ∧ s.bar.state ≠ .faulted :=
  ⟨⟨offer .load .barClear [] (demo.setBar { demo.bar with state := .faulted }), by decide⟩,
    ⟨offer .load .barClear [] (demo.setBar { demo.bar with state := .faulted, clearPending := true }), by decide⟩,
    ⟨offer .load .barClear [] demo, by decide⟩⟩

/-! ### Witnesses: chapter 6 -/

/-- Artwork 3 no longer staged. -/
def unstaged (s : State) : State :=
  s.setArtworks (tset s.artworks 3 { design := some design, refs := 1, staged := false })

/-- The cases of R98, and an arriving unit the station takes (PrintStartTest). -/
theorem test_witness_print_start :
    (setQuiesce .print .quiesced demo).print.quiesce ≠ .running
      ∧ (demo.print.quiesce = .running ∧ (tget demo.artworks shirt.artwork).staged = true
        ∧ (tget demo.artworks shirt.artwork).design = some design)
      ∧ (∃ s : State, s.shirt 0 = some shirt ∧ s.print.quiesce = .running
        ∧ (tget s.artworks shirt.artwork).staged = false ∧ s.print.stageAsked = true)
      ∧ ((tget (unstaged demo).artworks shirt.artwork).staged = false ∧ (unstaged demo).print.stageAsked = false)
      ∧ ∃ (s : State) (sh : Shirt) (a : Arrival), s.shirt 0 = some sh ∧ s.ring.arrivals.print = some a ∧ (tget s.ring.platens a.platen).unit = some 0
        ∧ sh.state = .pretreated ∧ sh.fault = none :=
  ⟨by decide, by decide, ⟨(unstaged demo).setPrint { demo.print with stageAsked := true }, by decide⟩, by decide,
    ⟨recast (fun x => { x with state := .pretreated }) (arrived .print demo), { shirt with state := .pretreated },
      { platen := 0, unit := some 0 }, by decide⟩⟩

/-- The station with unit 0 held and with none (PrintStartTest, the start test of the held unit). -/
theorem test_witness_print_station :
    ((printing .waitArtwork demo).print.held = some ((printing .waitArtwork demo).tagOf 0)
        ∧ (printing .waitArtwork demo).shirt 0 = some shirt)
      ∧ demo.print.held = none := by decide

/-- A design whose bands carry nothing, in artwork 3. -/
def blank (s : State) : State :=
  s.setArtworks (tset s.artworks 3
    { design := some { design with coverage := [{ white := 0, colour := 0 }] }, refs := 1, staged := true })

/-- A registration request in a Print state with unit 0 held. -/
def registers (r : Request) (st : PrintState) : State := asksUnit .engine r (printing st demo)

/-- Every case of R100 and of R101 (RegistrationCases). -/
theorem test_witness_registration :
    (∃ s : State, Asked s .engine .registered tag0 ∧ s.print.lateTag = some (s.tagOf 0))
      ∧ (∃ s : State, Asked s .engine .registered tag0 ∧ s.print.state = .registering ∧ s.print.lateTag = none
        ∧ s.print.held ≠ some (s.tagOf 0))
      ∧ (∃ s : State, Asked s .engine .registered tag0 ∧ s.print.state = .passing ∧ s.print.held = some (s.tagOf 0))
      ∧ (∃ s : State, Asked s .engine .registered tag0 ∧ s.print.state = .idle ∧ s.print.lateTag ≠ some (s.tagOf 0))
      ∧ (∃ s : State, Asked s .engine .registered tag0 ∧ tag0 = tagBytes (s.tagOf 0) ∧ s.generation 0 ≤ 1023
        ∧ s.shirt 0 = some shirt ∧ (tget s.artworks 3).design = some design ∧ s.print.state = .registering
        ∧ s.print.held = some (s.tagOf 0) ∧ design.firstCursor shirt.dark ≠ .finished)
      ∧ (∃ s d, Asked s .engine .registered tag0 ∧ (tget s.artworks 3).design = some d ∧ s.print.state = .registering
        ∧ s.print.held = some (s.tagOf 0) ∧ d.firstCursor shirt.dark = .finished)
      ∧ (∃ s : State, Asked s .engine .registerFault tag0 ∧ s.print.lateTag = some (s.tagOf 0))
      ∧ (∃ s : State, Asked s .engine .registerFault tag0 ∧ s.print.state ≠ .registering
        ∧ s.print.lateTag ≠ some (s.tagOf 0))
      ∧ (∃ s : State, Asked s .engine .registerFault tag0 ∧ s.print.state = .registering
        ∧ s.print.held ≠ some (s.tagOf 0))
      ∧ ∃ s : State, Asked s .engine .registerFault tag0 ∧ s.print.state = .registering
        ∧ s.print.held = some (s.tagOf 0) ∧ s.print.lateTag ≠ some (s.tagOf 0) :=
  ⟨⟨asksUnit .engine .registered (demo.setPrint { demo.print with lateTag := some (demo.tagOf 0) }), by decide⟩,
    ⟨asksUnit .engine .registered (setPrintState .registering demo), by decide⟩, ⟨registers .registered .passing, by decide⟩,
    ⟨asksUnit .engine .registered demo, by decide⟩, ⟨registers .registered .registering, by decide⟩,
    ⟨blank (registers .registered .registering), { design with coverage := [{ white := 0, colour := 0 }] }, by decide⟩,
    ⟨asksUnit .engine .registerFault (demo.setPrint { demo.print with lateTag := some (demo.tagOf 0) }), by decide⟩,
    ⟨registers .registerFault .passing, by decide⟩,
    ⟨asksUnit .engine .registerFault (setPrintState .registering demo), by decide⟩,
    ⟨registers .registerFault .registering, by decide⟩⟩

/-- Each step of the cursor through the demo design on a dark unit (CursorWalksThePlan). -/
theorem test_witness_cursor :
    design.firstCursor true = .at { layer := .white, pair := 0, rep := 0, half := 0 }
      ∧ (0 < design.passes .white ∧ 1 ≤ design.whitePasses ∧ 1 ≤ design.colourPasses)
      ∧ (0 + 1 = design.passes .white
        ∧ design.nextCursor { layer := .white, pair := 1, rep := 0, half := 1 }
          = .at { layer := .colour, pair := 0, rep := 0, half := 0 })
      ∧ design.nextCursor { layer := .white, pair := 0, rep := 0, half := 1 }
        = .at { layer := .white, pair := 1, rep := 0, half := 0 }
      ∧ 0 + 1 < design.passes .colour
      ∧ design.nextCursor { layer := .colour, pair := 1, rep := 1, half := 1 } = .finished
      ∧ design.firstCursor false = .at { layer := .colour, pair := 0, rep := 0, half := 0 }
      ∧ ({ design with coverage := [{ white := 0, colour := 0 }] } : Design).firstCursor true = .finished
      ∧ ({ design with coverage := List.replicate 2 { white := 0, colour := 0 } ++ [{ white := 0, colour := 1 }] } : Design).firstCursor
          true = .at { layer := .colour, pair := 1, rep := 0, half := 0 } := by decide

/-- An order of the demo unit's print. -/
def swath (n : Nat) : SwathOrder :=
  { number := n, tag := demo.tagOf 0, band := 0, layer := .white, direction := .forward, fire := true, rep := 0 }

/-- The Print station with a cursor and orders in flight. -/
def pipeline (st : PrintState) (c : Cursor) (l : List SwathOrder) : State :=
  let s := printing st (recast (fun x => { x with print := some { white := 0, colour := 0, fired := 0, dry := 0 } }) demo)
  s.setPrint { s.print with
    cursor := some c, inFlight := l, terminated := [9], watchdog := some { start := 0, limit := 8000 } }

/-- A Print station that passes a unit with one order in flight meets the pipeline's invariant (BoundsKept). -/
theorem test_witness_pipeline :
    ∃ s : State, s.pipelineSound ∧ s.print.state = .passing ∧ s.print.inFlight ≠ [] :=
  ⟨(printing .passing demo).setRing { demo.ring with holds := held true } |>.setPrint
      { (printing .passing demo).print with inFlight := [swath 0] },
    by unfold State.pipelineSound Ring.sound; decide, by decide, by decide⟩

/-- The cursor's first traverse. -/
def start : Cursor := .at { layer := .white, pair := 0, rep := 0, half := 0 }

/-- Every row of R104, with 3 and with 2 orders in flight (NextSwathTable). -/
theorem test_witness_next_swath :
    (∃ s : State, Asked s .engine .nextSwath [] ∧ s.print.state = .idle)
      ∧ (∃ s : State, Asked s .engine .nextSwath [] ∧ s.print.state ∈ [.quiesceWait, .waitArtwork, .registering])
      ∧ (∃ s : State, Asked s .engine .nextSwath [] ∧ s.print.state ∈ [.aborting, .parking])
      ∧ (∃ s : State, Asked s .engine .nextSwath [] ∧ s.print.state = .passing ∧ s.print.cursor = some .finished)
      ∧ (∃ s : State, Asked s .engine .nextSwath [] ∧ s.print.state = .passing ∧ s.print.cursor = some start
        ∧ s.print.held = some (s.tagOf 0) ∧ heldDesign s = some design ∧ s.print.inFlight.length = 3)
      ∧ ∃ s : State, Asked s .engine .nextSwath [] ∧ s.print.state = .passing ∧ s.print.cursor = some start
        ∧ s.print.held = some (s.tagOf 0) ∧ heldDesign s = some design ∧ s.print.inFlight.length = 2 :=
  ⟨⟨offer .engine .nextSwath [] demo, by decide⟩, ⟨offer .engine .nextSwath [] (printing .registering demo), by decide⟩,
    ⟨offer .engine .nextSwath [] (printing .aborting demo), by decide⟩,
    ⟨offer .engine .nextSwath [] (pipeline .passing .finished []), by decide⟩,
    ⟨offer .engine .nextSwath [] (pipeline .passing start [swath 0, swath 1, swath 2]), by decide⟩,
    ⟨offer .engine .nextSwath [] (pipeline .passing start [swath 0, swath 1]), by decide⟩⟩

/-- A swath report in a pipeline. -/
def reports (body : List Byte) (s : State) : State := offer .engine .swathDone body s

/-- The demo unit with its print record begun. -/
def printed : Shirt := { shirt with print := some { white := 0, colour := 0, fired := 0, dry := 0 } }

/-- Every case of R106; OK reports that end a plan, leave it going, drain an abort and do not; failures
(SwathReports). -/
theorem test_witness_swath_reports :
    (∃ s : State, Asked s .engine .swathDone [0, 3])
      ∧ (∃ s : State, Asked s .engine .swathDone [9, 2] ∧ (9 : Byte).toNat ∈ s.print.terminated)
      ∧ (∃ s : State, Asked s .engine .swathDone [0, 0] ∧ (0 : Byte).toNat ∉ s.print.terminated
        ∧ s.print.state ∉ [.passing, .aborting])
      ∧ (∃ s : State, Asked s .engine .swathDone [1, 0] ∧ s.print.state ∈ [.passing, .aborting]
        ∧ s.print.inFlight = [swath 0, swath 1] ∧ (swath 0).number ≠ (1 : Byte).toNat)
      ∧ (∃ s : State, Asked s .engine .swathDone [0, 0] ∧ (0 : Byte).toNat ∉ s.print.terminated
        ∧ s.print.inFlight = [swath 0] ∧ (swath 0).number = (0 : Byte).toNat
        ∧ s.print.held = some (swath 0).tag ∧ s.shirt (swath 0).tag.unit = some printed ∧ heldDesign s = some design
        ∧ s.print.state = .passing ∧ s.print.cursor = some .finished)
      ∧ (∃ s : State, Asked s .engine .swathDone [0, 0] ∧ s.print.inFlight = [swath 0, swath 1]
        ∧ s.print.state = .passing ∧ s.print.cursor ≠ some .finished)
      ∧ (∃ s : State, Asked s .engine .swathDone [0, 0] ∧ s.print.inFlight = [swath 0, swath 1]
        ∧ s.print.state = .aborting)
      ∧ (∃ s : State, Asked s .engine .swathDone [0, 0] ∧ s.print.inFlight = [swath 0] ∧ s.print.state = .aborting)
      ∧ (∃ s : State, Asked s .engine .swathDone [0, 2] ∧ failureOf .strike = some 2 ∧ s.print.inFlight = [swath 0]
        ∧ s.print.state = .passing ∧ s.print.errorRecord = none)
      ∧ ∃ s : State, Asked s .engine .swathDone [0, 1] ∧ failureOf .nozzle = some 1
        ∧ s.print.inFlight = [swath 0, swath 1] ∧ s.print.errorRecord.isSome = true :=
  ⟨⟨reports [0, 3] demo, by decide⟩, ⟨reports [9, 2] (pipeline .passing start []), by decide⟩,
    ⟨reports [0, 0] (pipeline .parking start []), by decide⟩,
    ⟨reports [1, 0] (pipeline .passing start [swath 0, swath 1]), by decide⟩,
    ⟨reports [0, 0] (pipeline .passing .finished [swath 0]), by decide⟩,
    ⟨reports [0, 0] (pipeline .passing start [swath 0, swath 1]), by decide⟩,
    ⟨reports [0, 0] (pipeline .aborting start [swath 0, swath 1]), by decide⟩,
    ⟨reports [0, 0] (pipeline .aborting start [swath 0]), by decide⟩,
    ⟨reports [0, 2] (pipeline .passing start [swath 0]), by decide⟩,
    ⟨reports [0, 1] (writePrintError .strike (demo.tagOf 0) none (pipeline .aborting start [swath 0, swath 1])),
      by decide⟩⟩

/-- The three cases of R110 (CarriageParkedReleases). -/
theorem test_witness_carriage_parked :
    (∃ s : State, Asked s .engine .carriageParked tag0 ∧ s.print.state = .parking ∧ s.print.held = some (s.tagOf 0)
        ∧ s.shirt 0 = some shirt)
      ∧ (∃ s : State, Asked s .engine .carriageParked tag0 ∧ s.print.state = .parking
        ∧ s.print.held ≠ some (s.tagOf 0))
      ∧ ∃ s : State, Asked s .engine .carriageParked tag0 ∧ s.print.state ≠ .parking :=
  ⟨⟨registers .carriageParked .parking, by decide⟩,
    ⟨asksUnit .engine .carriageParked (setPrintState .parking demo), by decide⟩,
    ⟨registers .carriageParked .aborting, by decide⟩⟩

/-- A watchdog one ms short, and expired in REGISTERING and in PASSING (WatchdogExpires). -/
theorem test_witness_watchdog :
    (∃ s : State, s.print.watchdog = some { start := 0, limit := 8000 } ∧ (s.time.now - 0).toNat < 8000)
      ∧ (∃ s : State, s.print.watchdog = some { start := 0, limit := 8000 } ∧ 8000 ≤ (s.time.now - 0).toNat
        ∧ s.print.state = .registering ∧ s.print.held = some (s.tagOf 0) ∧ s.shirt 0 = some printed)
      ∧ ∃ s : State, s.print.watchdog = some { start := 0, limit := 8000 } ∧ 8000 ≤ (s.time.now - 0).toNat
        ∧ s.print.state = .passing ∧ s.print.inFlight = [swath 0] ∧ s.shirt (swath 0).tag.unit = some printed
        ∧ s.print.errorRecord = none :=
  ⟨⟨later 7999 (pipeline .passing start [swath 0]), by decide⟩, ⟨later 8000 (pipeline .registering start []), by decide⟩,
    ⟨later 8000 (pipeline .passing start [swath 0]), by decide⟩⟩

/-- A fault already held (PrintErrorRecord). -/
def faultyPrint : State := writePrintError .registerFault (demo.tagOf 0) none demo

/-- An empty and a filled error record, and a read of each (PrintErrorRecord). -/
theorem test_witness_error_record :
    (demo.print.errorRecord = none ∧ faultyPrint.print.errorRecord.isSome = true)
      ∧ (∃ s : State, Asked s .order .readErrorRecord [] ∧ s.print.errorRecord = none)
      ∧ ∃ s e, Asked s .order .readErrorRecord [] ∧ s.print.errorRecord = some e :=
  ⟨by decide, ⟨offer .order .readErrorRecord [] demo, by decide⟩,
    ⟨offer .order .readErrorRecord [] faultyPrint,
      { cause := .registerFault, tag := demo.tagOf 0, place := none, stamp := 0 }, by decide⟩⟩

/-- The two profile writes: out of range, gated, taken (StationProfiles). -/
theorem test_witness_profiles :
    (∃ s : State, Asked s .order .writeEngineProfile (bytes2 8001) ∧ 8001 ∉ [2000, 4000, 8000, 16000])
      ∧ (∃ s : State, Asked s .order .writeEngineProfile (bytes2 16000) ∧ s.print.quiesce ≠ .quiesced)
      ∧ (∃ s : State, Asked s .order .writeEngineProfile (bytes2 2000) ∧ s.print.quiesce = .quiesced)
      ∧ (∃ s x, Asked s .order .writeCureProfile (List.replicate 48 0) ∧ profileOf (List.replicate 48 0) = some x
        ∧ x.inRange = false)
      ∧ (∃ s x, Asked s .order .writeCureProfile (profileBytes x) ∧ profileOf (profileBytes x) = some x
        ∧ x.inRange = true ∧ s.tunnel.quiesce ≠ .quiesced)
      ∧ ∃ s x, Asked s .order .writeCureProfile (profileBytes x) ∧ profileOf (profileBytes x) = some x
        ∧ x.inRange = true ∧ s.tunnel.quiesce = .quiesced ∧ x.whiteWeight ≤ 255 ∧ x.colourWeight ≤ 255
        ∧ ∀ c : Fin 8, tget x.margin c ≤ 65535 :=
  ⟨⟨offer .order .writeEngineProfile (bytes2 8001) demo, by decide⟩,
    ⟨offer .order .writeEngineProfile (bytes2 16000) demo, by decide⟩,
    ⟨offer .order .writeEngineProfile (bytes2 2000) (setQuiesce .print .quiesced demo), by decide⟩,
    ⟨offer .order .writeCureProfile (List.replicate 48 0) demo,
      { tickPeriod := 0, length := 0, window := 0, setpoints := Vector.replicate 4 0, floor := 0, gain := 0, limit := 0
        whiteWeight := 0, colourWeight := 0, base := Vector.replicate 8 0, margin := Vector.replicate 8 0 }, by decide⟩,
    ⟨offer .order .writeCureProfile (profileBytes demo.tunnel.profile) demo, demo.tunnel.profile, by decide⟩,
    ⟨offer .order .writeCureProfile (profileBytes demo.tunnel.profile) (setQuiesce .tunnel .quiesced demo),
      demo.tunnel.profile, by decide⟩⟩

/-! ### Witnesses: chapter 7 -/

/-- Unit 0 held on its platen at position 9, the tunnel READY or not, with lengths of its queue and of the exit list
(units 1 and up stand for the others). -/
def atTunnel (ready : Bool) (queue exits : Nat) (q : Quiesce) : State :=
  let s := turned 9 demo
  (s.setTunnel { s.tunnel with
    ready := ready, held := some 0, state := .transferWait, quiesce := q
    queue := List.replicate queue { unit := 1, entry := 0 } }).setPack { s.pack with exits := List.replicate exits 1 }

/-- The parts of R129's and R130's tables, at 9 and 10 records and at 15 and 16 entries (TunnelEntryTable). -/
theorem test_witness_tunnel_entry :
    (∀ pl : PlatenNo, (tget (turned 1 demo).ring.platens pl).position = 9 →
        (tget (turned 1 demo).ring.platens pl).unit = none)
      ∧ (∃ s : State, s = atTunnel true 9 15 .running ∧ platenAt s 9 = some 0
        ∧ (tget s.ring.platens 0).unit = some 0 ∧ s.shirt 0 = some shirt ∧ shirt.platen = some 0
        ∧ (∀ r ∈ s.tunnel.queue, r.unit ≠ 0) ∧ s.tunnel.held = some 0 ∧ s.tunnel.queue.length < 10
        ∧ s.tunnel.quiesce = .running ∧ s.tunnel.ready = true ∧ s.pack.exits.length < 16)
      ∧ (∃ s : State, s = atTunnel true 9 16 .quiescing ∧ platenAt s 9 = some 0 ∧ s.tunnel.queue.length < 10
        ∧ s.tunnel.quiesce ≠ .quiesced
        ∧ ¬ (s.tunnel.quiesce = .running ∧ s.tunnel.ready = true ∧ s.pack.exits.length < 16))
      ∧ (∃ s : State, s = atTunnel true 10 15 .running ∧ platenAt s 9 = some 0 ∧ 10 ≤ s.tunnel.queue.length
        ∧ s.pack.exits.length < 16)
      ∧ (∃ s : State, s = atTunnel true 0 15 .quiesced ∧ platenAt s 9 = some 0 ∧ s.tunnel.quiesce = .quiesced
        ∧ s.pack.exits.length < 16)
      ∧ ∃ s : State, s = atTunnel true 10 16 .running ∧ platenAt s 9 = some 0 ∧ 10 ≤ s.tunnel.queue.length
        ∧ 16 ≤ s.pack.exits.length :=
  ⟨by decide, ⟨_, rfl, by decide⟩, ⟨_, rfl, by decide⟩, ⟨_, rfl, by decide⟩, ⟨_, rfl, by decide⟩, ⟨_, rfl, by decide⟩⟩

/-- Unit 0 oldest in the queue, CURING, at a travel, with a length of exit list. -/
def curing (belt : Word32) (exits : Nat) : State :=
  let s := recast (fun x => { x with
    state := .curing, platen := none
    cure := some { required := some 3000, exposure := 0, scorch := some 5500, result := .pending } }) demo
  (s.setTunnel { s.tunnel with belt := belt, queue := [{ unit := 0, entry := 0 }] }).setPack
    { s.pack with exits := List.replicate exits 1 }

/-- Travels at L + W and one beyond it after a step; the exit at L − W, one before it, with 15 and with 16 entries
(BeltStepAndTunnelExit). -/
theorem test_witness_belt_exit :
    (∃ (s : State) (r : QueueRecord), s.tunnel.queue = [r]
        ∧ (s.tunnel.belt + 1 - r.entry).toNat = s.tunnel.profile.length + s.tunnel.profile.window)
      ∧ (∃ (s : State) (r : QueueRecord) (sh : Shirt), s.tunnel.queue = [r] ∧ s.shirt r.unit = some sh
        ∧ s.tunnel.profile.length + s.tunnel.profile.window < (s.tunnel.belt + 1 - r.entry).toNat)
      ∧ demo.tunnel.queue = []
      ∧ (∃ (s : State) (r : QueueRecord), s.tunnel.queue = [r]
        ∧ (s.tunnel.belt - r.entry).toNat + 1 = s.tunnel.profile.length - s.tunnel.profile.window)
      ∧ (∃ (s : State) (r : QueueRecord) (sh : Shirt), s.tunnel.queue = [r] ∧ s.shirt r.unit = some sh
        ∧ s.tunnel.profile.length - s.tunnel.profile.window = (s.tunnel.belt - r.entry).toNat
        ∧ 16 ≤ s.pack.exits.length)
      ∧ ∃ (s : State) (r : QueueRecord) (sh : Shirt) (c : CureRecord), s.tunnel.queue = [r] ∧ s.shirt r.unit = some sh ∧ sh.cure = some c ∧ c.required = some 3000
        ∧ c.scorch = some 5500 ∧ s.pack.exits.length = 15
        ∧ s.tunnel.profile.length - s.tunnel.profile.window = (s.tunnel.belt - r.entry).toNat :=
  ⟨⟨curing 1259 0, ⟨0, 0⟩, by decide⟩, ⟨curing 1260 0, ⟨0, 0⟩, ((curing 1260 0).shirt 0).getD shirt, by decide⟩,
    by decide, ⟨curing 1139 0, ⟨0, 0⟩, by decide⟩,
    ⟨curing 1140 16, ⟨0, 0⟩, ((curing 1140 16).shirt 0).getD shirt, by decide⟩,
    ⟨curing 1140 15, ⟨0, 0⟩, ((curing 1140 15).shirt 0).getD shirt,
      { required := some 3000, exposure := 0, scorch := some 5500, result := .pending }, by decide⟩⟩

/-- The Tunnel station with a unit held, in TRANSFER WAIT and INHIBITED, before a step (TunnelInvariantKept, second
part). -/
theorem test_witness_transfer :
    (∃ s t : State, s.transferFollows ∧ s.tunnel.state = .transferWait ∧ step s = .next t)
      ∧ ∃ s t : State, s.transferFollows ∧ s.tunnel.state = .inhibited ∧ step s = .next t :=
  ⟨⟨(atTunnel true 9 15 .running).setPending [.beltStep], _, by unfold State.transferFollows; decide, by decide, rfl⟩,
    ⟨(tunnelHold 0 (turned 9 demo)).setPending [.beltStep], _, by unfold State.transferFollows; decide, by decide, rfl⟩⟩

/-- The exit of the only unit of a QUIESCING and of a RUNNING station, one with a unit held (BeltStepAndTunnelExit). -/
theorem test_witness_exit_quiesce :
    ((setQuiesce .tunnel .quiescing (curing 1140 15)).tunnel.quiesce = .quiescing
        ∧ (setQuiesce .tunnel .quiescing (curing 1140 15)).tunnel.queue = [⟨0, 0⟩])
      ∧ (curing 1140 15).tunnel.quiesce ≠ .quiescing
      ∧ (tunnelHold 1 (curing 1140 15)).tunnel.state ≠ .idle := by decide

/-- Zone 0 in a state. -/
def zoned (f : Zone → Zone) : State :=
  (curing 0 0).setTunnel { (curing 0 0).tunnel with zones := tset demo.tunnel.zones 0 (f (tget demo.tunnel.zones 0)) }

/-- The readings 0, 1022 and 1023 on a LIVE and on a LAPSED zone (ZoneReadingTable). -/
theorem test_witness_zone_reading :
    (0 : BitVec 10).toNat ≤ 1022 ∧ (1022 : BitVec 10).toNat ≤ 1022 ∧ (1023 : BitVec 10).toNat = 1023
      ∧ (tget (zoned fun x => { x with state := .live }).tunnel.zones 0).state = .live
      ∧ (tget demo.tunnel.zones 0).state ≠ .live := by decide

/-- A tick at its period and one ms before it; a zone for every row of R137; the eighth settled tick
(CureTickWork). -/
theorem test_witness_cure_tick :
    (∃ s : State, (s.time.now - s.tunnel.tickStart).toNat + 1 = s.tunnel.profile.tickPeriod)
      ∧ (∃ s : State, s.tunnel.profile.tickPeriod = (s.time.now - s.tunnel.tickStart).toNat
        ∧ (s.tunnel.queue.map (·.unit)).Nodup ∧ s.tunnel.queue ≠ [] ∧ ((s.shirt 0).bind (·.cure)).isSome = true
        ∧ s.tunnel.ready = false
        ∧ (tget s.tunnel.zones 0).state = .live ∧ (tget s.tunnel.zones 0).heard = true)
      ∧ (∃ x : Zone, x.state = .live ∧ x.heard = false ∧ x.missed = 1)
      ∧ (∃ x : Zone, x.state = .live ∧ x.heard = false ∧ x.missed = 2)
      ∧ (∃ x : Zone, x.state = .stale ∧ x.staleTicks = 7) ∧ (∃ x : Zone, x.state = .stale ∧ x.staleTicks = 8)
      ∧ (tget demo.tunnel.zones 0).state = .lapsed
      ∧ (∃ s t : State, exec .cureTick s = .next t ∧ s.tunnel.profile.tickPeriod ≤ (s.time.now - s.tunnel.tickStart).toNat
        ∧ s.tunnel.ready = false ∧ s.tunnel.readyRun = 7
        ∧ ∀ z : ZoneNo, (tget t.tunnel.zones z).state = .live
          ∧ (tget t.tunnel.zones z).temperature = tget s.tunnel.profile.setpoints z + 5)
      ∧ ∃ s t : State, exec .cureTick s = .next t ∧ s.tunnel.profile.tickPeriod ≤ (s.time.now - s.tunnel.tickStart).toNat
        ∧ s.tunnel.ready = false ∧ (tget t.tunnel.zones 0).state ≠ .live :=
  ⟨⟨later 999 demo, by decide⟩,
    ⟨later 1000 (zoned fun x => { x with state := .live, heard := true, lastValid := some 330 }), by decide⟩,
    ⟨{ tget demo.tunnel.zones 0 with state := .live, missed := 1 }, by decide⟩,
    ⟨{ tget demo.tunnel.zones 0 with state := .live, missed := 2 }, by decide⟩,
    ⟨{ tget demo.tunnel.zones 0 with state := .stale, staleTicks := 7 }, by decide⟩,
    ⟨{ tget demo.tunnel.zones 0 with state := .stale, staleTicks := 8 }, by decide⟩, by decide,
    ⟨later 1000 (demo.setTunnel { demo.tunnel with
        readyRun := 7
        zones := tmap (fun x => { x with state := .live, heard := true, lastValid := some 330 }) demo.tunnel.zones }),
      _, rfl, by decide⟩,
    ⟨later 1000 demo, _, rfl, by decide⟩⟩

/-- A tick due with, by zone, a third silent tick, a ninth stale tick and a zone that becomes OVERTEMP
(CureTickWork, its notices). -/
def noisy : State :=
  let x := tget demo.tunnel.zones 0
  let s := later 1000 demo
  s.setTunnel { s.tunnel with
    zones :=
      tset (tset (tset s.tunnel.zones 0 { x with state := .live, heard := false, missed := 2 }) 1
          { x with state := .stale, staleTicks := 8 }) 2
        { x with state := .live, heard := true, lastValid := some 600, overtemp := false } }

/-- Its notices are those of R137 and R139, in their order. -/
theorem test_cure_notices :
    leaves (exec .cureTick noisy) (fun t => (t.port .order).notices.map (·.notice)
      == [.zoneStale 0 .noReading, .zoneLapsed 1, .overtemp 2 300]) = true := by decide

/-- Every list of notices has a state that fills it (CureTickWork, third part). -/
theorem test_witness_cure_notices :
    noisy.tunnel.profile.tickPeriod ≤ (noisy.time.now - noisy.tunnel.tickStart).toNat
      ∧ ((tget noisy.tunnel.zones 0).state = .live ∧ (tget noisy.tunnel.zones 0).missed = 2)
      ∧ ((tget noisy.tunnel.zones 1).state = .stale ∧ (tget noisy.tunnel.zones 1).staleTicks = 8)
      ∧ (tget noisy.tunnel.zones 2).overtemp = false := by decide

/-! ### Witnesses: chapter 8 -/

/-- Every disposition of R145 to R148 (MatchDispositions). -/
theorem test_witness_match :
    (∃ s : State, Asked s .pack .matchShirt tag0 ∧ s.shirt 0 = some shirt ∧ shirt.state ≠ .exited)
      ∧ (∃ s : State, Asked s .pack .matchShirt tag0 ∧ s.shirt 0 = some (exitedShirt .scorched)
        ∧ tag0 = tagBytes (s.tagOf 0) ∧ s.generation 0 ≤ 1023 ∧ s.order shirt.order.index = some order)
      ∧ (∃ s : State, Asked s .pack .matchShirt tag0 ∧ s.shirt 0 = some (exitedShirt .undercured)
        ∧ (exitedShirt .undercured).fault = none)
      ∧ (∃ s o, Asked s .pack .matchShirt tag0 ∧ s.shirt 0 = some (exitedShirt .cured)
        ∧ s.order shirt.order.index = some o ∧ o.state = .cancelling ∧ tget s.pack.shelf 0 = none)
      ∧ (∃ s o, Asked s .pack .matchShirt tag0 ∧ s.shirt 0 = some (exitedShirt .cured)
        ∧ s.order shirt.order.index = some o ∧ o.state = .cancelling
        ∧ ∀ sl : SlotNo, (tget s.pack.shelf sl).isSome = true)
      ∧ (∃ s o, Asked s .pack .matchShirt tag0 ∧ s.shirt 0 = some (exitedShirt .cured)
        ∧ s.order shirt.order.index = some o ∧ o.state = .held ∧ o.bin = some 0)
      ∧ (∃ s : State, Asked s .pack .matchShirt tag0 ∧ s.shirt 0 = some (exitedShirt .cured)
        ∧ s.order shirt.order.index = some order ∧ order.state = .active ∧ order.bin = none
        ∧ tget s.pack.bins 0 = none)
      ∧ ∃ s : State, Asked s .pack .matchShirt tag0 ∧ s.shirt 0 = some (exitedShirt .cured)
        ∧ s.order shirt.order.index = some order ∧ ∀ b : BinNo, (tget s.pack.bins b).isSome = true :=
  ⟨⟨asksUnit .pack .matchShirt demo, by decide⟩, ⟨asksUnit .pack .matchShirt (exited .scorched id), by decide⟩,
    ⟨asksUnit .pack .matchShirt (exited .undercured id), by decide⟩,
    ⟨asksUnit .pack .matchShirt (exited .cured fun o => { o with state := .cancelling }),
      { order with state := .cancelling }, by decide⟩,
    ⟨asksUnit .pack .matchShirt (shelfFull (exited .cured fun o => { o with state := .cancelling })),
      { order with state := .cancelling }, by decide⟩,
    ⟨asksUnit .pack .matchShirt (exited .cured fun o => { o with state := .held, bin := some 0 }),
      { order with state := .held, bin := some 0 }, by decide⟩,
    ⟨asksUnit .pack .matchShirt (exited .cured id), by decide⟩,
    ⟨asksUnit .pack .matchShirt (binsFull (exited .cured id)), by decide⟩⟩

/-- A unit in process twice over; units held by each station and by none (ScrapByPlace). -/
theorem test_witness_scrap :
    (∃ s sh, Asked s .pack .scrap tag0 ∧ s.shirt 0 = some sh ∧ sh.state = .pretreating)
      ∧ (∃ s : State, Asked s .pack .scrap tag0 ∧ s.print.state ∈ [.registering, .passing, .aborting, .parking]
        ∧ s.print.held = some (s.tagOf 0))
      ∧ (∃ s : State, Asked s .pack .scrap tag0 ∧ tag0 = tagBytes (s.tagOf 0) ∧ s.generation 0 ≤ 1023
        ∧ s.shirt 0 = some shirt ∧ shirt.state ≠ .pretreating ∧ lineOf s shirt = some line
        ∧ s.print.held ≠ some (s.tagOf 0) ∧ s.tunnel.held ≠ some 0 ∧ pretreatHolds s 0 = false)
      ∧ (∃ s : State, Asked s .pack .scrap tag0 ∧ s.shirt 0 = some shirt ∧ pretreatHolds s 0 = true)
      ∧ (∃ s : State, Asked s .pack .scrap tag0 ∧ s.print.state = .waitArtwork ∧ s.print.held = some (s.tagOf 0))
      ∧ ∃ s : State, Asked s .pack .scrap tag0 ∧ s.tunnel.held = some 0 ∧ s.print.held = none :=
  ⟨⟨asksUnit .pack .scrap (recast (fun x => { x with state := .pretreating }) demo),
      { shirt with state := .pretreating }, by decide⟩,
    ⟨asksUnit .pack .scrap (printing .parking demo), by decide⟩, ⟨asksUnit .pack .scrap demo, by decide⟩,
    ⟨asksUnit .pack .scrap (setPretreatState .lowFluid none (turned 3 demo)), by decide⟩,
    ⟨asksUnit .pack .scrap (printing .waitArtwork demo), by decide⟩,
    ⟨asksUnit .pack .scrap (atTunnel true 0 0 .running), by decide⟩⟩

/-- The tunnel with 9 or 10 records, and a quiesce state. -/
def queued (n : Nat) (q : Quiesce) (s : State) : State :=
  s.setTunnel { s.tunnel with queue := List.replicate n { unit := 1, entry := 0 }, quiesce := q }

/-- Every check of R153 and both accepted cases (RecureChecksAndEffect). -/
theorem test_witness_recure :
    (∃ s : State, Asked s .pack .recure tag0 ∧ s.shirt 0 = some shirt ∧ shirt.state ≠ .exited)
      ∧ (∃ s : State, Asked s .pack .recure tag0 ∧ s.shirt 0 = some (exitedShirt .cured))
      ∧ (∃ s sh, Asked s .pack .recure tag0 ∧ s.shirt 0 = some sh ∧ sh.state = .exited ∧ sh.flags.recured = true)
      ∧ (∃ s : State, Asked s .pack .recure tag0 ∧ s.shirt 0 = some (exitedShirt .undercured)
        ∧ s.tunnel.quiesce ≠ .running)
      ∧ (∃ s : State, Asked s .pack .recure tag0 ∧ s.shirt 0 = some (exitedShirt .undercured)
        ∧ s.tunnel.quiesce = .running ∧ s.tunnel.queue.length = 10)
      ∧ (∃ s : State, Asked s .pack .recure tag0 ∧ s.shirt 0 = some (exitedShirt .undercured)
        ∧ tag0 = tagBytes (s.tagOf 0) ∧ s.generation 0 ≤ 1023 ∧ (exitedShirt .undercured).flags.recured = false
        ∧ s.tunnel.quiesce = .running ∧ s.tunnel.queue.length = 9)
      ∧ ∃ s : State, Asked s .pack .recure tag0 ∧ s.shirt 0 = some (exitedShirt .unmeasured)
        ∧ s.tunnel.quiesce = .running ∧ s.tunnel.queue.length = 9 :=
  ⟨⟨asksUnit .pack .recure demo, by decide⟩, ⟨asksUnit .pack .recure (exited .cured id), by decide⟩,
    ⟨asksUnit .pack .recure
      (recast (fun x => { x with flags := { x.flags with recured := true } }) (exited .undercured id)),
      { exitedShirt .undercured with flags := { shirt.flags with recured := true } }, by decide⟩,
    ⟨asksUnit .pack .recure (queued 0 .quiescing (exited .undercured id)), by decide⟩,
    ⟨asksUnit .pack .recure (queued 10 .running (exited .undercured id)), by decide⟩,
    ⟨asksUnit .pack .recure (queued 9 .running (exited .undercured id)), by decide⟩,
    ⟨asksUnit .pack .recure (queued 9 .running (exited .unmeasured id)), by decide⟩⟩

/-- Bins 24 and 23, free, owned and COMPLETE; slots 16 and 15, empty and filled (BinsAndSlotsCleared). -/
theorem test_witness_bins_slots :
    (∃ s : State, Asked s .pack .binClosed [24]) ∧ (∃ s : State, Asked s .pack .binClosed [23] ∧ tget s.pack.bins 23 = none)
      ∧ (∃ s h o, Asked s .pack .binClosed [23] ∧ tget s.pack.bins 23 = some h ∧ s.order h.index = some o
        ∧ o.state ≠ .complete)
      ∧ (∃ s h o, Asked s .pack .binClosed [23] ∧ tget s.pack.bins 23 = some h ∧ s.order h.index = some o
        ∧ o.state = .complete)
      ∧ (∃ s : State, Asked s .pack .clearShelfSlot [16])
      ∧ (∃ s : State, Asked s .pack .clearShelfSlot [15] ∧ tget s.pack.shelf 15 = none)
      ∧ ∃ s e, Asked s .pack .clearShelfSlot [15] ∧ tget s.pack.shelf 15 = some e :=
  ⟨⟨offer .pack .binClosed [24] demo, by decide⟩, ⟨offer .pack .binClosed [23] demo, by decide⟩,
    ⟨offer .pack .binClosed [23] (binned .held demo), demo.handleOf 0, { order with state := .held, bin := some 23 },
      by decide⟩,
    ⟨offer .pack .binClosed [23] (binned .complete demo), demo.handleOf 0,
      { order with state := .complete, bin := some 23 }, by decide⟩,
    ⟨offer .pack .clearShelfSlot [16] demo, by decide⟩, ⟨offer .pack .clearShelfSlot [15] demo, by decide⟩,
    ⟨offer .pack .clearShelfSlot [15] (shelfFull demo), { artwork := 3, sku := shirt.sku, stamp := 0 }, by decide⟩⟩

/-! ### Witnesses: chapter 9 and the reads -/

/-- QUIESCE STATION for a station in a state. -/
def quiesces (code : Byte) (s : State) : State := offer .order .quiesceStation [code] s

/-- Station code 4; each station RUNNING with and without work in hand, with a unit waiting, and not RUNNING
(QuiesceAndResume, first part). -/
theorem test_witness_quiesce :
    (∃ s : State, Asked s .order .quiesceStation [4])
      ∧ (∃ s : State, Asked s .order .quiesceStation [3] ∧ s.quiesce .tunnel = .quiescing)
      ∧ (∃ s : State, Asked s .order .quiesceStation [0] ∧ s.quiesce .load = .quiesced)
      ∧ (∃ s : State, Asked s .order .quiesceStation [0] ∧ s.load.quiesce = .running)
      ∧ (∃ s : State, Asked s .order .quiesceStation [1] ∧ s.pretreat.quiesce = .running ∧ s.pretreat.state = .spraying)
      ∧ (∃ s : State, Asked s .order .quiesceStation [1] ∧ s.pretreat.quiesce = .running ∧ s.pretreat.state = .idle)
      ∧ (∃ s : State, Asked s .order .quiesceStation [1] ∧ s.pretreat.state ∈ [.quiesceWait, .barFault, .lowFluid])
      ∧ (∃ s : State, Asked s .order .quiesceStation [2]
        ∧ s.print.state ∈ [.registering, .passing, .aborting, .parking])
      ∧ (∃ s : State, Asked s .order .quiesceStation [2] ∧ s.print.quiesce = .running
        ∧ s.print.state ∈ [.idle, .quiesceWait])
      ∧ (∃ s : State, Asked s .order .quiesceStation [2] ∧ s.print.state = .waitArtwork)
      ∧ (∃ s : State, Asked s .order .quiesceStation [3] ∧ s.tunnel.quiesce = .running ∧ s.tunnel.queue ≠ [])
      ∧ ∃ s : State, Asked s .order .quiesceStation [3] ∧ s.tunnel.quiesce = .running ∧ s.tunnel.queue = [] :=
  ⟨⟨quiesces 4 demo, by decide⟩, ⟨quiesces 3 (setQuiesce .tunnel .quiescing demo), by decide⟩,
    ⟨quiesces 0 (setQuiesce .load .quiesced demo), by decide⟩, ⟨quiesces 0 demo, by decide⟩,
    ⟨quiesces 1 (setPretreatState .spraying none demo), by decide⟩, ⟨quiesces 1 demo, by decide⟩,
    ⟨quiesces 1 (setPretreatState .lowFluid none demo), by decide⟩, ⟨quiesces 2 (printing .passing demo), by decide⟩,
    ⟨quiesces 2 demo, by decide⟩, ⟨quiesces 2 (printing .waitArtwork demo), by decide⟩,
    ⟨quiesces 3 (atTunnel true 1 0 .running), by decide⟩, ⟨quiesces 3 demo, by decide⟩⟩

/-- RESUME STATION for a station in a state. -/
def resumes (code : Byte) (s : State) : State := offer .order .resumeStation [code] s

/-- Station code 4; RUNNING, QUIESCING and QUIESCED stations, with a unit held or none (QuiesceAndResume, second
part). -/
theorem test_witness_resume :
    (∃ s : State, Asked s .order .resumeStation [4])
      ∧ (∃ s : State, Asked s .order .resumeStation [0] ∧ s.quiesce .load = .running)
      ∧ (∃ s : State, Asked s .order .resumeStation [0] ∧ s.quiesce .load ≠ .running)
      ∧ (∃ s : State, Asked s .order .resumeStation [1] ∧ s.quiesce .pretreat = .quiesced
        ∧ s.pretreat.state = .quiesceWait)
      ∧ (∃ s : State, Asked s .order .resumeStation [1] ∧ s.quiesce .pretreat = .quiescing)
      ∧ (∃ s : State, Asked s .order .resumeStation [2] ∧ s.quiesce .print = .quiesced ∧ s.print.state = .quiesceWait)
      ∧ (∃ s : State, Asked s .order .resumeStation [2] ∧ s.quiesce .print = .quiesced ∧ s.print.state ≠ .quiesceWait)
      ∧ (∃ s : State, Asked s .order .resumeStation [3] ∧ s.quiesce .tunnel ≠ .running ∧ s.tunnel.state ≠ .idle) :=
  ⟨⟨resumes 4 demo, by decide⟩, ⟨resumes 0 demo, by decide⟩, ⟨resumes 0 (setQuiesce .load .quiesced demo), by decide⟩,
    ⟨resumes 1 (setPretreatState .quiesceWait none (setQuiesce .pretreat .quiesced demo)), by decide⟩,
    ⟨resumes 1 (setQuiesce .pretreat .quiescing demo), by decide⟩,
    ⟨resumes 2 (printing .quiesceWait (setQuiesce .print .quiesced demo)), by decide⟩,
    ⟨resumes 2 (setQuiesce .print .quiesced demo), by decide⟩, ⟨resumes 3 (atTunnel true 1 0 .quiesced), by decide⟩⟩

/-- A QUIESCING station and one that is not; the last unit of a QUIESCING tunnel, with room for its notice and
without; a unit that is not the last, and a RUNNING tunnel (QuiesceAndResume, the completion). -/
theorem test_witness_completion :
    (setQuiesce .print .quiescing demo).quiesce .print = .quiescing
      ∧ demo.quiesce .print ≠ .quiescing
      ∧ (∃ (s : State) (r : QueueRecord), (s.shirt 0).isSome = true ∧ r ∈ s.tunnel.queue ∧ r.unit = 0
        ∧ (∀ x ∈ s.tunnel.queue, x.unit = 0) ∧ s.tunnel.quiesce = .quiescing ∧ (s.port .order).notices.length = 15)
      ∧ (∃ (s : State) (r : QueueRecord), (s.shirt 0).isSome = true ∧ r ∈ s.tunnel.queue ∧ r.unit = 0
        ∧ (∀ x ∈ s.tunnel.queue, x.unit = 0) ∧ s.tunnel.quiesce = .quiescing ∧ (s.port .order).notices.length = 16)
      ∧ (∃ (s : State) (r : QueueRecord), (s.shirt 0).isSome = true ∧ r ∈ s.tunnel.queue ∧ r.unit = 0
        ∧ (∃ x ∈ s.tunnel.queue, x.unit ≠ 0) ∧ s.tunnel.quiesce = .quiescing)
      ∧ ∃ (s : State) (r : QueueRecord), (s.shirt 0).isSome = true ∧ r ∈ s.tunnel.queue ∧ r.unit = 0
        ∧ s.tunnel.quiesce ≠ .quiescing :=
  ⟨by decide, by decide, ⟨notices 15 (setQuiesce .tunnel .quiescing (curing 0 0)), ⟨0, 0⟩, by decide⟩,
    ⟨notices 16 (setQuiesce .tunnel .quiescing (curing 0 0)), ⟨0, 0⟩, by decide⟩,
    ⟨(curing 0 0).setTunnel { (curing 0 0).tunnel with
        quiesce := .quiescing, queue := [{ unit := 0, entry := 0 }, { unit := 1, entry := 0 }] }, ⟨0, 0⟩, by decide⟩,
    ⟨curing 0 0, ⟨0, 0⟩, by decide⟩⟩

/-- The SCRAP of that last unit posts QUIESCED before the Order Book's notices. -/
theorem test_last_unit_completes :
    (freeUnit .scrapped 0 (setQuiesce .tunnel .quiescing (curing 0 0))).tunnel.quiesce = .quiesced
      ∧ ((freeUnit .scrapped 0 (setQuiesce .tunnel .quiescing (curing 0 0))).port .order).notices.head?.map (·.notice)
        = some (.quiesced .tunnel) := by decide

/-- Reads with and without a first position, at the last one and one beyond it, and their refusals (ReadsOfBooks). -/
theorem test_witness_reads_of_books :
    (∃ s : State, Asked s .order .readOrder handle0 ∧ s.order 0 = some order ∧ handle0 = handleBytes (s.handleOf 0)
        ∧ (s.handleOf 0).generation ≤ 255)
      ∧ (∃ s : State, Asked s .order .readOrder (handle0 ++ [0]) ∧ (0 : Byte).toNat < order.lines.length)
      ∧ (∃ s : State, Asked s .order .readOrder (handle0 ++ [1]) ∧ order.lines.length ≤ (1 : Byte).toNat)
      ∧ (∃ s : State, Asked s .order .readOrder [1, 128])
      ∧ (∃ s : State, Asked s .order .readOrder [1, 127] ∧ s.order 127 = none)
      ∧ (∃ s : State, Asked s .order .readOrder [2, 0] ∧ (s.handleOf 0).generation ≠ (2 : Byte).toNat)
      ∧ (∃ s : State, Asked s .engine .readArtwork [3, 3] ∧ (tget s.artworks 3).design = some design
        ∧ (3 : Byte).toNat < design.coverage.length)
      ∧ (∃ s : State, Asked s .engine .readArtwork [3, 4] ∧ design.coverage.length ≤ (4 : Byte).toNat)
      ∧ (∃ s : State, Asked s .engine .readArtwork [63] ∧ (tget s.artworks 63).design = none)
      ∧ (∃ s : State, Asked s .engine .readArtwork [63, 1] ∧ (tget s.artworks 63).design = none)
      ∧ (∃ s : State, Asked s .engine .readArtwork [64])
      ∧ (∃ s : State, Asked s .pack .readPack [0]) ∧ (∃ s : State, Asked s .pack .readPack [1])
      ∧ (∃ s : State, Asked s .pack .readPack [2]) ∧ ∃ s : State, Asked s .pack .readPack [3] :=
  ⟨⟨offer .order .readOrder handle0 demo, by decide⟩, ⟨offer .order .readOrder (handle0 ++ [0]) demo, by decide⟩,
    ⟨offer .order .readOrder (handle0 ++ [1]) demo, by decide⟩, ⟨offer .order .readOrder [1, 128] demo, by decide⟩,
    ⟨offer .order .readOrder [1, 127] demo, by decide⟩, ⟨offer .order .readOrder [2, 0] demo, by decide⟩,
    ⟨offer .engine .readArtwork [3, 3] demo, by decide⟩, ⟨offer .engine .readArtwork [3, 4] demo, by decide⟩,
    ⟨offer .engine .readArtwork [63] demo, by decide⟩, ⟨offer .engine .readArtwork [63, 1] demo, by decide⟩,
    ⟨offer .engine .readArtwork [64] demo, by decide⟩, ⟨offer .pack .readPack [0] demo, by decide⟩,
    ⟨offer .pack .readPack [1] demo, by decide⟩, ⟨offer .pack .readPack [2] demo, by decide⟩,
    ⟨offer .pack .readPack [3] demo, by decide⟩⟩

/-- The entries of READ PACK: an exited unit, an owned bin, an empty slot, the oldest and the youngest of a full shelf
(ReadsOfBooks). -/
theorem test_witness_pack_entries :
    (∃ s : State, Asked s .pack .readPack [0] ∧ s.pack.exits = [0] ∧ s.shirt 0 = some (exitedShirt .cured)
        ∧ (exitedShirt .cured).cure.isSome = true)
      ∧ (∃ s h o, Asked s .pack .readPack [1] ∧ tget s.pack.bins 23 = some h ∧ s.order h.index = some o)
      ∧ (∃ s : State, Asked s .pack .readPack [2] ∧ tget s.pack.shelf 15 = none)
      ∧ ∃ s e, Asked s .pack .readPack [2] ∧ tget s.pack.shelf 0 = some e ∧ tget s.pack.shelf 15 = some e
        ∧ s.pack.age[0]? = some 0 ∧ s.pack.age[15]? = some 15 ∧ ∀ j, j < 15 → s.pack.age[j]? ≠ some 15 :=
  ⟨⟨offer .pack .readPack [0] (exited .cured id), by decide⟩,
    ⟨offer .pack .readPack [1] (binned .held demo), demo.handleOf 0, { order with state := .held, bin := some 23 }, by decide⟩,
    ⟨offer .pack .readPack [2] demo, by decide⟩,
    ⟨offer .pack .readPack [2] (shelfFull demo), { artwork := 3, sku := shirt.sku, stamp := 0 }, by decide⟩⟩

/-- Each read of a station is offered: READ PRINT with a swath in flight and a watchdog 65,536 ms old, READ TUNNEL with a
unit in the queue (ReadsOfStations). -/
theorem test_witness_reads_of_stations :
    (∃ s : State, Asked s .load .readLoadTables []) ∧ (∃ s : State, Asked s .load .readPretreat [])
      ∧ (∃ s : State, Asked s .load .readSprayBar [])
      ∧ (∃ (s : State) (w : Watchdog), Asked s .engine .readPrint [] ∧ s.print.inFlight.length = 1
        ∧ s.print.watchdog = some w ∧ 65535 < (s.time.now - w.start).toNat)
      ∧ ∃ (s : State) (x : QueueRecord) (sh : Shirt) (c : CureRecord), Asked s .pack .readTunnel []
        ∧ s.tunnel.queue = [x] ∧ s.shirt x.unit = some sh ∧ sh.cure = some c :=
  ⟨⟨offer .load .readLoadTables [] demo, by decide⟩, ⟨offer .load .readPretreat [] demo, by decide⟩,
    ⟨offer .load .readSprayBar [] demo, by decide⟩,
    ⟨offer .engine .readPrint [] (later 65536 (demo.setPrint { demo.print with
        inFlight := [swath 0], watchdog := some { start := 0, limit := 1000 } })), { start := 0, limit := 1000 }, by decide⟩,
    ⟨offer .pack .readTunnel [] (curing 0 0), { unit := 0, entry := 0 },
      { shirt with state := .curing, platen := none
                   cure := some { required := some 3000, exposure := 0, scorch := some 5500, result := .pending } },
      { required := some 3000, exposure := 0, scorch := some 5500, result := .pending }, by decide⟩⟩

end Sys2Proof.Tests
end

section
/-! Chapter 1's handshake and SET PLATEN: the ring's holds and grant (R7, R8), the platens' positions (R1, R9), and the
operands of SET PLATEN (R3), each with the statements it settles. -/

namespace Sys2Proof.Machine

/-! ### The index request (R7) -/

@[simp] theorem State.setRing_self (s : State) : s.setRing s.ring = s := rfl

@[simp] theorem State.setRing_setRing (s : State) (r r' : Ring) : (s.setRing r).setRing r' = s.setRing r' := rfl

theorem indexRequest_moving {s : State} (h : s.ring.state = .moving) : indexRequest s = s := by
  simp [indexRequest, h]

theorem indexRequest_allClear {s : State} (h : s.ring.state = .still) (hc : s.ring.holds.allClear = true) :
    indexRequest s = s.setRing { s.ring with pendingIndex := false, indexGrant := true, state := .moving } := by
  simp [indexRequest, h, hc, Ring.grant]

theorem indexRequest_held {s : State} (h : s.ring.state = .still) (hc : s.ring.holds.allClear = false) :
    indexRequest s = s.setRing { s.ring with pendingIndex := true } := by
  simp [indexRequest, h, hc]

/-- A request that already waits makes the next one no change. -/
theorem indexRequest_absorbed {s : State} (h : s.ring.state = .still) (hc : s.ring.holds.allClear = false)
    (hp : s.ring.pendingIndex = true) : indexRequest s = s := by
  have hr : { s.ring with pendingIndex := true } = s.ring := by rw [← hp]
  rw [indexRequest_held h hc, hr, State.setRing_self]

theorem exec_indexRequest (s : State) : exec .indexRequest s = .next (indexRequest s) := rfl

/-- Settles O18: the four rows of R7. -/
theorem indexRequestTable : Obligations.IndexRequestTable := by
  intro s
  simp only [exec_indexRequest]
  refine ⟨fun h hc => ?_, fun h hc _ => ?_, fun h hc hp => ?_, fun h => ?_⟩
  · rw [indexRequest_allClear h hc]
  · rw [indexRequest_held h hc]
  · rw [indexRequest_absorbed h hc hp]
  · rw [indexRequest_moving h]

/-! ### The release of a hold (R4, R8) -/

theorem Holds.allClear_eq_false_of_get {h : Holds} {w : Holder} (hw : h.get w = true) : h.allClear = false := by
  cases w <;> simp_all [Holds.get, Holds.allClear]

theorem releaseHold_clear {w : Holder} {s : State} (hw : s.ring.holds.get w = false) : releaseHold w s = s := by
  simp [releaseHold, Ring.release, hw]

theorem releaseHold_grants {w : Holder} {s : State} (hw : s.ring.holds.get w = true)
    (hc : (s.ring.holds.put w false).allClear = true) (hs : s.ring.state = .still) (hp : s.ring.pendingIndex = true) :
    releaseHold w s = s.setRing { s.ring with
      holds := s.ring.holds.put w false, pendingIndex := false, indexGrant := true, state := .moving } := by
  simp [releaseHold, Ring.release, Ring.grant, hw, hc, hs, hp]

theorem releaseHold_only {w : Holder} {s : State} (hw : s.ring.holds.get w = true)
    (hn : (s.ring.holds.put w false).allClear = false ∨ s.ring.state = .moving ∨ s.ring.pendingIndex = false) :
    releaseHold w s = s.setRing { s.ring with holds := s.ring.holds.put w false } := by
  rcases hn with h | h | h <;> simp [releaseHold, Ring.release, hw, h]

/-- The race of R8: the last hold's release and a request meet in the granted, MOVING ring, whichever comes first. -/
theorem releaseHold_indexRequest_comm {w : Holder} {s : State} (hs : s.ring.state = .still)
    (hw : s.ring.holds.get w = true) (hc : (s.ring.holds.put w false).allClear = true) :
    releaseHold w (indexRequest s) = indexRequest (releaseHold w s) := by
  have requestFirst :
      releaseHold w (indexRequest s) = s.setRing (Ring.grant { s.ring with holds := s.ring.holds.put w false }) := by
    rw [indexRequest_held hs (Holds.allClear_eq_false_of_get hw)]
    exact releaseHold_grants (s := s.setRing { s.ring with pendingIndex := true }) hw hc hs rfl
  rw [requestFirst]
  cases hp : s.ring.pendingIndex with
  | true =>
    rw [releaseHold_grants hw hc hs hp, indexRequest_moving rfl]
    rfl
  | false =>
    rw [releaseHold_only hw (.inr (.inr hp))]
    exact (indexRequest_allClear (s := s.setRing { s.ring with holds := s.ring.holds.put w false }) hs hc).symm

/-- Settles O20: the three outcomes of a release, and the race. -/
theorem holdReleaseGrants : Obligations.HoldReleaseGrants := fun _ _ =>
  ⟨releaseHold_clear, releaseHold_grants, releaseHold_only, releaseHold_indexRequest_comm⟩

/-! ### The positions of the platens (R1, R9) -/

/-- The ring after R9's steps 1 and 2: the platens advanced, the grant withdrawn, STILL. -/
def Ring.stopped (r : Ring) : Ring :=
  { r with platens := advancePlatens r.platens, indexGrant := false, state := .still }

@[simp] theorem tget_advancePlatens (v : Vector Platen 12) (p : PlatenNo) :
    tget (advancePlatens v) p = { tget v p with position := (tget v p).position + 1 } := by
  simp [advancePlatens]

theorem Ring.stopped_spaced {r : Ring} (h : r.spaced) : r.stopped.spaced := by
  obtain ⟨k, hk⟩ := h
  exact ⟨k + 1, fun p => by simp [Ring.stopped, hk, add_assoc]⟩

/-- No two platens stand at one position (R1). -/
theorem Ring.spaced.position_inj {r : Ring} (h : r.spaced) {p q : PlatenNo}
    (e : (tget r.platens p).position = (tget r.platens q).position) : p = q := by
  obtain ⟨k, hk⟩ := h
  exact add_right_cancel (by rwa [hk, hk] at e)

theorem platenAt_eq_some {s : State} (h : s.ring.spaced) {p : PlatenNo} {pos : Position}
    (hp : (tget s.ring.platens p).position = pos) : platenAt s pos = some p := by
  refine lowest_eq_some (by simpa using hp) fun q hq => ?_
  have hne : (tget s.ring.platens q).position ≠ pos := fun e => hq.ne (h.position_inj (e.trans hp.symm))
  simpa using hne

theorem arrivalAt_eq_some {s : State} (h : s.ring.spaced) {p : PlatenNo} {w : Holder}
    (hp : (tget s.ring.platens p).position = w.position) :
    arrivalAt s w = some { platen := p, unit := (tget s.ring.platens p).unit } := by
  simp [arrivalAt, platenAt_eq_some h hp]

/-! ### The index's completion (R9, R10) -/

theorem exec_indexDone (s : State) : exec .indexDone s = .next (indexDone s) := rfl

theorem indexDone_still {s : State} (h : s.ring.state = .still) : indexDone s = post .order .indexFault s := by
  simp [indexDone, h]

theorem indexDone_moving {s : State} (h : s.ring.state = .moving) :
    indexDone s = s.setRing { s.ring.stopped with
      holds := { pretreat := true, print := true, tunnel := true }
      arrivals :=
        { pretreat := arrivalAt (s.setRing s.ring.stopped) .pretreat
          print := arrivalAt (s.setRing s.ring.stopped) .print
          tunnel := arrivalAt (s.setRing s.ring.stopped) .tunnel } } := by
  simp [indexDone, h, Ring.stopped]

/-- Each station's arrival is the one that stands at its position once the platens have advanced. -/
theorem indexDone_arrivals {s : State} (h : s.ring.state = .moving) (w : Holder) :
    (indexDone s).ring.arrivals.get w = arrivalAt (s.setRing s.ring.stopped) w := by
  rw [indexDone_moving h]
  cases w <;> rfl

theorem indexDone_platens {s : State} (h : s.ring.state = .moving) (p : PlatenNo) :
    tget (indexDone s).ring.platens p =
      { tget s.ring.platens p with position := (tget s.ring.platens p).position + 1 } := by
  simp [indexDone_moving h, Ring.stopped]

/-- Settles O19: the platens stay a position apart as they advance, so each arrival names the one platen now at the
station's position. -/
theorem indexDoneTable : Obligations.IndexDoneTable := by
  refine ⟨fun s hsound h => ?_, fun s h => by rw [exec_indexDone, indexDone_still h]⟩
  obtain ⟨_, hspaced⟩ := hsound
  refine ⟨indexDone s, exec_indexDone s, ?_, indexDone_platens h, ?_, ?_, ?_, ?_, fun w p hp => ?arrival⟩
  case arrival =>
    have harrive : (tget s.ring.stopped.platens p).position = w.position := by
      simpa [indexDone_platens h, Ring.stopped] using hp
    rw [indexDone_arrivals h, arrivalAt_eq_some (Ring.stopped_spaced hspaced) harrive]
    simp [Ring.stopped]
  all_goals
    rw [indexDone_moving h]
    rfl

/-! ### SET PLATEN (R3) -/

theorem eq_ofNat_of_toNat_eq {b : Byte} {k : Nat} (h : b.toNat = k) : b = BitVec.ofNat 8 k := by
  rw [← h, BitVec.ofNat_toNat, BitVec.setWidth_eq]

theorem ne_ofNat_of_lt {b : Byte} {k : Nat} (h : k < b.toNat) : b ≠ BitVec.ofNat 8 k := fun e => by
  have hb := b.isLt
  rw [e, BitVec.toNat_ofNat] at h
  omega

theorem sizeClassOf_eq_some {b : Byte} {c : SizeClass} (h : b.toNat = c.code) : sizeClassOf b = some c := by
  rw [eq_ofNat_of_toNat_eq h]
  cases c <;> rfl

theorem sizeClassOf_eq_none {b : Byte} (h : 2 < b.toNat) : sizeClassOf b = none := by
  have h0 : b ≠ 0#8 := ne_ofNat_of_lt (by omega)
  have h1 : b ≠ 1#8 := ne_ofNat_of_lt (by omega)
  have h2 : b ≠ 2#8 := ne_ofNat_of_lt h
  simp [sizeClassOf, h0, h1, h2]

theorem yesNoOf_eq_some {b : Byte} {v : Bool} (h : b.toNat = yesNoCode v) : yesNoOf b = some v := by
  rw [eq_ofNat_of_toNat_eq h]
  cases v <;> rfl

theorem yesNoOf_eq_none {b : Byte} (h : 1 < b.toNat) : yesNoOf b = none := by
  have h0 : b ≠ 0#8 := ne_ofNat_of_lt (by omega)
  have h1 : b ≠ 1#8 := ne_ofNat_of_lt h
  simp [yesNoOf, h0, h1]

/-- One field out of range refuses the request, whatever the other two hold. -/
theorem setPlaten_badField {n c e : Byte} (h : 11 < n.toNat ∨ 2 < c.toNat ∨ 1 < e.toNat) (p : Port) (s : State) :
    setPlaten p [n, c, e] s = (.refused .badField [], s) := by
  rcases h with h | h | h
  · simp [setPlaten, recordNo_none (n := 12) h, refuse]
  · cases hn : recordNo 12 n <;> simp [setPlaten, hn, sizeClassOf_eq_none h, refuse]
  · cases hn : recordNo 12 n <;> cases hc : sizeClassOf c <;> simp [setPlaten, hn, hc, yesNoOf_eq_none h, refuse]

section
variable {n c e : Byte} {pl : PlatenNo} {cls : SizeClass} {en : Bool} {s : State}

theorem setPlaten_inUse (hn : n.toNat = pl.val) (hc : c.toNat = cls.code) (he : e.toNat = yesNoCode en)
    (hu : (tget s.ring.platens pl).unit.isSome = true) (p : Port) :
    setPlaten p [n, c, e] s = (.refused .inUse [], s) := by
  simp [setPlaten, recordNo_val hn, sizeClassOf_eq_some hc, yesNoOf_eq_some he, hu, refuse]

theorem setPlaten_done (hn : n.toNat = pl.val) (hc : c.toNat = cls.code) (he : e.toNat = yesNoCode en)
    (hu : (tget s.ring.platens pl).unit = none) (p : Port) :
    setPlaten p [n, c, e] s = (.done [], s.setRing { s.ring with
      platens := tset s.ring.platens pl
        { sizeClass := cls, enabled := en, unit := none, position := (tget s.ring.platens pl).position } }) := by
  simp [setPlaten, recordNo_val hn, sizeClassOf_eq_some hc, yesNoOf_eq_some he, hu]

end

theorem exec_setPlaten (p : Port) (s : State) : exec (.setPlaten p) s = serve .setPlaten setPlaten p s := rfl

/-- Settles O17: the offered request is answered by `setPlaten`, whose three outcomes are the three cases of R3. -/
theorem setPlatenReplacesClassAndFlag : Obligations.SetPlatenReplacesClassAndFlag := by
  intro s p f rest n c e hoff hbody
  rw [exec_setPlaten]
  refine ⟨fun hbad => serve_eq hoff ?_, fun pl cls en hn hc he =>
    ⟨fun hu => serve_eq hoff ?_, fun hu => serve_eq hoff ?_⟩⟩ <;> rw [hbody]
  · exact setPlaten_badField hbad p _
  · exact setPlaten_inUse (s := s.without p rest) hn hc he hu p
  · exact setPlaten_done (s := s.without p rest) hn hc he hu p

end Sys2Proof.Machine
end

section
/-! Chapter 4's REFILL (R76): the clamped reservoir, the reply, and the start test of a unit held in LOW FLUID, with the
statement it settles. -/

namespace Sys2Proof.Machine

/-! ### The reservoir with an amount added -/

theorem refilled_eq (level amount : Nat) :
    refilled level amount = if 8000000 < level + amount then 8000000 else level + amount := by
  unfold refilled Config.reservoirMax
  split <;> omega

/-- The state with an amount added to the reservoir, before any start test. -/
def addFluid (amount : Nat) (s : State) : State :=
  s.setPretreat { s.pretreat with reservoir := refilled s.pretreat.reservoir amount }

/-- The amount taken is never above the amount offered. -/
theorem refilled_sub_le (level amount : Nat) : refilled level amount - level ≤ amount := by
  unfold refilled
  omega

/-! ### The reply -/

/-- The tag and F of a started unit in REFILL's reply; "none" in both fields where no unit started. -/
def startedBytes (started : Option SprayPlan) : List Byte :=
  orNone 2 (fun x => tagBytes x.tag) started ++ orNone 4 (fun x => bytes4 x.fluidTotal) started

@[simp] theorem startedBytes_none : startedBytes none = noneBytes 6 := rfl

@[simp] theorem startedBytes_some (plan : SprayPlan) :
    startedBytes (some plan) = tagBytes plan.tag ++ bytes4 plan.fluidTotal := rfl

/-- The plan of the unit that a start test within REFILL has started. -/
def startedPlan (t : State) : Option SprayPlan := if t.pretreat.state = .spraying then t.pretreat.plan else none

theorem startedPlan_of_ne {t : State} (h : t.pretreat.state ≠ .spraying) : startedPlan t = none := if_neg h

theorem startedPlan_of_spraying {t : State} (h : t.pretreat.state = .spraying) : startedPlan t = t.pretreat.plan :=
  if_pos h

/-- REFILL's reply, from the amount taken of the amount offered, the level left and the bytes of a started unit. -/
def refillReply (taken amount level : Nat) (more : List Byte) : Reply :=
  if taken < amount then .condition .clamped (bytes4 taken ++ bytes4 level ++ more)
  else .done (bytes4 amount ++ bytes4 level ++ more)

/-- A REFILL that is not CLAMPED takes the whole amount, so the model's reply of the amount taken is that amount. -/
theorem refillReply_eq {taken amount : Nat} (h : taken ≤ amount) (level : Nat) (more : List Byte) :
    refillReply taken amount level more =
      if taken < amount then .condition .clamped (bytes4 taken ++ bytes4 level ++ more)
      else .done (bytes4 taken ++ bytes4 level ++ more) := by
  unfold refillReply
  split
  · rfl
  · next hfull => rw [Nat.le_antisymm h (Nat.le_of_not_lt hfull)]

/-! ### The request -/

section
variable {s : State} {amount : Nat}

/-- In every state but LOW FLUID the level rises and nothing else changes. -/
theorem refill_of_ne_lowFluid (p : Port) (hamount : amount < 4294967296) (hs : s.pretreat.state ≠ .lowFluid) :
    refill p (bytes4 amount) s =
      (refillReply (refilled s.pretreat.reservoir amount - s.pretreat.reservoir) amount
          (refilled s.pretreat.reservoir amount) (noneBytes 6),
        addFluid amount s) := by
  rw [refillReply_eq (refilled_sub_le _ _), ← startedBytes_none]
  simp only [refill, bytes4, number4_bytes4 hamount, hs, if_false, false_and, startedBytes, List.append_assoc,
    State.setPretreat_pretreat, addFluid]

/-- In LOW FLUID the start test follows on the raised level, and the reply is that of the state it leaves. -/
theorem refill_of_lowFluid (p : Port) (hamount : amount < 4294967296) (hs : s.pretreat.state = .lowFluid) {t : State}
    (ht : t = pretreatStartTest (addFluid amount s)) :
    refill p (bytes4 amount) s =
      (refillReply (refilled s.pretreat.reservoir amount - s.pretreat.reservoir) amount t.pretreat.reservoir
          (startedBytes (startedPlan t)), t) := by
  rw [refillReply_eq (refilled_sub_le _ _), ht]
  simp only [refill, bytes4, number4_bytes4 hamount, hs, if_true, true_and, startedBytes, startedPlan,
    List.append_assoc, addFluid]

end

theorem exec_refill (p : Port) (s : State) : exec (.refill p) s = serve .refill refill p s := rfl

/-- Settles O35: the offered request is answered by `refill`, whose two cases are those of R76; the bytes after the
level are those of the plan that the start test leaves. -/
theorem refillRaisesTheLevel : Obligations.RefillRaisesTheLevel := by
  intro s p f rest amount level hoff hamount hbody _ hlevel
  obtain rfl : level = refilled s.pretreat.reservoir amount := hlevel.trans (refilled_eq _ _).symm
  rw [exec_refill]
  refine ⟨fun hs => serve_eq hoff ?other, fun hs => ?_⟩
  case other =>
    rw [hbody]
    exact refill_of_ne_lowFluid (s := s.without p rest) p hamount hs
  obtain ⟨t, ht⟩ : ∃ t, t = pretreatStartTest (addFluid amount (s.without p rest)) := ⟨_, rfl⟩
  refine ⟨t, startedBytes (startedPlan t), ht, fun hnot => ?held, fun plan hspray hplan => ?started,
    serve_eq hoff ?tested⟩
  case held => rw [startedPlan_of_ne hnot, startedBytes_none]
  case started => rw [startedPlan_of_spraying hspray, hplan, startedBytes_some]
  case tested =>
    rw [hbody]
    exact refill_of_lowFluid (s := s.without p rest) p hamount hs ht

end Sys2Proof.Machine
end

section
/-! Chapter 6's NEXT SWATH and CARRIAGE PARKED: the swath order of a traverse and its issue (R102, R104, R105), the
release of the held unit (R111) and the engine's request for it (R110), with the statements they settle. -/

namespace Sys2Proof.Machine

/-! ### The swath order of a traverse (R102) -/

/-- Half 1 takes the pair's second band, or the first again where the artwork has no second. -/
theorem Design.bandOf_eq (d : Design) {t : Traverse} (h : t.half ≤ 1) :
    d.bandOf t = if t.half = 1 ∧ 2 * t.pair + 1 < d.coverage.length then 2 * t.pair + 1 else 2 * t.pair := by
  unfold Design.bandOf
  obtain h0 | h1 : t.half = 0 ∨ t.half = 1 := by omega
  · simp [h0]
  · simp [h1]

/-- Either half is FIRE by the need of its own band; an absent second band is never needed. -/
theorem Design.fires_eq (d : Design) {t : Traverse} (h : t.half ≤ 1) :
    d.fires t = d.needed t.layer (2 * t.pair + t.half) := by
  unfold Design.fires
  obtain h0 | h1 : t.half = 0 ∨ t.half = 1 := by omega
  · simp [h0]
  · simp [h1]

theorem Design.swathOf_eq (d : Design) (number : Nat) (tag : Tag) {t : Traverse} (h : t.half ≤ 1) :
    d.swathOf number tag t =
      { number := number, tag := tag
        band := if t.half = 1 ∧ 2 * t.pair + 1 < d.coverage.length then 2 * t.pair + 1 else 2 * t.pair
        layer := t.layer, direction := if t.half = 0 then .forward else .reverse
        fire := d.needed t.layer (2 * t.pair + t.half), rep := t.rep } := by
  rw [Design.swathOf, d.bandOf_eq h, d.fires_eq h]

/-! ### The issue (R105) -/

@[simp] theorem State.setPrint_setPrint (s : State) (x y : Print) : (s.setPrint x).setPrint y = s.setPrint y := rfl

/-- The Print station once the order `o` is issued: the order joins the tail, the number and the cursor advance, and
an empty list starts the watchdog. -/
def issued (o : SwathOrder) (next : Cursor) (s : State) : State :=
  s.setPrint { s.print with
    inFlight := s.print.inFlight ++ [o], nextNumber := (s.print.nextNumber + 1) % 256, cursor := some next
    watchdog :=
      if s.print.inFlight = [] then some { start := s.time.now, limit := s.print.watchdogLimit }
      else s.print.watchdog }

theorem issueSwath_eq (d : Design) (tag : Tag) (t : Traverse) (s : State) :
    issueSwath d tag t s =
      (d.swathOf s.print.nextNumber tag t, issued (d.swathOf s.print.nextNumber tag t) (d.nextCursor t) s) := by
  cases hq : s.print.inFlight <;> simp [issueSwath, issued, startWatchdog, hq]

/-! ### NEXT SWATH by the station's state (R104) -/

section
variable {s : State} (p : Port) (body : List Byte)

theorem nextSwath_noUnit (h : s.print.state = .idle) : nextSwath p body s = (.done [5], s) := by
  rw [nextSwath, h]; rfl

theorem nextSwath_wait (h : s.print.state ∈ [.quiesceWait, .waitArtwork, .registering]) :
    nextSwath p body s = (.done [1], s) := by
  obtain h | h | h : s.print.state = .quiesceWait ∨ s.print.state = .waitArtwork ∨ s.print.state = .registering := by
    simpa using h
  all_goals rw [nextSwath, h]; rfl

theorem nextSwath_waitAbort (h : s.print.state ∈ [.aborting, .parking]) : nextSwath p body s = (.done [4], s) := by
  obtain h | h : s.print.state = .aborting ∨ s.print.state = .parking := by simpa using h
  all_goals rw [nextSwath, h]; rfl

theorem nextSwath_waitDrain (h : s.print.state = .passing) (hc : s.print.cursor = some .finished) :
    nextSwath p body s = (.done [3], s) := by
  rw [nextSwath, h, hc]; rfl

/-- In PASSING with a traverse to issue, the bound of orders in flight decides between an order and the bubble. -/
theorem nextSwath_at {t : Traverse} {tag : Tag} {d : Design} (h : s.print.state = .passing)
    (hc : s.print.cursor = some (.at t)) (hh : s.print.held = some tag) (hd : heldDesign s = some d) :
    nextSwath p body s =
      if s.print.inFlight.length < 3 then
        (.done ([0] ++ swathBytes (d.swathOf s.print.nextNumber tag t)),
          issued (d.swathOf s.print.nextNumber tag t) (d.nextCursor t) s)
      else (.done [2], s) := by
  simp only [nextSwath, h, hc, hh, hd, issueSwath_eq]
  rfl

end

theorem exec_nextSwath (p : Port) (s : State) : exec (.nextSwath p) s = serve .nextSwath nextSwath p s := rfl

/-- Settles O44: each row of R104's table is the handler's answer in that state; with a traverse to issue, the order is
the model's own by `Design.swathOf_eq`, and the bound of 3 in flight decides. -/
theorem nextSwathTable : Obligations.NextSwathTable := by
  intro s p f rest hoff
  rw [exec_nextSwath]
  refine ⟨fun h => serve_eq hoff (nextSwath_noUnit p _ h), fun h => serve_eq hoff (nextSwath_wait p _ h),
    fun h => serve_eq hoff (nextSwath_waitAbort p _ h), fun h hc => serve_eq hoff (nextSwath_waitDrain p _ h hc), ?_⟩
  intro t tag d o h hc hh hd hhalf ho
  obtain rfl : o = d.swathOf s.print.nextNumber tag t := ho.trans (d.swathOf_eq _ _ hhalf).symm
  have hrow := nextSwath_at (s := s.without p rest) p f.body h hc hh hd
  rw [State.without_print] at hrow
  refine ⟨fun hfull => serve_eq hoff ?full, fun hroom => serve_eq hoff ?room⟩
  case full => rw [hrow, if_neg (Nat.not_lt.mpr hfull)]
  case room => rw [hrow, if_pos hroom]; rfl

/-! ### The release of the held unit (R111) -/

theorem releasePrinted_held {s : State} {tag : Tag} {sh : Shirt} (hh : s.print.held = some tag)
    (hsh : s.shirt tag.unit = some sh) :
    releasePrinted s = completeQuiesce .print (releaseHold .print
      ((putShirt tag.unit (some { sh with state := .printed }) s).setPrint
        { s.print with state := .idle, held := none, stageAsked := false, watchdog := none, cursor := none })) := by
  simp only [releasePrinted, hh, setUnitState, modifyShirt_some _ hsh, printRelease, State.setPrint_print,
    State.setPrint_setPrint, putShirt_print]

/-! ### CARRIAGE PARKED (R110) -/

/-- On a unit's own tag, CARRIAGE PARKED is decided by the station's state, then by its held unit. -/
theorem carriageParked_own {s : State} {u : UnitNo} {sh : Shirt} (p : Port) (hg : s.generation u ≤ 1023)
    (hsh : s.shirt u = some sh) :
    carriageParked p (tagBytes (s.tagOf u)) s =
      if s.print.state = .parking then
        if s.print.held = some (s.tagOf u) then (.done [], releasePrinted s) else (.refused .sequence [], s)
      else (.refused .state [], s) :=
  withTag_own hg hsh _

theorem exec_carriageParked (p : Port) (s : State) :
    exec (.carriageParked p) s = serve .carriageParked carriageParked p s := rfl

/-- Settles O46: the release of the held unit, and R110's three cases of the request for it. -/
theorem carriageParkedReleases : Obligations.CarriageParkedReleases := by
  refine ⟨fun s tag sh => releasePrinted_held, fun s p f rest u hoff hbody hg hsome => ?_⟩
  obtain ⟨sh, hsh⟩ := Option.isSome_iff_exists.mp hsome
  have hrow := carriageParked_own (s := s.without p rest) p hg hsh
  rw [State.without_tagOf, State.without_print, ← hbody] at hrow
  rw [exec_carriageParked]
  refine ⟨fun hpark hheld => serve_eq hoff ?released, fun hpark hheld => serve_eq hoff ?sequence,
    fun hpark => serve_eq hoff ?state⟩
  case released => rw [hrow, if_pos hpark, if_pos hheld]
  case sequence => rw [hrow, if_pos hpark, if_neg hheld]
  case state => rw [hrow, if_neg hpark]

end Sys2Proof.Machine
end

section
/-! Chapter 7's zone readings: a valid reading and the fault reading, on a LIVE zone and on any other (R135), with the
statement they settle. -/

namespace Sys2Proof.Machine

section
variable {x : Zone}

/-! ### What a valid reading makes of a zone record -/

theorem Zone.valid_of_live (hx : x.state = .live) (reading : Nat) :
    x.valid reading = { x with heard := true, missed := 0, lastValid := some reading } := by
  simp only [Zone.valid, hx, Zone.hear]

theorem Zone.valid_of_ne_live (hx : x.state ≠ .live) (reading : Nat) :
    x.valid reading =
      { x with heard := true, missed := 0, lastValid := some reading, staleTicks := 0, state := .live } := by
  unfold Zone.valid
  split
  case h_1 hlive => exact absurd hlive hx
  case h_2 | h_3 => rfl

/-! ### Valid readings and the fault reading -/

theorem eq_faultReading_iff {reading : BitVec 10} : reading = faultReading ↔ reading.toNat = 1023 :=
  BitVec.toNat_inj.symm

variable {s : State} {z : ZoneNo} {reading : BitVec 10}

theorem zoneReading_valid (hz : tget s.tunnel.zones z = x) (hr : reading.toNat ≤ 1022) :
    zoneReading z reading s = putZone z (x.valid reading.toNat) s := by
  have hfault : reading ≠ faultReading := fun h => by have := eq_faultReading_iff.mp h; omega
  simp only [zoneReading, hz, if_neg hfault]

theorem zoneReading_fault_of_live (hz : tget s.tunnel.zones z = x) (hx : x.state = .live) :
    zoneReading z faultReading s =
      post .order (.zoneStale z .faultReading) (putZone z { x.hear with state := .stale, staleTicks := 0 } s) := by
  simp only [zoneReading, hz, hx, if_true]

theorem zoneReading_fault_of_ne_live (hz : tget s.tunnel.zones z = x) (hx : x.state ≠ .live) :
    zoneReading z faultReading s = putZone z x.hear s := by
  simp only [zoneReading, hz, if_true]
  split
  case h_1 hlive => exact absurd hlive hx
  case h_2 | h_3 => rfl

end

theorem exec_zoneReading (z : ZoneNo) (reading : BitVec 10) (s : State) :
    exec (.zoneReading z reading) s = .next (zoneReading z reading s) := rfl

/-- Settles O52: the reading is valid or the sensor's fault, the zone is LIVE or not, and each of the four is a row of
R135's table. -/
theorem zoneReadingTable : Obligations.ZoneReadingTable := by
  intro s z reading x hz
  rw [exec_zoneReading]
  refine ⟨fun hr hx => ?validLive, fun hr hx => ?validNotLive, fun hr hx => ?faultLive, fun hr hx => ?faultNotLive⟩
  case validLive => rw [zoneReading_valid hz hr, Zone.valid_of_live hx, putZone]
  case validNotLive => rw [zoneReading_valid hz hr, Zone.valid_of_ne_live hx, putZone]
  case faultLive => rw [eq_faultReading_iff.mpr hr, zoneReading_fault_of_live hz hx, putZone, Zone.hear]
  case faultNotLive => rw [eq_faultReading_iff.mpr hr, zoneReading_fault_of_ne_live hz hx, putZone, Zone.hear]

end Sys2Proof.Machine
end

section
/-! Chapter 8's RECURE (R153, R154): the checks from the cure result on, the exit list left and the queue joined, the
cure record of the unit recured, with the statement they settle. -/

namespace Sys2Proof.Machine

/-! ### The exit list left, the tunnel queue joined -/

@[simp] theorem retest_belt (s : State) : (retest s).tunnel.belt = s.tunnel.belt := by unfold retest; split <;> simp

@[simp] theorem leaveExits_queue (u : UnitNo) (s : State) : (leaveExits u s).tunnel.queue = s.tunnel.queue := by
  unfold leaveExits; split <;> simp

@[simp] theorem leaveExits_belt (u : UnitNo) (s : State) : (leaveExits u s).tunnel.belt = s.tunnel.belt := by
  unfold leaveExits; split <;> simp

/-- Of the pack table, the leaving of the exit list revises that list alone. -/
theorem leaveExits_pack (u : UnitNo) (s : State) :
    (leaveExits u s).pack = { s.pack with exits := s.pack.exits.filter fun v => decide (v ≠ u) } := by
  rw [← leaveExits_exits]
  unfold leaveExits
  split
  · simp
  · rfl

@[simp] theorem leaveExits_shirt (u v : UnitNo) (s : State) : (leaveExits u s).shirt v = s.shirt v := by
  simp [State.shirt]

@[simp] theorem joinQueue_queue (u : UnitNo) (s : State) :
    (joinQueue u s).tunnel.queue = s.tunnel.queue ++ [{ unit := u, entry := s.tunnel.belt }] := by
  simp [joinQueue]

@[simp] theorem joinQueue_shirt (u v : UnitNo) (s : State) : (joinQueue u s).shirt v = s.shirt v := by
  simp [State.shirt]

/-! ### An accepted RECURE (R154) -/

section
variable (u : UnitNo) (c : CureRecord) (s : State)

theorem acceptRecure_queue :
    (acceptRecure u c s).tunnel.queue = s.tunnel.queue ++ [{ unit := u, entry := s.tunnel.belt }] := by
  simp [acceptRecure]

theorem acceptRecure_pack :
    (acceptRecure u c s).pack = { s.pack with exits := s.pack.exits.filter fun v => decide (v ≠ u) } := by
  simp [acceptRecure, leaveExits_pack]

theorem acceptRecure_shirt_same {sh : Shirt} (h : s.shirt u = some sh) :
    (acceptRecure u c s).shirt u =
      some { sh with state := .curing, cure := some c, flags := { sh.flags with recured := true } } := by
  simp [acceptRecure, h]

theorem acceptRecure_shirt_ne {v : UnitNo} (h : v ≠ u) : (acceptRecure u c s).shirt v = s.shirt v := by
  simp [acceptRecure, modifyShirt_shirt_ne _ _ h]

@[simp] theorem acceptRecure_ring : (acceptRecure u c s).ring = s.ring := by simp [acceptRecure]

@[simp] theorem acceptRecure_book : (acceptRecure u c s).book = s.book := by simp [acceptRecure]

@[simp] theorem acceptRecure_print : (acceptRecure u c s).print = s.print := by simp [acceptRecure]

@[simp] theorem acceptRecure_bar : (acceptRecure u c s).bar = s.bar := by simp [acceptRecure]

end

/-! ### The cure record of the unit recured (R154) -/

/-- A unit without a print record has taken no ink, and one without a dose record no fluid. -/
theorem requiredExposure_eq (pr : CureProfile) (sh : Shirt) :
    requiredExposure pr sh =
      min (tget pr.base sh.sku.fabric
        + ((match sh.print with | some r => r.white | none => 0) * pr.whiteWeight
          + (match sh.print with | some r => r.colour | none => 0) * pr.colourWeight) / 256
        + (match sh.dose with | some d => d.fluid | none => 0) / 128) 65535 := by
  unfold requiredExposure
  cases sh.print <;> cases sh.dose <;> rfl

section
variable {c : CureRecord} (pr : CureProfile) (sh : Shirt)

theorem recured_of_undercured (h : c.result = .undercured) : recured pr sh c = { c with result := .pending } := by
  simp only [recured, h]

theorem recured_of_unmeasured (h : c.result = .unmeasured) :
    recured pr sh c =
      { required := some (requiredExposure pr sh), exposure := c.exposure
        scorch := some (scorchLimit pr sh (requiredExposure pr sh)), result := .pending } := by
  simp only [recured, h]

end

/-! ### The checks (R153) -/

section
variable {s : State} {u : UnitNo} {sh : Shirt} {c : CureRecord}

theorem recureChecked_state (hu : c.result ≠ .undercured) (hm : c.result ≠ .unmeasured) :
    recureChecked u sh c s = (.refused .state [], s) :=
  if_pos ⟨hu, hm⟩

/-- With a result that may be recured, the flag is checked next. -/
theorem recureChecked_of_result (h : c.result = .undercured ∨ c.result = .unmeasured) :
    recureChecked u sh c s =
      if sh.flags.recured then (.refused .recureLimit [], s)
      else if s.tunnel.quiesce ≠ .running then (.refused .quiesced [], s)
      else if 10 ≤ s.tunnel.queue.length then (.refused .full [], s)
      else
        (.done (recureResults (recured s.tunnel.profile sh c)), acceptRecure u (recured s.tunnel.profile sh c) s) :=
  if_neg fun ⟨hu, hm⟩ => h.elim hu hm

theorem recure_notExited (p : Port) (hg : s.generation u ≤ 1023) (hsh : s.shirt u = some sh) (hx : sh.state ≠ .exited) :
    recure p (tagBytes (s.tagOf u)) s = (.refused .notExited [], s) :=
  (withTag_own hg hsh _).trans (if_pos hx)

/-- For an EXITED unit the checks go on with its cure record. -/
theorem recure_exited (p : Port) (hg : s.generation u ≤ 1023) (hsh : s.shirt u = some sh) (hx : sh.state = .exited)
    (hc : sh.cure = some c) : recure p (tagBytes (s.tagOf u)) s = recureChecked u sh c s := by
  refine (withTag_own hg hsh _).trans ?_
  simp only [hx, hc, ne_eq, not_true_eq_false, if_false]

end

theorem exec_recure (p : Port) (s : State) : exec (.recure p) s = serve .recure recure p s := rfl

/-- Settles O56: each check of R153 is reached with those before it passed; past the last one, what `acceptRecure` leaves
is read field by field, and the cure record is `recured` for the unit's result. -/
theorem recureChecksAndEffect : Obligations.RecureChecksAndEffect := by
  intro s p f rest u sh s0 hoff hbody hg hsh hs0
  subst hs0
  rw [exec_recure]
  refine ⟨fun hx => serve_eq hoff ?notExited, fun c hx hc => ?_⟩
  case notExited =>
    rw [hbody]
    exact recure_notExited (s := s.without p rest) p hg hsh hx
  have hrow : recure p f.body (s.without p rest) = recureChecked u sh c (s.without p rest) := by
    rw [hbody]
    exact recure_exited (s := s.without p rest) p hg hsh hx hc
  refine ⟨fun hu hm => serve_eq hoff (hrow.trans (recureChecked_state hu hm)), fun hres => ?_⟩
  rw [recureChecked_of_result hres, State.without_tunnel] at hrow
  refine ⟨fun hre => serve_eq hoff ?limit, fun hre hq => serve_eq hoff ?quiesced,
    fun hre hq hfull => serve_eq hoff ?full, fun hre hq hroom => ?accepted⟩
  case limit => rw [hrow, if_pos hre]
  case quiesced => rw [hrow, if_neg (by simp [hre]), if_pos hq]
  case full => rw [hrow, if_neg (by simp [hre]), if_neg (not_not_intro hq), if_pos hfull]
  case accepted =>
    rw [if_neg (by simp [hre]), if_neg (not_not_intro hq), if_neg (Nat.not_le.mpr hroom)] at hrow
    refine ⟨_, recured s.tunnel.profile sh c, serve_eq hoff hrow, acceptRecure_queue _ _ _, acceptRecure_pack _ _ _,
      acceptRecure_shirt_same _ _ _ hsh, fun v hv => acceptRecure_shirt_ne _ _ _ hv, acceptRecure_ring _ _ _,
      acceptRecure_book _ _ _, acceptRecure_print _ _ _, acceptRecure_bar _ _ _, recured_of_undercured _ _, ?_⟩
    rintro hm white colour fluid needed rfl rfl rfl hneeded
    obtain rfl : needed = requiredExposure s.tunnel.profile sh := hneeded.trans (requiredExposure_eq _ _).symm
    exact recured_of_unmeasured _ _ hm

end Sys2Proof.Machine
end

section
/-! Chapter 8's BIN CLOSED (R156) and CLEAR SHELF SLOT (R160): the outcomes of each for the number it names, with the
statement they settle. -/

namespace Sys2Proof.Machine

/-! ### BIN CLOSED (R156) -/

/-- A bin released by an order in use: the bin record is free and the order's bin field absent. -/
theorem releaseBin_some {b : BinNo} {i : OrderNo} {s : State} {o : Order} (h : s.order i = some o) :
    releaseBin b i s =
      putOrder i (some { o with bin := none }) (s.setPack { s.pack with bins := tset s.pack.bins b none }) := by
  have hpack : (s.setPack { s.pack with bins := tset s.pack.bins b none }).order i = some o := h
  simp only [releaseBin, modifyOrder, hpack]

section
variable {num : Byte} {b : BinNo} {s : State} {h : Handle} {o : Order} (p : Port)

theorem binClosed_badField (hn : 23 < num.toNat) : binClosed p [num] s = (.refused .badField [], s) := by
  simp only [binClosed, recordNo_none (n := 24) hn, refuse]

theorem binClosed_free (hn : num.toNat = b.val) (hb : tget s.pack.bins b = none) :
    binClosed p [num] s = (.refused .state [], s) := by
  simp only [binClosed, recordNo_val hn, hb, refuse]

/-- For an owned bin, the owner's state decides. -/
theorem binClosed_owned (hn : num.toNat = b.val) (hb : tget s.pack.bins b = some h) (ho : s.order h.index = some o) :
    binClosed p [num] s =
      if o.state ≠ .complete then (.refused .state [], s)
      else (.done (handleBytes h ++ bytes4 o.webNumber.toNat), freeOrder h.index .closed (releaseBin b h.index s)) := by
  simp only [binClosed, recordNo_val hn, hb, ho, refuse]

end

theorem exec_binClosed (p : Port) (s : State) : exec (.binClosed p) s = serve .binClosed binClosed p s := rfl

/-! ### CLEAR SHELF SLOT (R160) -/

section
variable {num : Byte} {sl : SlotNo} {s : State} {e : ShelfEntry} (p : Port)

theorem clearShelfSlot_badField (hn : 15 < num.toNat) : clearShelfSlot p [num] s = (.refused .badField [], s) := by
  simp only [clearShelfSlot, recordNo_none (n := 16) hn, refuse]

theorem clearShelfSlot_empty (hn : num.toNat = sl.val) (he : tget s.pack.shelf sl = none) :
    clearShelfSlot p [num] s = (.refused .state [], s) := by
  simp only [clearShelfSlot, recordNo_val hn, he, refuse]

theorem clearShelfSlot_filled (hn : num.toNat = sl.val) (he : tget s.pack.shelf sl = some e) :
    clearShelfSlot p [num] s =
      (.done (bytes1 e.artwork.val ++ skuBytes e.sku ++ bytes4 e.stamp.toNat), removeEntry sl s) := by
  simp only [clearShelfSlot, recordNo_val hn, he]

end

theorem exec_clearShelfSlot (p : Port) (s : State) :
    exec (.clearShelfSlot p) s = serve .clearShelfSlot clearShelfSlot p s := rfl

/-- Settles O57: the number is out of range or names a record, the record is empty or not, and an owned bin's order is
COMPLETE or not. -/
theorem binsAndSlotsCleared : Obligations.BinsAndSlotsCleared := by
  refine ⟨fun s p f rest num hoff hbody => ?bin, fun s p f rest num hoff hbody => ?slot⟩
  case bin =>
    rw [exec_binClosed]
    refine ⟨fun hn => serve_eq hoff ?badField, fun b hn => ⟨fun hb => serve_eq hoff ?free, fun h o hb ho => ?owned⟩⟩
    case badField => rw [hbody, binClosed_badField p hn]
    case free => rw [hbody, binClosed_free (s := s.without p rest) p hn hb]
    case owned =>
      have hrow := binClosed_owned (s := s.without p rest) p hn hb ho
      rw [← hbody] at hrow
      refine ⟨fun hstate => serve_eq hoff ?notComplete, fun hstate => serve_eq hoff ?closed⟩
      case notComplete => rw [hrow, if_pos hstate]
      case closed =>
        rw [hrow, if_neg (not_not_intro hstate), releaseBin_some (s := s.without p rest) ho, State.without_pack]
  case slot =>
    rw [exec_clearShelfSlot]
    refine ⟨fun hn => serve_eq hoff ?badField, fun sl hn =>
      ⟨fun he => serve_eq hoff ?empty, fun e he => serve_eq hoff ?filled⟩⟩
    case badField => rw [hbody, clearShelfSlot_badField p hn]
    case empty => rw [hbody, clearShelfSlot_empty (s := s.without p rest) p hn he]
    case filled => rw [hbody, clearShelfSlot_filled (s := s.without p rest) p hn he, removeEntry, State.without_pack]

end Sys2Proof.Machine
end

section
/-! What a command can do, said once: each request is answered by its handler, whose outcomes are a reply that leaves the
state alone and one `Change` with its guards; every other command is an `Event`. The invariants and frames of the
tier 3 statements are read off these cases. -/

namespace Sys2Proof.Machine

/-! ### The handler of each request -/

/-- What answers each request once its frame has passed the frame checks. -/
def handlerOf : Request → Handler
  | .setPlaten => setPlaten
  | .lineReset => lineReset
  | .submitOrder => submitOrder
  | .holdOrder => holdOrder
  | .releaseOrder => releaseOrder
  | .cancelOrder => cancelOrder
  | .readOrder => readOrder
  | .defineArtwork => defineArtwork
  | .removeArtwork => removeArtwork
  | .readArtwork => readArtwork
  | .artworkStaged => artworkStaged
  | .artworkEvicted => artworkEvicted
  | .load => load
  | .unload => unload
  | .bypassPretreat => bypassPretreat
  | .writeColourTable => writeColourTable
  | .writeSizeMap => writeSizeMap
  | .writeDarkThreshold => writeDarkThreshold
  | .writeScrapLimit => writeScrapLimit
  | .readLoadTables => readLoadTables
  | .writeDoseTable => writeDoseTable
  | .refill => refill
  | .readPretreat => readPretreat
  | .writeSpraySettings => writeSpraySettings
  | .barClear => barClear
  | .readSprayBar => readSprayBar
  | .registered => registered
  | .registerFault => registerFault
  | .nextSwath => nextSwath
  | .swathDone => swathDone
  | .carriageParked => carriageParked
  | .readPrint => readPrint
  | .readErrorRecord => readErrorRecord
  | .writeEngineProfile => writeEngineProfile
  | .writeCureProfile => writeCureProfile
  | .readTunnel => readTunnel
  | .matchShirt => matchShirt
  | .scrap => scrap
  | .recure => recure
  | .binClosed => binClosed
  | .clearShelfSlot => clearShelfSlot
  | .readPack => readPack
  | .quiesceStation => quiesceStation
  | .resumeStation => resumeStation
  | .fetchNotice => fetchNotice
  | .readStatus => readStatus

theorem exec_command (r : Request) (p : Port) (s : State) : exec (r.command p) s = serve r (handlerOf r) p s := by
  cases r <;> rfl

/-- An offered request whose handler answers `(reply, t)` leaves `t` and sends the reply. -/
theorem exec_offered {r : Request} {s t : State} {p : Port} {f : Frame} {rest : List Frame} {reply : Reply}
    (h : Offered s p r f rest) (e : (handlerOf r) p f.body (s.without p rest) = (reply, t)) :
    exec (r.command p) s = answer t p f reply := by
  rw [exec_command, serve_eq h e]

/-! ### The changes requests make -/

/-- The writes of the gated tables, each with its gate, and the dither-off write, which has none. -/
inductive Write : Request → State → State → Prop
  | writeColourTable {s} (first : Nat) (vals : List Byte) (hq : s.load.quiesce = .quiesced) :
      Write .writeColourTable s
        (s.setLoad { s.load with colours := writeRun s.load.colours first (vals.map BitVec.toNat) })
  | writeSizeMap {s} (z : Fin 8) (cls : SizeClass) (hq : s.load.quiesce = .quiesced) :
      Write .writeSizeMap s (s.setLoad { s.load with sizeMap := tset s.load.sizeMap z cls })
  | writeDarkThreshold {s} (t : Byte) (hq : s.load.quiesce = .quiesced) :
      Write .writeDarkThreshold s (s.setLoad { s.load with darkThreshold := t.toNat })
  | writeScrapLimit {s} (l : Nat) (hl : l ≤ 7) (hq : s.load.quiesce = .quiesced) :
      Write .writeScrapLimit s (s.setLoad { s.load with scrapLimit := l })
  | writeDoseTable {s} (first : Nat) (doses : List Nat) (hd : ∀ d ∈ doses, d ≤ 400)
      (hq : s.pretreat.quiesce = .quiesced) :
      Write .writeDoseTable s (s.setPretreat { s.pretreat with doses := writeRun s.pretreat.doses first doses })
  | ditherOff {s} (w : Nat) : Write .writeSpraySettings s (s.setBar (s.bar.ditherOff w))
  | writeSpraySettings {s} (x : SpraySettings) (hr : x.inRange = true) (hq : s.pretreat.quiesce = .quiesced) :
      Write .writeSpraySettings s (s.setBar { s.bar with settings := x })
  | writeEngineProfile {s} (limit : Nat) (hl : limit ∈ [2000, 4000, 8000, 16000])
      (hq : s.print.quiesce = .quiesced) :
      Write .writeEngineProfile s (s.setPrint { s.print with watchdogLimit := limit })
  | writeCureProfile {s} (x : CureProfile) (hr : x.inRange = true) (hq : s.tunnel.quiesce = .quiesced) :
      Write .writeCureProfile s (acceptProfile x s)

/-- The change an accepted request makes, with what its handler has checked before it. -/
inductive Change : Request → Port → State → State → Prop
  | write {r p s t} (h : Write r s t) : Change r p s t
  | setPlaten {p s} (pl : PlatenNo) (cls : SizeClass) (en : Bool) (hu : (tget s.ring.platens pl).unit = none) :
      Change .setPlaten p s (s.setRing { s.ring with
        platens := tset s.ring.platens pl { tget s.ring.platens pl with sizeClass := cls, enabled := en } })
  | lineReset {p s} : Change .lineReset p s (clearLine s)
  | submitOrder {p s} (body : List Byte) (x : Submission) (i : OrderNo) (hx : submissionOf body = some x)
      (he : emptyArtworkAt s x.entries = none) (hw : webNumberInUse s x.webNumber = false)
      (hi : lowestFreeOrder s = some i) (hl : x.entries.length ≤ freeLines s) :
      Change .submitOrder p s (orphanUptake i (acceptOrder i x s)).1
  | holdOrder {p s} (i : OrderNo) (o : Order) (level : Nat) (ho : s.order i = some o) (hs : o.state = .active) :
      Change .holdOrder p s (post .order (.orderHeldOrdered (s.handleOf i) o.webNumber level)
        (leaveActive i (putOrder i (some { o with state := .held, holdReason := some .ordered }) s)))
  | releaseOrder {p s} (i : OrderNo) (o : Order) (ho : s.order i = some o) (hs : o.state = .held) :
      Change .releaseOrder p s
        (orphanUptake i (joinActive i (putOrder i (some { o with state := .active, holdReason := none }) s))).1
  | cancelOrder {p s} (i : OrderNo) (o : Order) (ho : s.order i = some o) (hs : o.state = .active ∨ o.state = .held) :
      Change .cancelOrder p s (cancelLive i o s)
  | defineArtwork {p s} (a : ArtworkNo) (d : Design) (hd : (tget s.artworks a).design = none) :
      Change .defineArtwork p s (putArtwork a { design := some d, refs := 0, staged := false } s)
  | removeArtwork {p s} (a : ArtworkNo) (hr : (tget s.artworks a).refs = 0) :
      Change .removeArtwork p s
        (if (tget s.artworks a).staged then post .engine (.artworkRemoved a) (putArtwork a .empty s)
        else putArtwork a .empty s)
  | artworkStaged {p s} (a : ArtworkNo) (hc : stagedCount s < 16) :
      Change .artworkStaged p s
        (if awaitsArtwork (putArtwork a { tget s.artworks a with staged := true } s) a then
          printStartTest (putArtwork a { tget s.artworks a with staged := true } s)
        else putArtwork a { tget s.artworks a with staged := true } s)
  | artworkEvicted {p s} (a : ArtworkNo) :
      Change .artworkEvicted p s (putArtwork a { tget s.artworks a with staged := false } s)
  | load {p s} (k : Sku) (u : UnitNo) (pl : PlatenNo) (i : OrderNo) (n : LineNo) (l : Line)
      (hu : (tget s.ring.platens pl).unit = none) (hc : candidate s k = some (i, n, l))
      (hf : lowestFreeUnit s = some u) : Change .load p s (acceptLoad u pl i n l s)
  | unload {p s} (u : UnitNo) (sh : Shirt) (hsh : s.shirt u = some sh) :
      Change .unload p s (freeUnit .unloaded u s)
  | bypassHeld {p s} (u : UnitNo) : Change .bypassPretreat p s (pretreatRelease (setBypassed u s))
  | bypass {p s} (u : UnitNo) : Change .bypassPretreat p s (setBypassed u s)
  | refill {p s} (amount : Nat) :
      Change .refill p s
        (if s.pretreat.state = .lowFluid then pretreatStartTest (addFluid amount s) else addFluid amount s)
  | barClear {p s} (hf : s.bar.state = .faulted) :
      Change .barClear p s (s.setBar { s.bar with clearPending := true, target := some .home })
  | registered {p s} (u : UnitNo) (sh : Shirt) (hsh : s.shirt u = some sh) (hs : s.print.state = .registering)
      (hh : s.print.held = some (s.tagOf u)) : Change .registered p s (acceptRegistered u sh s)
  | registerFault {p s} (u : UnitNo) (hs : s.print.state = .registering) (hh : s.print.held = some (s.tagOf u)) :
      Change .registerFault p s (acceptRegisterFault u s)
  | nextSwath {p s} (d : Design) (tag : Tag) (t : Traverse) (hs : s.print.state = .passing)
      (hl : s.print.inFlight.length < 3) : Change .nextSwath p s (issueSwath d tag t s).2
  | swathDone {p s} (o : SwathOrder) (os : List SwathOrder) (result : Byte)
      (hs : s.print.state = .passing ∨ s.print.state = .aborting) (hi : s.print.inFlight = o :: os) :
      Change .swathDone p s (swathReported o os result s)
  | carriageParked {p s} (hs : s.print.state = .parking) : Change .carriageParked p s (releasePrinted s)
  | readErrorRecord {p s} :
      Change .readErrorRecord p s (s.setPrint { s.print with errorRecord := none, errorCount := 0 })
  | matchScrapped {p s} (u : UnitNo) (sh : Shirt) (hsh : s.shirt u = some sh) :
      Change .matchShirt p s (freeUnit .scrapped u s)
  | matchOrphan {p s} (u : UnitNo) (sh : Shirt) (sl : SlotNo) (hsh : s.shirt u = some sh)
      (hl : lowestFreeSlot s = some sl) :
      Change .matchShirt p s (freeUnit .orphaned u (placeEntry sl sh.artwork sh.sku s))
  | matchBin {p s} (u : UnitNo) (sh : Shirt) (o : Order) (b : BinNo) (s1 : State) (hsh : s.shirt u = some sh)
      (ho : s.order sh.order.index = some o) (hs : o.state = .active ∨ o.state = .held)
      (hb : assignBin sh.order.index s = some (b, s1)) : Change .matchShirt p s (freeUnit .binned u s1)
  | scrap {p s} (u : UnitNo) (sh : Shirt) (hsh : s.shirt u = some sh) (hp : inProcess s u sh = false) :
      Change .scrap p s (freeUnit .scrapped u (scrapStation u sh s))
  | recure {p s} (u : UnitNo) (sh : Shirt) (c : CureRecord) (hsh : s.shirt u = some sh) (hx : sh.state = .exited)
      (hc : sh.cure = some c) (hl : s.tunnel.queue.length < 10) :
      Change .recure p s (acceptRecure u (recured s.tunnel.profile sh c) s)
  | binClosed {p s} (b : BinNo) (h : Handle) (o : Order) (hb : tget s.pack.bins b = some h)
      (ho : s.order h.index = some o) (hs : o.state = .complete) :
      Change .binClosed p s (freeOrder h.index .closed (releaseBin b h.index s))
  | clearShelfSlot {p s} (sl : SlotNo) : Change .clearShelfSlot p s (removeEntry sl s)
  | quiesceWorking {p s} (st : Station) :
      Change .quiesceStation p s (restUnit st (setQuiesce st .quiescing s))
  | quiesceAtOnce {p s} (st : Station) :
      Change .quiesceStation p s (post .order (.quiesced st) (restUnit st (setQuiesce st .quiesced s)))
  | resumeWorking {p s} (st : Station) :
      Change .resumeStation p s (resumeWorking st (post .order (.resumed st (s.quiesce st)) (setQuiesce st .running s)))
  | resumeHeld {p s} (st : Station) :
      Change .resumeStation p s (beginHeld st (post .order (.resumed st (s.quiesce st)) (setQuiesce st .running s)))
  | fetchNotice {p s} :
      Change .fetchNotice p s (s.setPort p { s.port p with notices := (s.port p).notices.tail, overrun := false })
  | readStatus {p s} : Change .readStatus p s (s.setPort p { s.port p with frameErrors := 0 })

/-! ### What a handler answers -/

/-- A handler's answer leaves the state alone, or it is no refusal and its state is a change of the request's. -/
def Handled (r : Request) (p : Port) (s : State) (out : Reply × State) : Prop :=
  out.2 = s ∨ (∀ e more, out.1 ≠ .refused e more) ∧ Change r p s out.2

section
variable {r : Request} {p : Port} {s t : State}

theorem Handled.same (reply : Reply) : Handled r p s (reply, s) := .inl rfl

theorem Handled.done {results : List Byte} (h : Change r p s t) : Handled r p s (.done results, t) :=
  .inr ⟨by simp, h⟩

theorem Handled.condition {c : Condition} {results : List Byte} (h : Change r p s t) :
    Handled r p s (.condition c results, t) :=
  .inr ⟨by simp, h⟩

theorem withTag_handled {hi lo : Byte} {k : UnitNo → Shirt → Reply × State}
    (h : ∀ u sh, s.shirt u = some sh → Handled r p s (k u sh)) : Handled r p s (withTag hi lo s k) := by
  unfold withTag
  cases e : resolveTag hi lo s with
  | error _ => exact .same _
  | ok x =>
    refine h x.1 x.2 ?_
    unfold resolveTag at e
    dsimp only at e
    split at e
    · cases e
    · split at e
      · cases e
      · rename_i hsh
        split at e
        · obtain rfl := Except.ok.inj e; exact hsh
        · cases e

theorem withHandle_handled {g ix : Byte} {k : OrderNo → Order → Reply × State}
    (h : ∀ i o, s.order i = some o → Handled r p s (k i o)) : Handled r p s (withHandle g ix s k) := by
  unfold withHandle
  cases e : resolveHandle g ix s with
  | error _ => exact .same _
  | ok x =>
    refine h x.1 x.2 ?_
    unfold resolveHandle at e
    split at e
    · cases e
    · split at e
      · cases e
      · rename_i ho
        split at e
        · obtain rfl := Except.ok.inj e; exact ho
        · cases e


/-! ### The cases of each handler -/

variable (p : Port) (body : List Byte) (s : State)

theorem setPlaten_handled : Handled .setPlaten p s (setPlaten p body s) := by
  unfold setPlaten
  split
  · split
    · dsimp only
      split
      · exact .same _
      · next hu => exact .done (.setPlaten _ _ _ (by simpa using hu))
    · exact .same _
  · exact .same _

theorem submitOrder_handled : Handled .submitOrder p s (submitOrder p body s) := by
  unfold submitOrder
  split
  · exact .same _
  · next x hx =>
    split
    · exact .same _
    · next he =>
      split
      · exact .same _
      · next hw =>
        split
        · exact .same _
        · next i hi =>
          split
          · exact .same _
          · next hl =>
            dsimp only [shelfReply]
            have change : Change .submitOrder p s (orphanUptake i (acceptOrder i x s)).1 :=
              .submitOrder body x i hx he (by simpa using hw) hi (by omega)
            split
            · exact .done change
            · exact .condition change

theorem holdOrder_handled : Handled .holdOrder p s (holdOrder p body s) := by
  unfold holdOrder
  split
  · refine withHandle_handled fun i o ho => ?_
    split
    · exact .same _
    · split
      · exact .same _
      · next hs => exact .done (.holdOrder i o _ ho (by simpa using hs))
  · exact .same _

theorem releaseOrder_handled : Handled .releaseOrder p s (releaseOrder p body s) := by
  unfold releaseOrder
  split
  · refine withHandle_handled fun i o ho => ?_
    split
    · exact .same _
    · split
      · exact .same _
      · next hs =>
        dsimp only [shelfReply]
        have change := Change.releaseOrder (p := p) i o ho (by simpa using hs)
        split
        · exact .done change
        · exact .condition change
  · exact .same _

theorem cancelOrder_handled : Handled .cancelOrder p s (cancelOrder p body s) := by
  unfold cancelOrder
  split
  · refine withHandle_handled fun i o ho => ?_
    split
    · exact .same _
    · exact .same _
    · next hs => exact .done (.cancelOrder i o ho (.inl hs))
    · next hs => exact .done (.cancelOrder i o ho (.inr hs))
  · exact .same _

theorem readOrder_handled : Handled .readOrder p s (readOrder p body s) := by
  unfold readOrder
  split
  · exact withHandle_handled fun i o ho => .same _
  · refine withHandle_handled fun i o ho => ?_
    split <;> exact .same _
  · exact .same _

theorem defineArtwork_handled : Handled .defineArtwork p s (defineArtwork p body s) := by
  unfold defineArtwork
  split
  · split
    · exact .same _
    · split
      · exact .same _
      · split
        · exact .same _
        · next hd => exact .done (.defineArtwork _ _ (by simpa using hd))
  · exact .same _

theorem removeArtwork_handled : Handled .removeArtwork p s (removeArtwork p body s) := by
  unfold removeArtwork
  split
  · split
    · exact .same _
    · dsimp only
      split
      · exact .same _
      · split
        · exact .same _
        · next hr => exact .done (.removeArtwork _ (by omega))
  · exact .same _

theorem readArtwork_handled : Handled .readArtwork p s (readArtwork p body s) := by
  unfold readArtwork
  split
  · split <;> exact .same _
  · split
    · exact .same _
    · split <;> exact .same _
  · exact .same _

theorem artworkStaged_handled : Handled .artworkStaged p s (artworkStaged p body s) := by
  unfold artworkStaged
  split
  · split
    · exact .same _
    · dsimp only
      split
      · exact .same _
      · split
        · exact .same _
        · split
          · exact .same _
          · next hc => exact .done (.artworkStaged _ (by simpa [Config.stagedMax] using hc))
  · exact .same _

theorem artworkEvicted_handled : Handled .artworkEvicted p s (artworkEvicted p body s) := by
  unfold artworkEvicted
  split
  · split
    · exact .same _
    · dsimp only
      split
      · exact .same _
      · split
        · exact .same _
        · split
          · exact .same _
          · exact .done (.artworkEvicted _)
  · exact .same _

theorem loadCandidate_handled {k : Sku} {pl : PlatenNo} {i : OrderNo} {n : LineNo} {l : Line}
    (hu : (tget s.ring.platens pl).unit = none) (hc : candidate s k = some (i, n, l)) :
    Handled .load p s (loadCandidate pl i n l s) := by
  unfold loadCandidate
  dsimp only
  split
  · exact .same _
  · split
    · exact .same _
    · split
      · next hf _ => exact .done (.load k _ pl i n l hu hc hf)
      · exact .same _

theorem load_handled : Handled .load p s (load p body s) := by
  unfold load
  split
  · split
    · exact .same _
    · split
      · exact .same _
      · split
        · exact .same _
        · unfold loadOn
          dsimp only
          split
          · exact .same _
          · split
            · exact .same _
            · next hu =>
              split
              · exact .same _
              · split
                · exact .same _
                · next hc => exact loadCandidate_handled p s (by simpa using hu) hc
  · exact .same _

theorem unload_handled : Handled .unload p s (unload p body s) := by
  unfold unload
  split
  · refine withTag_handled fun u sh hsh => ?_
    split
    · exact .same _
    · split
      · exact .same _
      · exact .done (.unload u sh hsh)
  · exact .same _

theorem bypassPretreat_handled : Handled .bypassPretreat p s (bypassPretreat p body s) := by
  unfold bypassPretreat
  split
  · refine withTag_handled fun u sh hsh => ?_
    split
    · exact .same _
    · split
      · exact .same _
      · split
        · exact .same _
        · split
          · exact .same _
          · split
            · exact .done (.bypassHeld u)
            · exact .done (.bypass u)
  · exact .same _

/-- A load-gated write past its fields: turned away by the gate, or taken on a QUIESCED station. -/
theorem loadGated_handled {r : Request} {f : LoadStation → LoadStation}
    (h : s.load.quiesce = .quiesced → Change r p s (s.setLoad (f s.load))) : Handled r p s (loadGated s f) := by
  unfold loadGated
  split
  · exact .same _
  · next hq => exact .done (h (by simpa using hq))

theorem writeColourTable_handled : Handled .writeColourTable p s (writeColourTable p body s) := by
  unfold writeColourTable
  split
  · split
    · exact .same _
    · exact loadGated_handled p s fun hq => .write (.writeColourTable _ _ hq)
  · exact .same _

theorem writeSizeMap_handled : Handled .writeSizeMap p s (writeSizeMap p body s) := by
  unfold writeSizeMap
  split
  · split
    · exact loadGated_handled p s fun hq => .write (.writeSizeMap _ _ hq)
    · exact .same _
  · exact .same _

theorem writeDarkThreshold_handled : Handled .writeDarkThreshold p s (writeDarkThreshold p body s) := by
  unfold writeDarkThreshold
  split
  · exact loadGated_handled p s fun hq => .write (.writeDarkThreshold _ hq)
  · exact .same _

theorem writeScrapLimit_handled : Handled .writeScrapLimit p s (writeScrapLimit p body s) := by
  unfold writeScrapLimit
  split
  · split
    · exact .same _
    · next hl => exact loadGated_handled p s fun hq => .write (.writeScrapLimit _ (by omega) hq)
  · exact .same _

theorem writeDoseTable_handled : Handled .writeDoseTable p s (writeDoseTable p body s) := by
  unfold writeDoseTable
  split
  · dsimp only
    split
    · exact .same _
    · next hf =>
      split
      · exact .same _
      · next hq =>
        refine .done (.write (.writeDoseTable _ _ (fun d hd => ?_) (by simpa using hq)))
        simp only [not_or, List.any_eq_true, decide_eq_true_eq, not_exists, not_and] at hf
        exact Nat.le_of_not_lt (hf.2.2.2 d hd)
  · exact .same _

theorem refill_handled : Handled .refill p s (refill p body s) := by
  unfold refill
  split
  · dsimp only
    split
    · exact .condition (.refill _)
    · exact .done (.refill _)
  · exact .same _

theorem writeSpraySettings_handled : Handled .writeSpraySettings p s (writeSpraySettings p body s) := by
  unfold writeSpraySettings
  split
  · exact .same _
  · split
    · exact .same _
    · next hr =>
      split
      · exact .done (.write (.ditherOff _))
      · split
        · exact .same _
        · next hq => exact .done (.write (.writeSpraySettings _ (by simpa using hr) (by simpa using hq)))

theorem barClear_handled : Handled .barClear p s (barClear p body s) := by
  unfold barClear
  split
  · next hf =>
    split
    · exact .same _
    · exact .done (.barClear hf)
  all_goals exact .same _

theorem registered_handled : Handled .registered p s (registered p body s) := by
  unfold registered
  split
  · refine withTag_handled fun u sh hsh => ?_
    split
    · exact .same _
    · split
      · next hs =>
        split
        · next hh => exact .done (.registered u sh hsh hs hh)
        · exact .same _
      · split <;> exact .same _
  · exact .same _

theorem registerFault_handled : Handled .registerFault p s (registerFault p body s) := by
  unfold registerFault
  split
  · refine withTag_handled fun u sh hsh => ?_
    split
    · exact .same _
    · split
      · next hs =>
        split
        · next hh => exact .done (.registerFault u hs hh)
        · exact .same _
      · exact .same _
  · exact .same _

theorem nextSwath_handled : Handled .nextSwath p s (nextSwath p body s) := by
  unfold nextSwath
  split
  case h_7 hs =>
    split
    · split
      · next hl => exact .done (.nextSwath _ _ _ hs hl)
      · exact .same _
    · exact .same _
  all_goals exact .same _

theorem swathDone_handled : Handled .swathDone p s (swathDone p body s) := by
  unfold swathDone
  split
  · split
    · exact .same _
    · split
      · exact .same _
      · split
        · exact .same _
        · next hs =>
          split
          · next hi =>
            split
            · exact .done (.swathDone _ _ _ (by tauto) hi)
            · exact .same _
          · exact .same _
  · exact .same _

theorem carriageParked_handled : Handled .carriageParked p s (carriageParked p body s) := by
  unfold carriageParked
  split
  · refine withTag_handled fun u sh hsh => ?_
    split
    · next hs =>
      split
      · exact .done (.carriageParked hs)
      · exact .same _
    · exact .same _
  · exact .same _

theorem readErrorRecord_handled : Handled .readErrorRecord p s (readErrorRecord p body s) := by
  unfold readErrorRecord
  dsimp only
  split <;> exact .done .readErrorRecord

theorem writeEngineProfile_handled : Handled .writeEngineProfile p s (writeEngineProfile p body s) := by
  unfold writeEngineProfile
  split
  · dsimp only
    split
    · exact .same _
    · next hl =>
      split
      · exact .same _
      · next hq =>
        exact .done (.write (.writeEngineProfile _ (by simp only [List.mem_cons, List.not_mem_nil, or_false]; tauto)
          (by simpa using hq)))
  · exact .same _

theorem writeCureProfile_handled : Handled .writeCureProfile p s (writeCureProfile p body s) := by
  unfold writeCureProfile
  split
  · exact .same _
  · split
    · exact .same _
    · next hr =>
      split
      · exact .same _
      · next hq => exact .done (.write (.writeCureProfile _ (by simpa using hr) (by simpa using hq)))

theorem matchExited_handled {u : UnitNo} {sh : Shirt} {c : CureRecord} {o : Order} (hsh : s.shirt u = some sh)
    (ho : s.order sh.order.index = some o) : Handled .matchShirt p s (matchExited u sh c o s) := by
  have bin (hs : o.state = .active ∨ o.state = .held) : Handled .matchShirt p s (matchBin u sh c o s) := by
    unfold matchBin
    split
    · exact .same _
    · next hb => exact .done (.matchBin u sh o _ _ hsh ho hs hb)
  unfold matchExited
  split
  · exact .done (.matchScrapped u sh hsh)
  · split
    · exact .same _
    · split
      · split
        · unfold matchOrphan
          split
          · next hl => exact .done (.matchOrphan u sh _ hsh hl)
          · exact .done (.matchScrapped u sh hsh)
        · next hs => exact bin (.inl hs)
        · next hs => exact bin (.inr hs)
        · exact .same _
      · exact .same _

theorem matchShirt_handled : Handled .matchShirt p s (matchShirt p body s) := by
  unfold matchShirt
  split
  · refine withTag_handled fun u sh hsh => ?_
    split
    · exact .same _
    · split
      · next ho => exact matchExited_handled p s hsh ho
      · exact .same _
  · exact .same _

theorem scrap_handled : Handled .scrap p s (scrap p body s) := by
  unfold scrap
  split
  · refine withTag_handled fun u sh hsh => ?_
    split
    · exact .same _
    · next hp => exact .done (.scrap u sh hsh (by simpa using hp))
  · exact .same _

theorem recure_handled : Handled .recure p s (recure p body s) := by
  unfold recure
  split
  · refine withTag_handled fun u sh hsh => ?_
    split
    · exact .same _
    · next hx =>
      split
      · next hc =>
        unfold recureChecked
        split
        · exact .same _
        · split
          · exact .same _
          · split
            · exact .same _
            · split
              · exact .same _
              · next hl =>
                exact .done (.recure u sh _ hsh (by simpa using hx) hc (by simpa [Config.tunnelQueueMax] using hl))
      · exact .same _
  · exact .same _

theorem binClosed_handled : Handled .binClosed p s (binClosed p body s) := by
  unfold binClosed
  split
  · split
    · exact .same _
    · split
      · exact .same _
      · next hb =>
        split
        · exact .same _
        · next ho =>
          split
          · exact .same _
          · next hs => exact .done (.binClosed _ _ _ hb ho (by simpa using hs))
  · exact .same _

theorem clearShelfSlot_handled : Handled .clearShelfSlot p s (clearShelfSlot p body s) := by
  unfold clearShelfSlot
  split
  · split
    · exact .same _
    · split
      · exact .same _
      · exact .done (.clearShelfSlot _)
  · exact .same _

theorem readPack_handled : Handled .readPack p s (readPack p body s) := by
  unfold readPack
  split
  · split <;> exact .same _
  · exact .same _

theorem quiesceStation_handled : Handled .quiesceStation p s (quiesceStation p body s) := by
  unfold quiesceStation
  split
  · split
    · exact .same _
    · split
      · split
        · exact .done (.quiesceWorking _)
        · exact .done (.quiesceAtOnce _)
      · exact .same _
      · exact .same _
  · exact .same _

theorem resumeStation_handled : Handled .resumeStation p s (resumeStation p body s) := by
  unfold resumeStation
  split
  · split
    · exact .same _
    · dsimp only
      split
      · exact .same _
      · exact .done (.resumeWorking _)
      · exact .done (.resumeHeld _)
  · exact .same _

/-- Everything the handler of any request can do: leave the state alone, or, unrefused, make one change. -/
theorem handler_handled (r : Request) : Handled r p s (handlerOf r p body s) := by
  cases r with
  | setPlaten => exact setPlaten_handled p body s
  | lineReset => exact .done .lineReset
  | submitOrder => exact submitOrder_handled p body s
  | holdOrder => exact holdOrder_handled p body s
  | releaseOrder => exact releaseOrder_handled p body s
  | cancelOrder => exact cancelOrder_handled p body s
  | readOrder => exact readOrder_handled p body s
  | defineArtwork => exact defineArtwork_handled p body s
  | removeArtwork => exact removeArtwork_handled p body s
  | readArtwork => exact readArtwork_handled p body s
  | artworkStaged => exact artworkStaged_handled p body s
  | artworkEvicted => exact artworkEvicted_handled p body s
  | load => exact load_handled p body s
  | unload => exact unload_handled p body s
  | bypassPretreat => exact bypassPretreat_handled p body s
  | writeColourTable => exact writeColourTable_handled p body s
  | writeSizeMap => exact writeSizeMap_handled p body s
  | writeDarkThreshold => exact writeDarkThreshold_handled p body s
  | writeScrapLimit => exact writeScrapLimit_handled p body s
  | readLoadTables => exact .same _
  | writeDoseTable => exact writeDoseTable_handled p body s
  | refill => exact refill_handled p body s
  | readPretreat => exact .same _
  | writeSpraySettings => exact writeSpraySettings_handled p body s
  | barClear => exact barClear_handled p body s
  | readSprayBar => exact .same _
  | registered => exact registered_handled p body s
  | registerFault => exact registerFault_handled p body s
  | nextSwath => exact nextSwath_handled p body s
  | swathDone => exact swathDone_handled p body s
  | carriageParked => exact carriageParked_handled p body s
  | readPrint => exact .same _
  | readErrorRecord => exact readErrorRecord_handled p body s
  | writeEngineProfile => exact writeEngineProfile_handled p body s
  | writeCureProfile => exact writeCureProfile_handled p body s
  | readTunnel => exact .same _
  | matchShirt => exact matchShirt_handled p body s
  | scrap => exact scrap_handled p body s
  | recure => exact recure_handled p body s
  | binClosed => exact binClosed_handled p body s
  | clearShelfSlot => exact clearShelfSlot_handled p body s
  | readPack => exact readPack_handled p body s
  | quiesceStation => exact quiesceStation_handled p body s
  | resumeStation => exact resumeStation_handled p body s
  | fetchNotice => exact .done .fetchNotice
  | readStatus => exact .done .readStatus

end

end Sys2Proof.Machine
end

section
/-! The commands that are no request, and the one rule by which what every change and every event keeps, a command and a
step keep. With it stand the statements that speak of every command alone. -/

namespace Sys2Proof.Machine

/-! ### The commands that are no request -/

/-- What a command that is no request does when it does anything. -/
inductive Event : Instr → State → State → Prop
  | powerOn {s} (straps : Straps) : Event (.powerOn straps) s { State.powerOn straps with pending := s.pending }
  | timeBaseTick {s} : Event .timeBaseTick s (s.setTime { s.time with now := s.time.now + 1 })
  | frameReceived {s} (p : Port) (chars : List Byte) : Event (.frameReceived p chars) s (receiveChars p chars s)
  | intercharacterTimeout {s} (p : Port) :
      Event (.intercharacterTimeout p) s (s.setPort p ((s.port p).expire s.time.now))
  | frameErrorDiscard {s} (p : Port) (chars : List Byte) :
      Event (.frameErrorDiscard p chars) s
        ((receiveChars p chars s).setPort p ((receiveChars p chars s).port p).endRun)
  | indexRequest {s} : Event .indexRequest s (indexRequest s)
  | indexDone {s} : Event .indexDone s (indexDone s)
  | pretreatArrival {s} : Event .pretreatArrival s (pretreatArrival s)
  | printArrival {s} : Event .printArrival s (printArrival s)
  | tunnelArrival {s} : Event .tunnelArrival s (tunnelArrival s)
  | barInPosition {s} : Event .barInPosition s (barInPosition s)
  | sweepEnd {s} (h : sweepDue s = true) : Event .sweepEnd s (s.setBar (s.bar.endSweep s.time.now))
  | centringEnd {s} (h : centringDue s = true) : Event .centringEnd s (s.setBar s.bar.endCentring)
  | barFault {s} : Event .barFault s (barFault s)
  | watchdogExpiry {s} : Event .watchdogExpiry s (watchdogExpiry s)
  | beltStep {s} : Event .beltStep s (beltStep s)
  | tunnelEntrySensor {s} : Event .tunnelEntrySensor s (tunnelEntry s)
  | zoneReading {s} (z : ZoneNo) (reading : BitVec 10) : Event (.zoneReading z reading) s (zoneReading z reading s)
  | cureTick {s} : Event .cureTick s (cureTick s)
  | tunnelExitSensor {s} : Event .tunnelExitSensor s (tunnelExit s)

/-- A command that is no request is an event, or changes nothing. -/
theorem exec_of_not_request (c : Instr) (s : State) (h : ∀ r p, c ≠ Request.command r p) :
    ∃ t, exec c s = .next t ∧ (t = s ∨ Event c s t) := by
  have due {b : Bool} {t : State} (e : b = true → Event c s t) (hx : exec c s = .next (if b then t else s)) :
      ∃ t, exec c s = .next t ∧ (t = s ∨ Event c s t) := by
    cases b
    · exact ⟨s, hx, .inl rfl⟩
    · exact ⟨t, hx, .inr (e rfl)⟩
  cases c with
  | powerOn straps => exact ⟨_, rfl, .inr (.powerOn straps)⟩
  | timeBaseTick => exact ⟨_, rfl, .inr .timeBaseTick⟩
  | frameReceived p chars => exact ⟨_, rfl, .inr (.frameReceived p chars)⟩
  | intercharacterTimeout p => exact ⟨_, rfl, .inr (.intercharacterTimeout p)⟩
  | frameErrorDiscard p chars => exact ⟨_, rfl, .inr (.frameErrorDiscard p chars)⟩
  | indexRequest => exact ⟨_, rfl, .inr .indexRequest⟩
  | indexDone => exact ⟨_, rfl, .inr .indexDone⟩
  | pretreatArrival => exact ⟨_, rfl, .inr .pretreatArrival⟩
  | printArrival => exact ⟨_, rfl, .inr .printArrival⟩
  | tunnelArrival => exact ⟨_, rfl, .inr .tunnelArrival⟩
  | barInPosition => exact ⟨_, rfl, .inr .barInPosition⟩
  | sweepEnd => exact due .sweepEnd rfl
  | centringEnd => exact due .centringEnd rfl
  | barFault => exact ⟨_, rfl, .inr .barFault⟩
  | watchdogExpiry => exact due (fun _ => .watchdogExpiry) rfl
  | beltStep => exact ⟨_, rfl, .inr .beltStep⟩
  | tunnelEntrySensor => exact ⟨_, rfl, .inr .tunnelEntrySensor⟩
  | zoneReading z reading => exact ⟨_, rfl, .inr (.zoneReading z reading)⟩
  | cureTick => exact due (fun _ => .cureTick) rfl
  | tunnelExitSensor => exact ⟨_, rfl, .inr .tunnelExitSensor⟩
  | setPlaten p => exact absurd rfl (h .setPlaten p)
  | lineReset p => exact absurd rfl (h .lineReset p)
  | submitOrder p => exact absurd rfl (h .submitOrder p)
  | holdOrder p => exact absurd rfl (h .holdOrder p)
  | releaseOrder p => exact absurd rfl (h .releaseOrder p)
  | cancelOrder p => exact absurd rfl (h .cancelOrder p)
  | readOrder p => exact absurd rfl (h .readOrder p)
  | defineArtwork p => exact absurd rfl (h .defineArtwork p)
  | removeArtwork p => exact absurd rfl (h .removeArtwork p)
  | readArtwork p => exact absurd rfl (h .readArtwork p)
  | artworkStaged p => exact absurd rfl (h .artworkStaged p)
  | artworkEvicted p => exact absurd rfl (h .artworkEvicted p)
  | load p => exact absurd rfl (h .load p)
  | unload p => exact absurd rfl (h .unload p)
  | bypassPretreat p => exact absurd rfl (h .bypassPretreat p)
  | writeColourTable p => exact absurd rfl (h .writeColourTable p)
  | writeSizeMap p => exact absurd rfl (h .writeSizeMap p)
  | writeDarkThreshold p => exact absurd rfl (h .writeDarkThreshold p)
  | writeScrapLimit p => exact absurd rfl (h .writeScrapLimit p)
  | readLoadTables p => exact absurd rfl (h .readLoadTables p)
  | writeDoseTable p => exact absurd rfl (h .writeDoseTable p)
  | refill p => exact absurd rfl (h .refill p)
  | readPretreat p => exact absurd rfl (h .readPretreat p)
  | writeSpraySettings p => exact absurd rfl (h .writeSpraySettings p)
  | readSprayBar p => exact absurd rfl (h .readSprayBar p)
  | barClear p => exact absurd rfl (h .barClear p)
  | registered p => exact absurd rfl (h .registered p)
  | registerFault p => exact absurd rfl (h .registerFault p)
  | nextSwath p => exact absurd rfl (h .nextSwath p)
  | swathDone p => exact absurd rfl (h .swathDone p)
  | carriageParked p => exact absurd rfl (h .carriageParked p)
  | readPrint p => exact absurd rfl (h .readPrint p)
  | readErrorRecord p => exact absurd rfl (h .readErrorRecord p)
  | writeEngineProfile p => exact absurd rfl (h .writeEngineProfile p)
  | writeCureProfile p => exact absurd rfl (h .writeCureProfile p)
  | readTunnel p => exact absurd rfl (h .readTunnel p)
  | matchShirt p => exact absurd rfl (h .matchShirt p)
  | scrap p => exact absurd rfl (h .scrap p)
  | recure p => exact absurd rfl (h .recure p)
  | binClosed p => exact absurd rfl (h .binClosed p)
  | clearShelfSlot p => exact absurd rfl (h .clearShelfSlot p)
  | readPack p => exact absurd rfl (h .readPack p)
  | quiesceStation p => exact absurd rfl (h .quiesceStation p)
  | resumeStation p => exact absurd rfl (h .resumeStation p)
  | fetchNotice p => exact absurd rfl (h .fetchNotice p)
  | readStatus p => exact absurd rfl (h .readStatus p)

/-! ### What a command can do -/

/-- A request leaves the state, or takes a frame, perhaps changes the state, and sends a reply. -/
theorem exec_request (r : Request) (p : Port) (s : State) :
    exec (r.command p) s = .next s
      ∨ ∃ f rest u reply, (s.port p).input = f :: rest
        ∧ (u = s.without p rest ∨ Change r p (s.without p rest) u)
        ∧ exec (r.command p) s = .next (u.send p reply) := by
  rw [exec_command]
  rcases serve_cases r (handlerOf r) p s with h | ⟨f, rest, hi, ⟨e, _, h⟩ | ⟨_, h⟩⟩
  · exact .inl h
  · exact .inr ⟨f, rest, _, _, hi, .inl rfl, h⟩
  · exact .inr ⟨f, rest, _, _, hi, (handler_handled p f.body (s.without p rest) r).imp id And.right, h⟩

/-- A relation between the states before and after that neither a frame taken before nor a reply sent after disturbs
holds over a command when it holds over the changes of its request and over its events. -/
theorem exec_rule {R : State → State → Prop} {c : Instr} {s t : State} (refl : ∀ s, R s s)
    (without : ∀ (s t : State) p f rest, (s.port p).input = f :: rest → R (s.without p rest) t → R s t)
    (send : ∀ (s t : State) p f, R s t → R s (t.send p f))
    (change : ∀ r p s t, c = r.command p → Change r p s t → R s t) (event : ∀ s t, Event c s t → R s t)
    (h : exec c s = .next t) : R s t := by
  by_cases hc : ∃ r p, c = Request.command r p
  · obtain ⟨r, p, rfl⟩ := hc
    rcases exec_request r p s with e | ⟨f, rest, u, reply, hi, hu, e⟩ <;> obtain rfl := Host.Outcome.next.inj (h ▸ e)
    · exact refl _
    · refine without _ _ p f rest hi (send _ _ p reply ?_)
      rcases hu with rfl | hu
      · exact refl _
      · exact change r p _ _ rfl hu
  · obtain ⟨t', e, ht⟩ := exec_of_not_request c s (by simpa using hc)
    obtain rfl := Host.Outcome.next.inj (h ▸ e)
    rcases ht with rfl | ht
    · exact refl _
    · exact event _ _ ht

/-- What the queue of commands does not touch and every command keeps, a step keeps. -/
theorem step_rule {I : State → Prop} (pending : ∀ s l, I s → I { s with pending := l })
    (command : ∀ c s t, exec c s = .next t → I s → I t) {s t : State} (hs : I s) (h : step s = .next t) : I t := by
  unfold step at h
  split at h
  · obtain rfl := Host.Outcome.next.inj h; exact hs
  · exact command _ _ _ h (pending s _ hs)

/-- What reads neither the ports nor the queue of commands, and what every change and every event keeps, a step keeps. -/
theorem step_keeps {I : State → Prop} (ports : ∀ s v, I s → I (State.setPorts s v))
    (pending : ∀ s l, I s → I { s with pending := l }) (change : ∀ r p s t, Change r p s t → I s → I t)
    (event : ∀ c s t, Event c s t → I s → I t) {s t : State} (hs : I s) (h : step s = .next t) : I t :=
  step_rule pending (fun c _ _ hx => exec_rule (R := fun a b => I a → I b) (c := c) (fun _ => id)
    (fun s _ _ _ _ _ hr hs => hr (ports s _ hs)) (fun _ t _ _ hr hs => ports t _ (hr hs))
    (fun r p s t _ => change r p s t) (event c) hx) hs h

/-! ### The statements about every command alone -/

/-- Settles O1. -/
theorem stepTakesFrontCommand : Obligations.StepTakesFrontCommand := fun _ _ => rfl

/-- Settles O4: a command is a request, which is served, or an event. -/
theorem everyCommandAnswers : Obligations.EveryCommandAnswers := by
  intro c s
  by_cases hc : ∃ r p, c = Request.command r p
  · obtain ⟨r, p, rfl⟩ := hc
    rcases exec_request r p s with e | ⟨_, _, _, _, _, _, e⟩ <;> exact ⟨_, e⟩
  · obtain ⟨t, e, _⟩ := exec_of_not_request c s (by simpa using hc)
    exact ⟨t, e⟩

theorem State.send_sent (s : State) (p : Port) (f : Frame) : ((s.send p f).port p).sent = (s.port p).sent ++ [f] := by
  simp [State.send]

/-- A reply that puts the same frame on the link as a refusal is a refusal. -/
theorem refused_of_replyFrame_eq {p : Port} {f : Frame} {reply : Reply} {e : StatusCode} {more : List Byte}
    (h : replyFrame p f reply = replyFrame p f (.refused e more)) : ∃ e' more', reply = .refused e' more' := by
  have hb : reply.body = (Reply.refused e more).body := congrArg Frame.body h
  cases reply with
  | done results => simp [Reply.body] at hb
  | condition c results => simp [Reply.body] at hb
  | refused e' more' => exact ⟨e', more', rfl⟩

/-- Settles O5: a handler that answers a refusal has left the state alone, and the frame sent shows that it was one. -/
theorem refusedRequestChangesNothing : Obligations.RefusedRequestChangesNothing := by
  intro r s t p f rest e more hoff hx hsent
  rw [exec_command, serve_offered hoff] at hx
  obtain rfl := Host.Outcome.next.inj hx
  obtain ⟨_, hframe⟩ := List.append_inj' ((State.send_sent _ _ _).symm.trans hsent) rfl
  have hframe := List.singleton_inj.mp hframe
  obtain ⟨e', more', hrefused⟩ := refused_of_replyFrame_eq hframe
  rcases handler_handled p f.body (s.without p rest) r with hsame | ⟨hnot, _⟩
  · rw [hframe, hsame]
  · exact absurd hrefused (hnot e' more')

end Sys2Proof.Machine
end

section
/-! What nearly every operation keeps, said once for each: the Time Base, the positions of the platens, the gated tables,
what a unit in use keeps, and the invariants of the ring, the tunnel, the bar and the ports. The invariants of tier 3 are
read off it. -/

namespace Sys2Proof.Machine

/-! ### The relation -/

/-- An exposure, a required exposure and a scorch limit within 65535. -/
def CureRecord.bounded (c : CureRecord) : Prop :=
  c.exposure ≤ 65535 ∧ (∀ r, c.required = some r → r ≤ 65535) ∧ (∀ r, c.scorch = some r → r ≤ 65535)

/-- A unit's cure record, where it has one, is within its bounds. -/
def Shirt.cureBounded (sh : Shirt) : Prop := ∀ c, sh.cure = some c → c.bounded

theorem exposuresBounded_iff (s : State) :
    s.exposuresBounded ↔ ∀ u sh, s.shirt u = some sh → sh.cureBounded :=
  ⟨fun h u sh hs c hc => h u sh c hs hc, fun h u sh c hs hc => h u sh hs c hc⟩

/-- Every generation of the Unit Pool is in 1..1023. -/
def State.generationsInRange (s : State) : Prop := ∀ u, 1 ≤ s.generation u ∧ s.generation u ≤ 1023

/-- Clear pending stands only while the bar is FAULTED. -/
def Bar.clearSound (b : Bar) : Prop := b.clearPending = true → b.state = .faulted

/-- The swath pipeline's counts are within their ranges. -/
def Print.counted (x : Print) : Prop := x.inFlight.length ≤ 3 ∧ x.nextNumber ≤ 255 ∧ x.errorCount ≤ 255

/-- The Order Book's generations, its sequence counter and its scrap counts are within their ranges. -/
def OrderBook.inRange (b : OrderBook) : Prop :=
  (∀ i : OrderNo, 1 ≤ (tget b.orders i).generation ∧ (tget b.orders i).generation ≤ Config.orderGenerationMax)
    ∧ 1 ≤ b.sequence ∧ b.sequence ≤ Config.sequenceMax
    ∧ ∀ (n : LineNo) (l : Line), tget b.lines n = some l → l.scrap ≤ Config.scrapCountMax

/-- From `s` to `t`, by an operation of the station `w` or of the books: no table is written, no unit enters, every unit
that stays keeps its record, and each block's invariant is kept, the swath pipeline's by every station but Print. -/
structure Quiet (w : Holder) (s t : State) : Prop where
  time : t.time = s.time
  positions : ∀ p : PlatenNo, (tget t.ring.platens p).position = (tget s.ring.platens p).position
  ring : s.ring.sound → t.ring.sound
  shirts : ∀ u b, t.shirt u = some b → ∃ a, s.shirt u = some a ∧ a.kept b ∧ t.generation u = s.generation u
  generations : s.generationsInRange → t.generationsInRange
  exposures : s.exposuresBounded → t.exposuresBounded
  counters : s.book.inRange → t.book.inRange
  staged : stagedCount s ≤ 16 → stagedCount t ≤ 16
  load : { t.load with quiesce := s.load.quiesce } = s.load
  doses : t.pretreat.doses = s.pretreat.doses
  reservoir : s.pretreat.reservoir ≤ Config.reservoirMax → t.pretreat.reservoir ≤ Config.reservoirMax
  settings : t.bar.settings = s.bar.settings
  clear : s.bar.clearSound → t.bar.clearSound
  limit : t.print.watchdogLimit = s.print.watchdogLimit
  swaths : s.print.counted → t.print.counted
  profile : t.tunnel.profile = s.tunnel.profile
  tunnel : s.tunnelSound → t.tunnelSound
  transfer : s.transferFollows → t.transferFollows
  ports : s.portsBounded → t.portsBounded
  pipeline : w ≠ .print → s.pipelineSound → t.pipelineSound

theorem Shirt.kept.refl (a : Shirt) : a.kept a := by simp [Shirt.kept, UnitFlags.within]

theorem Shirt.kept.trans {a b c : Shirt} (h : a.kept b) (g : b.kept c) : a.kept c := by
  obtain ⟨h1, h2, h3, h4, h5, h6, ⟨f1, f2, f3, f4⟩, h8, h9, h10, h11⟩ := h
  obtain ⟨g1, g2, g3, g4, g5, g6, ⟨k1, k2, k3, k4⟩, g8, g9, g10, g11⟩ := g
  exact ⟨g1.trans h1, g2.trans h2, g3.trans h3, g4.trans h4, g5.trans h5, g6.trans h6,
    ⟨k1 ∘ f1, k2 ∘ f2, k3 ∘ f3, k4 ∘ f4⟩, fun f hf => g8 f (h8 f hf), g9 ∘ h9, g10 ∘ h10, g11 ∘ h11⟩

namespace Quiet

variable {w : Holder}

theorem refl (s : State) : Quiet w s s where
  time := rfl
  positions _ := rfl
  ring := id
  shirts _ b h := ⟨b, h, .refl b, rfl⟩
  generations := id
  exposures := id
  counters := id
  staged := id
  load := rfl
  doses := rfl
  reservoir := id
  settings := rfl
  clear := id
  limit := rfl
  swaths := id
  profile := rfl
  tunnel := id
  transfer := id
  ports := id
  pipeline _ := id

theorem trans {s t u : State} (a : Quiet w s t) (b : Quiet w t u) : Quiet w s u where
  time := b.time.trans a.time
  positions p := (b.positions p).trans (a.positions p)
  ring h := b.ring (a.ring h)
  shirts v c h := by
    obtain ⟨x, hx, kx, gx⟩ := b.shirts v c h
    obtain ⟨y, hy, ky, gy⟩ := a.shirts v x hx
    exact ⟨y, hy, ky.trans kx, gx.trans gy⟩
  generations h := b.generations (a.generations h)
  exposures h := b.exposures (a.exposures h)
  counters h := b.counters (a.counters h)
  staged h := b.staged (a.staged h)
  load := by rw [← a.load, ← b.load]
  doses := b.doses.trans a.doses
  reservoir h := b.reservoir (a.reservoir h)
  settings := b.settings.trans a.settings
  clear h := b.clear (a.clear h)
  limit := b.limit.trans a.limit
  swaths h := b.swaths (a.swaths h)
  profile := b.profile.trans a.profile
  tunnel h := b.tunnel (a.tunnel h)
  transfer h := b.transfer (a.transfer h)
  ports h := b.ports (a.ports h)
  pipeline hw h := b.pipeline hw (a.pipeline hw h)

end Quiet

/-! ### The blocks -/

section
variable {w : Holder} (s : State)

theorem setBook_quiet {v : OrderBook} (h : s.book.inRange → v.inRange) : Quiet w s (s.setBook v) :=
  { Quiet.refl (w := w) s with counters := h }

theorem setArtworks_quiet {v : Vector Artwork 64} (h : stagedCount s ≤ 16 → stagedCount (s.setArtworks v) ≤ 16) :
    Quiet w s (s.setArtworks v) :=
  { Quiet.refl (w := w) s with staged := h }

theorem setPack_quiet {v : Pack} (h : v.exits = s.pack.exits) : Quiet w s (s.setPack v) :=
  { Quiet.refl (w := w) s with
    tunnel := fun hs => by unfold State.tunnelSound at *; simpa only [State.setPack_pack, State.setPack_tunnel, h] using hs
    transfer := transferFollows_of_eq rfl h }

theorem setPorts_quiet {v : Ports} (h : s.portsBounded → (s.setPorts v).portsBounded) : Quiet w s (s.setPorts v) :=
  { Quiet.refl (w := w) s with ports := h }

theorem setLoad_quiet {v : LoadStation} (h : { v with quiesce := s.load.quiesce } = s.load) : Quiet w s (s.setLoad v) :=
  { Quiet.refl (w := w) s with load := h }

theorem setPretreat_quiet {v : Pretreat} (h : v.doses = s.pretreat.doses := by rfl)
    (hr : s.pretreat.reservoir ≤ Config.reservoirMax → v.reservoir ≤ Config.reservoirMax := by exact id) :
    Quiet w s (s.setPretreat v) :=
  { Quiet.refl (w := w) s with doses := h, reservoir := hr }

theorem setBar_quiet {v : Bar} (h : v.settings = s.bar.settings) (hc : s.bar.clearSound → v.clearSound) :
    Quiet w s (s.setBar v) :=
  { Quiet.refl (w := w) s with settings := h, clear := hc }

theorem setPrint_quiet {v : Print} (h : v.watchdogLimit = s.print.watchdogLimit := by rfl)
    (hc : s.print.counted → v.counted := by exact id) : Quiet .print s (s.setPrint v) :=
  { Quiet.refl (w := .print) s with limit := h, swaths := hc, pipeline := fun hw => absurd rfl hw }

theorem setTunnel_quiet {v : Tunnel} (h : v.profile = s.tunnel.profile)
    (ht : s.tunnelSound → (s.setTunnel v).tunnelSound) (hf : s.transferFollows → (s.setTunnel v).transferFollows) :
    Quiet w s (s.setTunnel v) :=
  { Quiet.refl (w := w) s with profile := h, tunnel := ht, transfer := hf }

/-! ### Ports and notices -/

theorem setPort_portsBounded {s : State} {p : Port} {x : PortState} (h : s.portsBounded) (hx : x.bounded) :
    (s.setPort p x).portsBounded := by
  intro q
  by_cases hq : q = p
  · subst hq; rwa [State.port_setPort_same]
  · rw [State.port_setPort_ne _ _ hq]; exact h q

theorem setPort_quiet {p : Port} {x : PortState} (h : (s.port p).bounded → x.bounded) : Quiet w s (s.setPort p x) :=
  setPorts_quiet s fun hs => setPort_portsBounded hs (h (hs p))

theorem PortState.join_bounded {x : PortState} (r : NoticeRecord) (h : x.bounded) : (x.join r).bounded := by
  obtain ⟨hi, hn, he⟩ := h
  unfold PortState.join
  split
  · next hlt => exact ⟨hi, by simpa using hlt, he⟩
  · exact ⟨hi, hn, he⟩

theorem post_quiet (p : Port) (n : Notice) : Quiet w s (post p n s) := setPort_quiet s (PortState.join_bounded _)

theorem send_quiet (p : Port) (f : Frame) : Quiet w s (s.send p f) := setPort_quiet s id

theorem without_quiet {p : Port} {f : Frame} {rest : List Frame} (hi : (s.port p).input = f :: rest) :
    Quiet w s (s.without p rest) := by
  refine setPort_quiet s fun ⟨h1, h2, h3⟩ => ⟨?_, h2, h3⟩
  rw [hi, List.length_cons] at h1
  exact Nat.le_of_succ_le h1

/-! ### The ring -/

/-- A release keeps the ring's invariant: it grants only where it leaves every hold clear. -/
theorem Ring.release_sound {r : Ring} (v : Holder) (h : r.sound) : (r.release v).sound := by
  obtain ⟨hgrant, hmoving, hpending⟩ := h
  rcases r.release_cases v with ⟨_, e⟩ | ⟨hv, e, hn⟩ | ⟨_, hc, _, _, e⟩ <;> rw [e]
  · exact ⟨hgrant, hmoving, hpending⟩
  · have held := Holds.allClear_eq_false_of_get hv
    have still : r.state = .still := by
      cases hs : r.state with
      | still => rfl
      | moving => rw [hmoving hs] at held; cases held
    have stays : r.state ≠ .moving := by rw [still]; simp
    refine ⟨hgrant, ⟨fun hm => absurd hm stays, fun hp => ?_⟩⟩
    by_contra hclear
    exact hn ⟨by simpa using hclear, hp, still⟩
  · exact ⟨by simp, fun _ => hc, by simp⟩

/-- The release of another station's hold leaves the Print station's. -/
theorem Ring.release_print {r : Ring} {v : Holder} (h : v ≠ .print) : (r.release v).holds.print = r.holds.print := by
  rcases r.release_cases v with ⟨_, e⟩ | ⟨_, e, _⟩ | ⟨_, _, _, _, e⟩ <;> rw [e] <;> cases v <;>
    first | rfl | exact absurd rfl h

/-- What leaves the Print station with its hold and its arrival alone keeps the pipeline's invariant. -/
theorem pipelineSound_of_eq {s t : State} (hp : t.print = s.print) (hr : s.ring.sound → t.ring.sound)
    (hh : t.ring.holds.print = s.ring.holds.print) (ha : t.ring.arrivals.print = s.ring.arrivals.print)
    (h : s.pipelineSound) : t.pipelineSound := by
  unfold State.pipelineSound at *
  rw [hp, hh, ha]
  exact ⟨hr h.1, h.2⟩

theorem setRing_quiet {v : Ring} (hp : ∀ p : PlatenNo, (tget v.platens p).position = (tget s.ring.platens p).position)
    (hs : s.ring.sound → v.sound) (hh : w ≠ .print → v.holds.print = s.ring.holds.print)
    (ha : w ≠ .print → v.arrivals.print = s.ring.arrivals.print) : Quiet w s (s.setRing v) :=
  { Quiet.refl (w := w) s with
    positions := hp, ring := hs, pipeline := fun hw => pipelineSound_of_eq rfl hs (hh hw) (ha hw) }

theorem releaseHold_quiet : Quiet w s (releaseHold w s) :=
  setRing_quiet s (fun _ => by rw [Ring.release_platens]) (Ring.release_sound w) Ring.release_print
    fun _ => by rw [Ring.release_arrivals]

theorem takeArrival_quiet : Quiet w s (takeArrival w s) :=
  setRing_quiet s (fun _ => rfl) id (fun _ => rfl) fun hw => by cases w <;> first | rfl | exact absurd rfl hw

theorem setPlatenUnit_quiet (p : PlatenNo) (u : Option UnitNo) : Quiet w s (setPlatenUnit p u s) :=
  setRing_quiet s (fun q => by rw [tget_tset]; split <;> simp [*]) id (fun _ => rfl) fun _ => rfl

/-! ### Unit records -/

/-- A revision of a unit's record that keeps what the unit keeps, and its exposures within their bounds. -/
theorem modifyShirt_quiet (u : UnitNo) {f : Shirt → Shirt}
    (hk : ∀ sh, s.shirt u = some sh → sh.kept (f sh) := by simp [Shirt.kept, UnitFlags.within])
    (hc : ∀ sh, s.shirt u = some sh → sh.cureBounded → (f sh).cureBounded := by exact fun _ _ => id) :
    Quiet w s (modifyShirt u f s) := by
  have same : ∀ v b, (modifyShirt u f s).shirt v = some b →
      ∃ a, s.shirt v = some a ∧ (b = a ∨ v = u ∧ b = f a) := by
    intro v b hb
    by_cases hv : v = u
    · subst hv
      rw [modifyShirt_shirt_same] at hb
      obtain ⟨a, ha, rfl⟩ := Option.map_eq_some_iff.mp hb
      exact ⟨a, ha, .inr ⟨rfl, rfl⟩⟩
    · rw [modifyShirt_shirt_ne _ _ hv] at hb
      exact ⟨b, hb, .inl rfl⟩
  have units : Quiet w s (s.setUnits (modifyShirt u f s).units) := { Quiet.refl (w := w) s with
    shirts := fun v b hb => by
      obtain ⟨a, ha, rfl | ⟨rfl, rfl⟩⟩ := same v b hb
      · exact ⟨_, ha, .refl _, modifyShirt_generation u v f s⟩
      · exact ⟨a, ha, hk a ha, modifyShirt_generation v v f s⟩
    generations := fun h v => by
      have := h v
      rwa [← modifyShirt_generation u v f s] at this
    exposures := fun h => by
      rw [exposuresBounded_iff] at *
      intro v b hb
      obtain ⟨a, ha, rfl | ⟨rfl, rfl⟩⟩ := same v b hb
      · exact h v _ ha
      · exact hc a ha (h v a ha) }
  have e : s.setUnits (modifyShirt u f s).units = modifyShirt u f s := by
    unfold modifyShirt; split <;> rfl
  rwa [e] at units

theorem setUnitState_quiet (u : UnitNo) (st : UnitState) : Quiet w s (setUnitState u st s) :=
  modifyShirt_quiet s u

theorem noteFault_quiet (u : UnitNo) (f : UnitFault) : Quiet w s (noteFault u f s) :=
  modifyShirt_quiet s u (fun sh _ => by
    simp only [Shirt.kept, UnitFlags.within, imp_self, true_and, and_true]
    intro g hg
    rw [hg]; rfl)

theorem nextUnitGeneration_inRange {g : Nat} (h : 1 ≤ g ∧ g ≤ 1023) :
    1 ≤ nextUnitGeneration g ∧ nextUnitGeneration g ≤ 1023 := by
  unfold nextUnitGeneration Config.unitGenerationMax
  split <;> omega

theorem clearUnit_quiet (u : UnitNo) : Quiet w s (clearUnit u s) := by
  have other : ∀ v b, (clearUnit u s).shirt v = some b → v ≠ u ∧ s.shirt v = some b := by
    intro v b hb
    have hv : v ≠ u := by rintro rfl; rw [clearUnit_shirt_same] at hb; cases hb
    exact ⟨hv, clearUnit_shirt_ne s hv ▸ hb⟩
  exact { Quiet.refl (w := w) s with
    shirts := fun v b hb => by
      obtain ⟨hv, hb⟩ := other v b hb
      exact ⟨b, hb, .refl b, clearUnit_generation_ne s hv⟩
    generations := fun h v => by
      by_cases hv : v = u
      · subst hv
        rw [clearUnit_generation_same]
        exact nextUnitGeneration_inRange (h v)
      · rw [clearUnit_generation_ne s hv]; exact h v
    exposures := fun h => by
      rw [exposuresBounded_iff] at *
      exact fun v b hb => h v b (other v b hb).2 }

/-! ### Quiesce states and the entry test -/

/-- What the tunnel's invariant reads, and what of it stays. -/
theorem tunnelSound_of_eq {s t : State} (h : s.tunnelSound) (hq : t.tunnel.queue.length ≤ Config.tunnelQueueMax)
    (he : t.pack.exits.length ≤ Config.exitListMax) (hz : t.tunnel.zones = s.tunnel.zones)
    (hp : t.tunnel.profile = s.tunnel.profile) (hr : t.tunnel.readyRun = s.tunnel.readyRun)
    (hy : t.tunnel.ready = s.tunnel.ready) : t.tunnelSound := by
  obtain ⟨_, _, h3⟩ := h
  exact ⟨hq, he, by rw [hz, hp, hr, hy]; exact h3⟩

@[simp] theorem retest_readyRun : (retest s).tunnel.readyRun = s.tunnel.readyRun := by
  unfold retest; split <;> simp

theorem retest_tunnelSound {s : State} (h : s.tunnelSound) : (retest s).tunnelSound :=
  tunnelSound_of_eq h (by simpa using h.1) (by simpa using h.2.1) (by simp) (by simp) (by simp) (by simp)

/-- The entry test made again touches the tunnel's own state alone. -/
theorem retest_eq : retest s = s.setTunnel (retest s).tunnel := by
  rcases retest_cases s with ⟨_, h⟩ | ⟨_, h⟩ <;> rw [h] <;> rfl

theorem retest_quiet : Quiet w s (retest s) := by
  have h := setTunnel_quiet (w := w) s (v := (retest s).tunnel) (retest_profile s)
    (fun h => retest_eq s ▸ retest_tunnelSound h) (fun h => retest_eq s ▸ retest_follows h.1)
  rwa [← retest_eq] at h

theorem completePretreatQuiesce_quiet : Quiet w s (completeQuiesce .pretreat s) := by
  rcases completeQuiesce_cases .pretreat s with ⟨_, h⟩ | ⟨_, h⟩ <;> rw [h]
  · exact .refl s
  · exact (setPretreat_quiet s).trans (post_quiet _ _ _)

theorem completePrintQuiesce_quiet : Quiet .print s (completeQuiesce .print s) := by
  rcases completeQuiesce_cases .print s with ⟨_, h⟩ | ⟨_, h⟩ <;> rw [h]
  · exact .refl s
  · exact (setPrint_quiet s).trans (post_quiet _ _ _)

end

end Sys2Proof.Machine
end

section
/-! The operations of the Pretreat station, the spray bar and the Print station, one after another, and what each keeps
(`Quiet`). -/

namespace Sys2Proof.Machine

/-! ### The spray bar -/

@[simp] theorem Bar.firstMove_settings (b : Bar) : b.firstMove.settings = b.settings := by
  unfold Bar.firstMove; split <;> rfl

@[simp] theorem Bar.firstMove_clearPending (b : Bar) : b.firstMove.clearPending = b.clearPending := by
  unfold Bar.firstMove; split <;> rfl

@[simp] theorem Bar.takePlan_settings (b : Bar) (p : SprayPlan) : (b.takePlan p).settings = b.settings := by
  unfold Bar.takePlan; split <;> simp

@[simp] theorem Bar.takePlan_clearPending (b : Bar) (p : SprayPlan) : (b.takePlan p).clearPending = b.clearPending := by
  unfold Bar.takePlan; split <;> simp

@[simp] theorem Bar.parkAndGo_settings (b : Bar) : b.parkAndGo.settings = b.settings := by
  unfold Bar.parkAndGo; split <;> simp [Bar.park]

@[simp] theorem Bar.parkAndGo_clearPending (b : Bar) : b.parkAndGo.clearPending = b.clearPending := by
  unfold Bar.parkAndGo; split <;> simp [Bar.park]

@[simp] theorem Bar.endSweep_settings (now : Word32) (b : Bar) : (b.endSweep now).settings = b.settings := by
  unfold Bar.endSweep; dsimp only; repeat' split
  all_goals rfl

@[simp] theorem Bar.endSweep_clearPending (now : Word32) (b : Bar) : (b.endSweep now).clearPending = b.clearPending := by
  unfold Bar.endSweep; dsimp only; repeat' split
  all_goals rfl

@[simp] theorem Bar.stop_settings (ms : Nat) (b : Bar) : (b.stop ms).settings = b.settings := by
  unfold Bar.stop; dsimp only; repeat' split
  all_goals rfl

/-- The stop leaves a FAULTED bar FAULTED, and clear pending as it stands. -/
theorem Bar.stop_clearSound {b : Bar} (ms : Nat) (h : b.clearSound) : (b.stop ms).clearSound := by
  have pending : (b.stop ms).clearPending = b.clearPending := by
    unfold Bar.stop; dsimp only; repeat' split
    all_goals rfl
  intro hp
  have faulted := h (pending ▸ hp)
  unfold Bar.stop
  simp [faulted]

section
variable {w : Holder} (s : State)

/-- A bar that is not FAULTED has no clear pending, so a change that keeps clear pending is lawful. -/
theorem setBar_quiet_of_ne_faulted {v : Bar} (hs : s.bar.state ≠ .faulted)
    (h : v.settings = s.bar.settings := by rfl) (hc : v.clearPending = s.bar.clearPending := by rfl) : Quiet w s (s.setBar v) :=
  setBar_quiet s h fun hsound hp => absurd (hsound (hc ▸ hp)) hs

theorem sweepEnd_quiet (h : sweepDue s = true) : Quiet w s (s.setBar (s.bar.endSweep s.time.now)) := by
  have hs : s.bar.state = .sweeping := by
    simp only [sweepDue, Bool.and_eq_true, decide_eq_true_eq] at h; exact h.1
  exact setBar_quiet_of_ne_faulted s (by simp [hs]) (by simp) (by simp)

theorem centringEnd_quiet (h : centringDue s = true) : Quiet w s (s.setBar s.bar.endCentring) := by
  have hs : s.bar.state = .centring := by
    simp only [centringDue, Bool.and_eq_true, decide_eq_true_eq] at h; exact h.1
  exact setBar_quiet_of_ne_faulted s (by simp [hs])

/-! ### The Pretreat station -/

theorem setPretreatState_quiet (st : PretreatState) (p : Option SprayPlan) : Quiet w s (setPretreatState st p s) :=
  setPretreat_quiet s

theorem pretreatRelease_quiet : Quiet .pretreat s (pretreatRelease s) :=
  (setPretreatState_quiet s _ _).trans (releaseHold_quiet _)

theorem postPretreated_quiet (u : UnitNo) : Quiet w s (postPretreated u s) := by
  unfold postPretreated
  split
  · exact post_quiet s _ _
  · exact .refl s

theorem passUnsprayed_quiet (u : UnitNo) : Quiet .pretreat s (passUnsprayed u s) :=
  (modifyShirt_quiet s u).trans ((pretreatRelease_quiet _).trans (postPretreated_quiet _ u))

theorem startSequence_quiet (u : UnitNo) (p : SprayPlan) (h : s.bar.available = true) :
    Quiet w s (startSequence u p s) := by
  have hs : s.bar.state ≠ .faulted := by simpa [Bar.available] using h
  unfold startSequence
  refine (setPretreat_quiet s ?_ ?_).trans ((modifyShirt_quiet _ u ?_ ?_).trans (setBar_quiet_of_ne_faulted _ ?_ ?_ ?_))
  · rfl
  · exact fun hr => (Nat.sub_le _ _).trans hr
  · intro sh _
    simp +contextual [Shirt.kept, UnitFlags.within]
  · exact fun _ _ => id
  · simpa using hs
  · simp
  · simp

theorem startTestFor_quiet (u : UnitNo) (sh : Shirt) : Quiet .pretreat s (startTestFor u sh s) := by
  unfold startTestFor
  split
  · exact setPretreatState_quiet s _ _
  · dsimp only
    split
    · exact passUnsprayed_quiet s u
    · split
      · exact setPretreatState_quiet s _ _
      · next ha =>
        split
        · unfold enterLowFluid
          dsimp only
          split
          · exact setPretreatState_quiet s _ _
          · exact (setPretreatState_quiet s _ _).trans (post_quiet _ _ _)
        · exact startSequence_quiet s u _ (by simpa using ha)

theorem pretreatStartTest_quiet : Quiet .pretreat s (pretreatStartTest s) := by
  unfold pretreatStartTest
  split
  · exact .refl s
  · split
    · exact startTestFor_quiet s _ _
    · exact .refl s

theorem pretreatArrival_quiet : Quiet .pretreat s (pretreatArrival s) := by
  unfold pretreatArrival
  split
  · exact .refl s
  · refine (takeArrival_quiet s).trans ?_
    dsimp only
    split
    · exact pretreatRelease_quiet _
    · split
      · exact pretreatRelease_quiet _
      · split
        · exact pretreatRelease_quiet _
        · exact startTestFor_quiet _ _ _

theorem setBypassed_quiet (u : UnitNo) : Quiet w s (setBypassed u s) :=
  modifyShirt_quiet s u

theorem refill_quiet (amount : Nat) :
    Quiet .pretreat s
      (if s.pretreat.state = .lowFluid then pretreatStartTest (addFluid amount s) else addFluid amount s) := by
  have add : Quiet .pretreat s (addFluid amount s) :=
    setPretreat_quiet s (hr := fun _ => Nat.min_le_right _ _)
  split
  · exact add.trans (pretreatStartTest_quiet _)
  · exact add

/-! ### The two together -/

theorem sequenceParked_quiet (p : SprayPlan) (h : s.bar.state ≠ .faulted) : Quiet .pretreat s (sequenceParked p s) :=
  (setBar_quiet_of_ne_faulted s h).trans ((setUnitState_quiet _ _ _).trans
    ((pretreatRelease_quiet _).trans ((postPretreated_quiet _ _).trans (completePretreatQuiesce_quiet _))))

theorem barInPosition_quiet : Quiet .pretreat s (barInPosition s) := by
  unfold barInPosition
  split
  · next hs =>
    have hs : s.bar.state ≠ .faulted := by simp [hs]
    split
    · exact setBar_quiet_of_ne_faulted s hs
    · split
      · split
        · exact setBar_quiet_of_ne_faulted s hs (by simp) (by simp)
        · exact sequenceParked_quiet s _ hs
      · exact setBar_quiet_of_ne_faulted s hs (by simp) (by simp)
    · exact .refl s
  · split
    · dsimp only
      have park : Quiet .pretreat s (s.setBar { s.bar.park with clearPending := false }) :=
        setBar_quiet s rfl fun _ => by simp [Bar.clearSound]
      split
      · exact park.trans (pretreatStartTest_quiet _)
      · exact park
    · exact .refl s
  all_goals exact .refl s

/-- A bar that fails is FAULTED, whatever is pending. -/
theorem fail_quiet : Quiet w s (s.setBar s.bar.fail) := setBar_quiet s rfl fun _ _ => rfl

theorem bareFault_quiet : Quiet .pretreat s (bareFault s) := by
  refine (fail_quiet s).trans (.trans ?_ (post_quiet _ _ _))
  split
  · exact setPretreatState_quiet _ _ _
  · exact .refl _

theorem sequenceFaulted_quiet (p : SprayPlan) : Quiet .pretreat s (sequenceFaulted p s) :=
  (fail_quiet s).trans ((noteFault_quiet _ _ _).trans ((setUnitState_quiet _ _ _).trans
    ((pretreatRelease_quiet _).trans ((completePretreatQuiesce_quiet _).trans (post_quiet _ _ _)))))

theorem barFault_quiet : Quiet .pretreat s (barFault s) := by
  unfold barFault
  split
  · split
    · refine Quiet.trans ?_ (post_quiet _ _ _)
      exact setBar_quiet s rfl fun _ => by simp [Bar.clearSound]
    · exact .refl s
  · exact bareFault_quiet s
  all_goals
    split
    · exact sequenceFaulted_quiet s _
    · exact bareFault_quiet s

theorem barClear_quiet (h : s.bar.state = .faulted) :
    Quiet w s (s.setBar { s.bar with clearPending := true, target := some .home }) :=
  setBar_quiet s rfl fun _ _ => h

/-! ### The Print station -/

theorem setPrintState_quiet (st : PrintState) : Quiet .print s (setPrintState st s) := setPrint_quiet s

theorem startWatchdog_quiet : Quiet .print s (startWatchdog s) := setPrint_quiet s

theorem stopWatchdog_quiet : Quiet .print s (stopWatchdog s) := setPrint_quiet s

theorem writePrintError_quiet (c : PrintCause) (t : Tag) (pl : Option SwathPlace) :
    Quiet .print s (writePrintError c t pl s) := by
  unfold writePrintError
  split
  · refine Quiet.trans ?_ (post_quiet _ _ _)
    exact setPrint_quiet s (hc := fun ⟨h1, h2, _⟩ => ⟨h1, h2, Nat.zero_le _⟩)
  · refine setPrint_quiet s rfl fun ⟨h1, h2, h3⟩ => ⟨h1, h2, ?_⟩
    dsimp only
    split <;> omega

theorem printStartTestFor_quiet (u : UnitNo) (sh : Shirt) : Quiet .print s (printStartTestFor u sh s) := by
  unfold printStartTestFor
  split
  · exact setPrintState_quiet s _
  · split
    · exact (setPrint_quiet s).trans
        ((post_quiet _ _ _).trans (startWatchdog_quiet _))
    · unfold waitArtwork
      dsimp only
      split
      · exact setPrintState_quiet s _
      · refine (setPrintState_quiet s .waitArtwork).trans (.trans ?_ (post_quiet _ _ _))
        exact setPrint_quiet _

theorem printStartTest_quiet : Quiet .print s (printStartTest s) := by
  unfold printStartTest
  split
  · exact .refl s
  · split
    · exact printStartTestFor_quiet s _ _
    · exact .refl s

theorem printRelease_quiet : Quiet .print s (printRelease s) :=
  (setPrint_quiet s).trans
    (releaseHold_quiet _)

theorem releasePrinted_quiet : Quiet .print s (releasePrinted s) := by
  unfold releasePrinted
  split
  · exact .refl s
  · exact (setUnitState_quiet s _ _).trans ((setPrint_quiet _).trans
      ((printRelease_quiet _).trans (completePrintQuiesce_quiet _)))

theorem printArrival_quiet : Quiet .print s (printArrival s) := by
  unfold printArrival
  split
  · exact .refl s
  · refine (takeArrival_quiet s).trans ?_
    dsimp only
    split
    · exact releaseHold_quiet _
    · split
      · exact releaseHold_quiet _
      · split
        · exact (noteFault_quiet _ _ _).trans (releaseHold_quiet _)
        · refine .trans (setPrint_quiet _ ?_ ?_) ((setUnitState_quiet _ _ _).trans (printStartTest_quiet _))
          · rfl
          · exact id

theorem acceptRegistered_quiet (u : UnitNo) (sh : Shirt) : Quiet .print s (acceptRegistered u sh s) := by
  unfold acceptRegistered
  dsimp only
  have entered : ∀ c, Quiet .print s
      ((modifyShirt u (fun x => { x with print := some { white := 0, colour := 0, fired := 0, dry := 0 } }) s).setPrint
        { (modifyShirt u (fun x => { x with print := some { white := 0, colour := 0, fired := 0, dry := 0 } }) s).print
          with cursor := c, watchdog := none, state := .passing }) := fun _ =>
    (modifyShirt_quiet s u).trans
      (setPrint_quiet _)
  split
  · exact (entered _).trans (releasePrinted_quiet _)
  · exact entered _

theorem acceptRegisterFault_quiet (u : UnitNo) : Quiet .print s (acceptRegisterFault u s) :=
  (noteFault_quiet s _ _).trans ((writePrintError_quiet _ _ _ _).trans
    ((stopWatchdog_quiet _).trans (releasePrinted_quiet _)))

theorem issueSwath_quiet (d : Design) (tag : Tag) (t : Traverse) (h : s.print.inFlight.length < 3) :
    Quiet .print s (issueSwath d tag t s).2 := by
  rw [issueSwath_eq]
  refine setPrint_quiet s rfl fun ⟨_, _, h3⟩ => ⟨?_, ?_, h3⟩
  · simp only [List.length_append, List.length_singleton]; omega
  · dsimp only; omega

theorem afterOldest_quiet {rest : List SwathOrder} (h : rest.length ≤ s.print.inFlight.length) :
    Quiet .print s (afterOldest rest s) := by
  unfold afterOldest
  have popped : Quiet .print s (s.setPrint { s.print with inFlight := rest }) :=
    setPrint_quiet s rfl fun ⟨h1, h2, h3⟩ => ⟨h.trans h1, h2, h3⟩
  dsimp only
  split
  · exact popped.trans (stopWatchdog_quiet _)
  · exact popped.trans (startWatchdog_quiet _)

theorem parkIfDrained_quiet : Quiet .print s (parkIfDrained s) := by
  unfold parkIfDrained
  split
  · exact setPrintState_quiet s _
  · exact .refl s

theorem abortPrint_quiet (o : SwathOrder) (f : UnitFault) (c : PrintCause) : Quiet .print s (abortPrint o f c s) := by
  have noted : Quiet .print s (if s.print.state = .passing then noteFault o.tag.unit f s else s) := by
    split
    · exact noteFault_quiet s _ _
    · exact .refl s
  exact noted.trans ((writePrintError_quiet _ _ _ _).trans ((setPrintState_quiet _ _).trans (parkIfDrained_quiet _)))

theorem creditSwath_quiet (o : SwathOrder) : Quiet w s (creditSwath o s) :=
  modifyShirt_quiet s _

theorem swathReported_quiet {o : SwathOrder} {rest : List SwathOrder} (result : Byte) (h : s.print.inFlight = o :: rest) :
    Quiet .print s (swathReported o rest result s) := by
  have shorter : rest.length ≤ s.print.inFlight.length := by simp [h]
  have failed : ∀ c, Quiet .print s (swathFailed o rest c s) := fun _ =>
    (afterOldest_quiet s shorter).trans (abortPrint_quiet _ _ _ _)
  unfold swathReported
  split
  · unfold swathOk
    dsimp only
    refine (creditSwath_quiet s o).trans ((afterOldest_quiet _ (by simpa [creditSwath] using shorter)).trans ?_)
    split
    · exact releasePrinted_quiet _
    · exact parkIfDrained_quiet _
  · split <;> exact failed _

theorem terminateOldest_quiet {o : SwathOrder} {rest : List SwathOrder} (h : s.print.inFlight = o :: rest) :
    Quiet .print s (terminateOldest o rest s) :=
  (setPrint_quiet s).trans
    ((afterOldest_quiet _ (by simp [h])).trans (abortPrint_quiet _ _ _ _))

theorem registrationTimeout_quiet (t : Tag) : Quiet .print s (registrationTimeout t s) := by
  unfold registrationTimeout
  exact (setPrint_quiet s).trans
    ((noteFault_quiet _ _ _).trans ((writePrintError_quiet _ _ _ _).trans (releasePrinted_quiet _)))

theorem watchdogExpiry_quiet : Quiet .print s (watchdogExpiry s) := by
  unfold watchdogExpiry
  split
  · split
    · exact registrationTimeout_quiet s _
    · exact .refl s
  · split
    · next h => exact terminateOldest_quiet s h
    · exact .refl s
  · split
    · next h => exact terminateOldest_quiet s h
    · exact .refl s
  all_goals exact .refl s

theorem readErrorRecord_quiet : Quiet .print s (s.setPrint { s.print with errorRecord := none, errorCount := 0 }) :=
  setPrint_quiet s rfl fun ⟨h1, h2, _⟩ => ⟨h1, h2, Nat.zero_le _⟩

theorem printWithdraw_quiet (u : UnitNo) (sh : Shirt) : Quiet .print s (printWithdraw u sh s) := by
  unfold printWithdraw
  dsimp only
  split
  · exact (printRelease_quiet s).trans (post_quiet _ _ _)
  · exact printRelease_quiet s

end

end Sys2Proof.Machine
end

section
/-! The books, the tunnel and the pack table, one operation after another, and what each keeps (`Quiet`). -/

namespace Sys2Proof.Machine

variable {w : Holder} (s : State)

/-! ### The books -/

/-- A book with its descriptors revised: the generations they then hold are asked for. -/
theorem OrderBook.inRange.of_generations {b b' : OrderBook} (h : b.inRange)
    (hg : ∀ i : OrderNo, 1 ≤ (tget b'.orders i).generation ∧ (tget b'.orders i).generation ≤ 255)
    (hs : b'.sequence = b.sequence) (hl : b'.lines = b.lines) : b'.inRange := by
  obtain ⟨_, h2⟩ := h
  rw [← hs, ← hl] at h2
  exact ⟨hg, h2⟩

theorem putOrder_quiet (i : OrderNo) (x : Option Order) : Quiet w s (putOrder i x s) :=
  setBook_quiet s fun h => h.of_generations (fun j => by
    rw [tget_tset]
    split
    · exact h.1 i
    · exact h.1 j) rfl rfl

/-- A line record written: the scrap count it then holds is asked for. -/
theorem putLine_quiet (n : LineNo) {x : Option Line} (hx : ∀ l, x = some l → s.book.inRange → l.scrap ≤ 255) :
    Quiet w s (putLine n x s) :=
  setBook_quiet s fun h => ⟨h.1, h.2.1, h.2.2.1, fun m l hm => by
    rw [tget_tset] at hm
    split at hm
    · exact hx l hm h
    · exact h.2.2.2 m l hm⟩

theorem leaveActive_quiet (i : OrderNo) : Quiet w s (leaveActive i s) := setBook_quiet s id

theorem joinActive_quiet (i : OrderNo) : Quiet w s (joinActive i s) := by
  unfold joinActive
  split
  · exact setBook_quiet s id
  · exact .refl s

theorem modifyOrder_quiet (i : OrderNo) (f : Order → Order) : Quiet w s (modifyOrder i f s) := by
  unfold modifyOrder
  split
  · exact putOrder_quiet s _ _
  · exact .refl s

/-- The staged count reads the staged flags alone. -/
theorem countOf_le_of_imp {α : Type} {n : Nat} {v v' : Vector α n} {q : α → Bool}
    (h : ∀ i, q (tget v' i) = true → q (tget v i) = true) : countOf v' q ≤ countOf v q :=
  (List.monotone_filter_right (List.finRange n) h).length_le

theorem putArtwork_quiet {a : ArtworkNo} {x : Artwork} (h : x.staged = true → (tget s.artworks a).staged = true) :
    Quiet w s (putArtwork a x s) := by
  refine setArtworks_quiet s fun hc => Nat.le_trans (countOf_le_of_imp fun i hi => ?_) hc
  simp only [State.setArtworks_artworks, tget_tset] at hi
  split at hi
  · next e => rw [e]; exact h hi
  · exact hi

theorem setRefs_quiet (a : ArtworkNo) (f : Nat → Nat) : Quiet w s (setRefs a f s) := putArtwork_quiet s id

/-- A descriptor staged while fewer than 16 are. -/
theorem stage_quiet {a : ArtworkNo} {x : Artwork} (h : stagedCount s < 16) : Quiet w s (putArtwork a x s) := by
  refine setArtworks_quiet s fun _ => ?_
  have one : stagedCount (s.setArtworks (tset s.artworks a x)) ≤ stagedCount s + 1 := by
    unfold stagedCount countOf
    have sub : ((List.finRange 64).filter fun i => (tget (tset s.artworks a x) i).staged)
        ⊆ a :: (List.finRange 64).filter fun i => (tget s.artworks i).staged := by
      intro i hi
      by_cases e : i = a
      · simp [e]
      · simpa [tget_tset_ne _ _ e, e] using hi
    exact (List.subperm_of_subset ((List.nodup_finRange 64).filter _) sub).length_le
  omega

theorem removeEntry_quiet (sl : SlotNo) : Quiet w s (removeEntry sl s) := setPack_quiet s rfl

theorem placeEntry_quiet (sl : SlotNo) (a : ArtworkNo) (k : Sku) : Quiet w s (placeEntry sl a k s) :=
  setPack_quiet s rfl

/-- What each step of a fold keeps, the fold keeps. -/
theorem foldl_quiet {α β : Type} (get : β → State) {f : β → α → β} (h : ∀ b a, Quiet w (get b) (get (f b a)))
    (l : List α) (b : β) : Quiet w (get b) (get (l.foldl f b)) := by
  induction l generalizing b with
  | nil => exact .refl _
  | cons a l ih => exact (h b a).trans (ih _)

theorem returnLine_quiet (n : LineNo) : Quiet w s (returnLine s n) := by
  unfold returnLine
  split
  · exact (setRefs_quiet s _ _).trans (putLine_quiet _ _ (by simp))
  · exact .refl s

theorem nextOrderGeneration_inRange {g : Nat} (h : 1 ≤ g ∧ g ≤ 255) :
    1 ≤ nextOrderGeneration g ∧ nextOrderGeneration g ≤ 255 := by
  unfold nextOrderGeneration Config.orderGenerationMax
  split <;> omega

theorem returnDescriptor_quiet (i : OrderNo) : Quiet w s (returnDescriptor i s) := by
  unfold returnDescriptor
  split
  · exact .refl s
  · refine (foldl_quiet id returnLine_quiet _ s).trans (setBook_quiet _ fun h => ?_)
    refine h.of_generations (fun j => ?_) rfl rfl
    rw [tget_tset]
    split
    · exact nextOrderGeneration_inRange (h.1 i)
    · exact h.1 j

theorem freeOrder_quiet (i : OrderNo) (c : FreedCause) : Quiet w s (freeOrder i c s) := by
  unfold freeOrder
  split
  · exact .refl s
  · exact (returnDescriptor_quiet s i).trans (post_quiet _ _ _)

theorem returnCheck_quiet (i : OrderNo) : Quiet w s (returnCheck i s) := by
  rcases returnCheck_cases i s with h | ⟨_, _, _, _, h⟩ <;> rw [h]
  · exact .refl s
  · exact freeOrder_quiet s _ _

theorem scrapLimitCheck_quiet (i : OrderNo) (q : Fin 8) (b a : Nat) : Quiet w s (scrapLimitCheck i q b a s) := by
  unfold scrapLimitCheck
  split
  · exact .refl s
  · split
    · exact (putOrder_quiet s _ _).trans ((leaveActive_quiet _ _).trans (post_quiet _ _ _))
    · exact .refl s

theorem completionCheck_quiet (i : OrderNo) : Quiet w s (completionCheck i s) := by
  unfold completionCheck
  split
  · exact .refl s
  · split
    · exact (putOrder_quiet s _ _).trans ((leaveActive_quiet _ _).trans ((post_quiet _ _ _).trans (post_quiet _ _ _)))
    · exact .refl s

theorem afterAdjust_quiet (i : OrderNo) (q : Fin 8) (d : Disposition) (b a : Line) :
    Quiet w s (afterAdjust i q d b a s) := by
  unfold afterAdjust
  split
  · exact completionCheck_quiet s i
  · split
    · split
      · exact returnCheck_quiet s i
      · exact scrapLimitCheck_quiet s _ _ _ _
    · exact .refl s
  · exact returnCheck_quiet s i
  · exact returnCheck_quiet s i
  · exact returnCheck_quiet s i
  · exact .refl s

theorem Line.adjusted_scrap {l : Line} (d : Disposition) (h : l.scrap ≤ 255) : (l.adjusted d).scrap ≤ 255 := by
  cases d
  case scrapped =>
    change (if l.scrap < 255 then l.scrap + 1 else l.scrap) ≤ 255
    split <;> omega
  all_goals exact h

theorem bookFreed_quiet (h : Handle) (q : Fin 8) (d : Disposition) : Quiet w s (bookFreed h q d s) := by
  unfold bookFreed
  split
  · exact .refl s
  · split
    · exact .refl s
    · next n l hl =>
      refine (putLine_quiet s _ fun x hx h => ?_).trans (afterAdjust_quiet _ _ _ _ _ _)
      obtain rfl := Option.some.inj hx
      exact Line.adjusted_scrap d (h.2.2.2 _ _ hl)

theorem releaseBin_quiet (b : BinNo) (i : OrderNo) : Quiet w s (releaseBin b i s) :=
  Quiet.trans (setPack_quiet s (by rfl)) (modifyOrder_quiet _ _ _)

theorem assignBin_quiet {s s1 : State} {i : OrderNo} {b : BinNo} (h : assignBin i s = some (b, s1)) : Quiet w s s1 := by
  unfold assignBin at h
  split at h
  · cases h
  · split at h
    · obtain ⟨-, rfl⟩ := Prod.mk.inj (Option.some.inj h)
      exact .refl _
    · split at h
      · cases h
      · obtain ⟨-, rfl⟩ := Prod.mk.inj (Option.some.inj h)
        exact Quiet.trans (setPack_quiet s (by rfl)) (putOrder_quiet _ _ _)

theorem assignBin_line {s s1 : State} {i : OrderNo} {b : BinNo} (h : assignBin i s = some (b, s1)) (n : LineNo) :
    s1.line n = s.line n := by
  unfold assignBin at h
  split at h
  · cases h
  · split at h
    · obtain ⟨-, rfl⟩ := Prod.mk.inj (Option.some.inj h); rfl
    · split at h
      · cases h
      · obtain ⟨-, rfl⟩ := Prod.mk.inj (Option.some.inj h); rfl

theorem takeOne_quiet (i : OrderNo) {n : LineNo} {l : Line} (sl : SlotNo) (b : BinNo) (hl : s.line n = some l) :
    Quiet w s (takeOne i n l sl b s) := by
  refine (removeEntry_quiet s sl).trans ((putLine_quiet _ n fun x hx h => ?_).trans
    ((post_quiet _ _ _).trans (completionCheck_quiet _ _)))
  obtain rfl := Option.some.inj hx
  exact h.2.2.2 n l hl

theorem uptakeLine_quiet (i : OrderNo) (n : LineNo) (fuel : Nat) (r : Uptake) :
    Quiet w r.state (uptakeLine i n fuel r).state := by
  induction fuel generalizing r with
  | zero => exact .refl _
  | succ fuel ih =>
    rw [uptakeLine_succ]
    split
    · exact .refl _
    · split
      · exact .refl _
      · next l hl =>
        split
        · exact .refl _
        · next sl _ =>
          split
          · exact .refl _
          · split
            · exact .refl _
            · next b s1 hb =>
              exact (assignBin_quiet hb).trans ((takeOne_quiet s1 i sl b (assignBin_line hb n ▸ hl)).trans
                (ih { state := takeOne i n l sl b s1, taken := r.taken + 1, stopped := false }))

theorem orphanUptake_quiet (i : OrderNo) : Quiet w s (orphanUptake i s).1 := by
  unfold orphanUptake
  split
  · exact .refl s
  · next o _ =>
    exact foldl_quiet Uptake.state (fun r n => uptakeLine_quiet i n 16 r) o.lines
      { state := s, taken := 0, stopped := false }

theorem shelveOne_quiet (a : ArtworkNo) (k : Sku) (r : Emptying) : Quiet w r.state (shelveOne a k r).state := by
  unfold shelveOne
  split
  · exact placeEntry_quiet _ _ _ _
  · exact .refl _

theorem shelveLine_quiet (r : Emptying) (l : Line) : Quiet w r.state (shelveLine r l).state :=
  foldl_quiet Emptying.state (fun r _ => shelveOne_quiet l.artwork l.sku r) (List.replicate l.good ()) r

theorem emptyBin_quiet (i : OrderNo) : Quiet w s (emptyBin i s) := by
  unfold emptyBin
  split
  · exact .refl s
  · split
    · exact .refl s
    · next o _ _ _ _ =>
      exact (foldl_quiet Emptying.state shelveLine_quiet (linesOf s o) { state := s, made := 0, wasted := 0 }).trans
        ((releaseBin_quiet _ _ _).trans (post_quiet _ _ _))

theorem cancelLive_quiet (i : OrderNo) (o : Order) : Quiet w s (cancelLive i o s) := by
  have withdrawn : Quiet w s (withdrawOrder i o s) :=
    (putOrder_quiet s _ _).trans ((leaveActive_quiet _ _).trans (emptyBin_quiet _ _))
  unfold cancelLive
  dsimp only
  split
  · exact withdrawn.trans (freeOrder_quiet _ _ _)
  · exact withdrawn.trans (modifyOrder_quiet _ _ _)

theorem takeLine_quiet (i : OrderNo) (e : LineEntry) (k : Fin 8) : Quiet w s (takeLine i s e k) := by
  unfold takeLine
  split
  · exact .refl s
  · refine (putLine_quiet s _ fun x hx _ => ?_).trans ((setRefs_quiet _ _ _).trans (modifyOrder_quiet _ _ _))
    obtain rfl := Option.some.inj hx
    exact Nat.zero_le _

theorem takeLines_quiet (i : OrderNo) (es : List LineEntry) : Quiet w s (takeLines i s es) :=
  foldl_quiet id (f := fun s (x : LineEntry × Fin 8) => takeLine i s x.1 x.2)
    (fun s x => takeLine_quiet s i x.1 x.2) _ s

theorem nextSequence_inRange {q : Nat} (h : 1 ≤ q ∧ q ≤ Config.sequenceMax) :
    1 ≤ nextSequence q ∧ nextSequence q ≤ Config.sequenceMax := by
  unfold nextSequence Config.sequenceMax at *
  split <;> omega

theorem acceptOrder_quiet (i : OrderNo) (x : Submission) : Quiet w s (acceptOrder i x s) := by
  refine (putOrder_quiet s _ _).trans ((setBook_quiet _ fun h => ?_).trans
    ((takeLines_quiet _ _ _).trans (joinActive_quiet _ _)))
  obtain ⟨hg, h1, h2, hl⟩ := h
  obtain ⟨n1, n2⟩ := nextSequence_inRange ⟨h1, h2⟩
  exact ⟨hg, n1, n2, hl⟩

/-! ### The tunnel queue and the exit list -/

/-- A change of the tunnel followed by the entry test: the station has then to hold its unit alone. -/
theorem retest_setTunnel_quiet {v : Tunnel} (h : v.profile = s.tunnel.profile)
    (ht : s.tunnelSound → (s.setTunnel v).tunnelSound) (hh : s.transferHeld → (s.setTunnel v).transferHeld) :
    Quiet w s (retest (s.setTunnel v)) := by
  have hq := setTunnel_quiet (w := w) s (v := (retest (s.setTunnel v)).tunnel) ((retest_profile _).trans h)
    (fun hs => retest_eq (s.setTunnel v) ▸ retest_tunnelSound (ht hs))
    (fun hs => retest_eq (s.setTunnel v) ▸ retest_follows (hh hs.1))
  rw [retest_eq (s.setTunnel v)]
  exact hq

/-- A change of the exit list followed by the entry test. -/
theorem retest_setPack_quiet {v : Pack} (h : v.exits.length ≤ Config.exitListMax ∨ v.exits.length ≤ s.pack.exits.length) :
    Quiet w s (retest (s.setPack v)) := by
  have bound : s.tunnelSound → v.exits.length ≤ Config.exitListMax := fun hs => h.elim id fun h => h.trans hs.2.1
  have hq := { Quiet.refl (w := w) s with
    profile := retest_profile (s.setPack v)
    tunnel := fun hs => retest_eq (s.setPack v) ▸
      retest_tunnelSound (tunnelSound_of_eq (t := s.setPack v) hs hs.1 (bound hs) rfl rfl rfl rfl)
    transfer := fun hs => retest_eq (s.setPack v) ▸ retest_follows (s := s.setPack v) hs.1 :
      Quiet w s ((s.setPack v).setTunnel (retest (s.setPack v)).tunnel) }
  rwa [← retest_eq] at hq

theorem retest_post (p : Port) (n : Notice) : retest (post p n s) = post p n (retest s) := by
  rcases retest_cases s with ⟨h, e⟩ | ⟨h, e⟩
  · rcases retest_cases (post p n s) with ⟨_, e'⟩ | ⟨h', _⟩
    · rw [e, e']
    · exact absurd h h'
  · rcases retest_cases (post p n s) with ⟨h', _⟩ | ⟨_, e'⟩
    · exact absurd h' h
    · rw [e, e']; rfl

theorem leaveQueue_quiet (u : UnitNo) : Quiet w s (leaveQueue u s) := by
  have shorter : (s.tunnel.queue.filter fun r => decide (r.unit ≠ u)).length ≤ s.tunnel.queue.length :=
    List.length_filter_le _ _
  unfold leaveQueue
  split
  · dsimp only
    split
    · rcases completeQuiesce_cases .tunnel
        (s.setTunnel { s.tunnel with queue := s.tunnel.queue.filter fun r => decide (r.unit ≠ u) }) with
        ⟨_, e⟩ | ⟨_, e⟩ <;> rw [e]
      · exact retest_setTunnel_quiet s rfl
          (fun hs => tunnelSound_of_eq hs (shorter.trans hs.1) hs.2.1 rfl rfl rfl rfl) id
      · rw [retest_post]
        refine Quiet.trans ?_ (post_quiet _ _ _)
        exact retest_setTunnel_quiet s rfl
          (fun hs => tunnelSound_of_eq hs (shorter.trans hs.1) hs.2.1 rfl rfl rfl rfl) id
    · exact retest_setTunnel_quiet s rfl
        (fun hs => tunnelSound_of_eq hs (shorter.trans hs.1) hs.2.1 rfl rfl rfl rfl) id
  · exact .refl s

theorem joinQueue_quiet (u : UnitNo) (h : s.tunnel.queue.length < 10) : Quiet w s (joinQueue u s) :=
  retest_setTunnel_quiet s rfl
    (fun hs => tunnelSound_of_eq hs (by simp [Config.tunnelQueueMax]; omega) hs.2.1 rfl rfl rfl rfl) id

theorem leaveExits_quiet (u : UnitNo) : Quiet w s (leaveExits u s) := by
  unfold leaveExits
  split
  · exact retest_setPack_quiet s (.inr (List.length_filter_le _ _))
  · exact .refl s

/-- A unit's record and the exit list change apart. -/
theorem modifyShirt_setPack (u : UnitNo) (f : Shirt → Shirt) (v : Pack) :
    modifyShirt u f (s.setPack v) = (modifyShirt u f s).setPack v := by
  have h : (s.setPack v).shirt u = s.shirt u := rfl
  unfold modifyShirt
  rw [h]
  split <;> rfl

theorem joinExits_quiet (u : UnitNo) (h : s.pack.exits.length < 16) : Quiet w s (joinExits u s) := by
  unfold joinExits setUnitState
  rw [modifyShirt_setPack]
  refine (setUnitState_quiet s u .exited).trans (retest_setPack_quiet _ (.inl ?_))
  simp [Config.exitListMax]; omega

theorem leavePlaten_quiet (u : UnitNo) : Quiet w s (leavePlaten u s) := by
  unfold leavePlaten
  split
  · exact (setPlatenUnit_quiet s _ _).trans (modifyShirt_quiet _ _)
  · exact .refl s

theorem leavePlace_quiet (u : UnitNo) : Quiet w s (leavePlace u s) :=
  (leavePlaten_quiet s u).trans ((leaveQueue_quiet _ u).trans (leaveExits_quiet _ u))

theorem freeUnit_quiet (d : Disposition) (u : UnitNo) : Quiet w s (freeUnit d u s) := by
  unfold freeUnit
  split
  · exact .refl s
  · exact (leavePlace_quiet s u).trans ((bookFreed_quiet _ _ _ _).trans (clearUnit_quiet _ u))

theorem loseUnit_quiet (u : UnitNo) (r : LostReason) : Quiet w s (loseUnit u r s) := by
  unfold loseUnit
  split
  · exact leaveQueue_quiet s u
  · exact (freeUnit_quiet s .lost u).trans (post_quiet _ _ _)

/-! ### The Tunnel station's entries and exits -/

theorem tunnelRelease_quiet : Quiet .tunnel s (tunnelRelease s) := by
  refine Quiet.trans ?_ (releaseHold_quiet _)
  refine setTunnel_quiet s rfl (fun hs => ?_) fun _ => ?_
  · exact tunnelSound_of_eq hs hs.1 hs.2.1 rfl rfl rfl rfl
  · exact ⟨by simp, fun h => absurd rfl h⟩

theorem tunnelArrival_quiet : Quiet .tunnel s (tunnelArrival s) := by
  unfold tunnelArrival
  split
  · exact .refl s
  · refine (takeArrival_quiet s).trans ?_
    dsimp only
    split
    · exact releaseHold_quiet _
    · exact setTunnel_quiet _ rfl (fun hs => tunnelSound_of_eq hs hs.1 hs.2.1 rfl rfl rfl rfl)
        fun _ => tunnelHold_follows _ _

theorem entryRecord_bounded (pr : CureProfile) (sh : Shirt) : (entryRecord pr sh).bounded := by
  have required : (if sh.fault.isSome = true then 0 else requiredExposure pr sh) ≤ 65535 := by
    split
    · omega
    · exact Nat.min_le_right _ _
  refine ⟨Nat.zero_le _, fun r hr => ?_, fun r hr => ?_⟩
  · obtain rfl := Option.some.inj hr; exact required
  · obtain rfl := Option.some.inj hr; exact Nat.min_le_right _ _

theorem unmeasuredRecord_bounded (sh : Shirt) : (unmeasuredRecord sh).bounded :=
  ⟨Nat.zero_le _, by simp [unmeasuredRecord], by simp [unmeasuredRecord]⟩

theorem enterQueue_quiet (u : UnitNo) (forced : Bool) (h : s.tunnel.queue.length < 10) :
    Quiet w s (enterQueue u forced s) := by
  unfold enterQueue
  refine (modifyShirt_quiet s u (fun _ _ => ?_) fun sh _ _ c hc => ?_).trans (joinQueue_quiet _ u (by simpa using h))
  · simp +contextual [Shirt.kept, UnitFlags.within]
  · obtain rfl := Option.some.inj hc
    exact entryRecord_bounded _ _

theorem forceToExits_quiet (u : UnitNo) (h : s.pack.exits.length < 16) : Quiet w s (forceToExits u s) := by
  unfold forceToExits
  refine (modifyShirt_quiet s u (hc := fun sh _ _ c hc => ?_)).trans (joinExits_quiet _ u (by simpa using h))
  obtain rfl := Option.some.inj hc
  exact unmeasuredRecord_bounded _

theorem forcedEntry_quiet (u : UnitNo) : Quiet w s (forcedEntry u s) := by
  unfold forcedEntry
  split
  · next h => exact enterQueue_quiet s u true h.1
  · split
    · next h => exact forceToExits_quiet s u h
    · exact loseUnit_quiet s u _

theorem liftUnit_quiet (u : UnitNo) : Quiet .tunnel s (liftUnit u s) := by
  unfold liftUnit
  dsimp only
  split
  · exact (leavePlaten_quiet s u).trans (tunnelRelease_quiet _)
  · exact leavePlaten_quiet s u

@[simp] theorem liftUnit_queue (u : UnitNo) : (liftUnit u s).tunnel.queue = s.tunnel.queue := by
  unfold liftUnit; dsimp only; split <;> simp [tunnelRelease]

theorem tunnelEntry_quiet : Quiet .tunnel s (tunnelEntry s) := by
  unfold tunnelEntry
  split
  · exact post_quiet s _ _
  · next u _ =>
    split
    · next h =>
      obtain ⟨_, _, room, _⟩ := (entryTest_iff s).mp h
      exact (liftUnit_quiet s u).trans (enterQueue_quiet _ _ _ (by simpa using room))
    · exact (liftUnit_quiet s u).trans (forcedEntry_quiet _ _)

theorem missingGarments_quiet (n : Nat) : Quiet w s (missingGarments n s) := by
  induction n generalizing s with
  | zero => exact .refl s
  | succ n ih =>
    unfold missingGarments
    split
    · exact .refl s
    · split
      · exact (loseUnit_quiet s _ _).trans (ih _)
      · exact .refl s

theorem beltStep_quiet : Quiet w s (beltStep s) := by
  refine Quiet.trans (t := s.setTunnel { s.tunnel with belt := s.tunnel.belt + 1 }) ?_ (missingGarments_quiet _ _)
  exact setTunnel_quiet s rfl id id

theorem exitUnit_quiet (u : UnitNo) (h : s.pack.exits.length < 16) : Quiet w s (exitUnit u s) := by
  refine (leaveQueue_quiet s u).trans ((joinExits_quiet _ u (by simpa using h)).trans
    (modifyShirt_quiet _ u (hc := fun sh _ hb c hc => ?_)))
  obtain ⟨c', hc', rfl⟩ := Option.map_eq_some_iff.mp hc
  exact hb c' hc'

theorem tunnelExit_quiet : Quiet w s (tunnelExit s) := by
  unfold tunnelExit
  split
  · exact post_quiet s _ _
  · split
    · exact post_quiet s _ _
    · split
      · next h => exact exitUnit_quiet s _ h
      · exact loseUnit_quiet s _ _

theorem recured_bounded {pr : CureProfile} {sh : Shirt} {c : CureRecord} (h : c.bounded) : (recured pr sh c).bounded := by
  unfold recured
  split
  · refine ⟨h.1, fun r hr => ?_, fun r hr => ?_⟩ <;> obtain rfl := Option.some.inj hr <;> exact Nat.min_le_right _ _
  all_goals exact h

theorem acceptRecure_quiet {u : UnitNo} {sh : Shirt} {c : CureRecord} (hsh : s.shirt u = some sh) (hc : sh.cure = some c)
    (h : s.tunnel.queue.length < 10) : Quiet w s (acceptRecure u (recured s.tunnel.profile sh c) s) := by
  refine (leaveExits_quiet s u).trans (.trans ?_ (joinQueue_quiet _ u (by simpa using h)))
  refine modifyShirt_quiet _ u (hc := fun x hx hb c' hc' => ?_)
  obtain rfl := Option.some.inj hc'
  rw [leaveExits_shirt, hsh] at hx
  obtain rfl := Option.some.inj hx
  exact recured_bounded (hb c hc)

/-! ### Zone readings and the cure tick -/

theorem putZone_quiet (z : ZoneNo) {x : Zone} (h : (tget s.tunnel.zones z).sound → x.sound) :
    Quiet w s (putZone z x s) :=
  setTunnel_quiet s rfl (fun ⟨h1, h2, h3, h4⟩ => ⟨h1, h2, fun z' => by
    simp only [State.setTunnel_tunnel, tget_tset]
    split
    · exact h (h3 z)
    · exact h3 z', h4⟩) id

theorem mapZones_quiet {f : Zone → Zone} (h : ∀ x, x.sound → (f x).sound) : Quiet w s (mapZones f s) :=
  setTunnel_quiet s rfl (fun ⟨h1, h2, h3, h4⟩ => ⟨h1, h2, fun z => by
    simp only [State.setTunnel_tunnel, tget_tmap]
    exact h _ (h3 z), h4⟩) id

theorem Zone.hear_sound {x : Zone} (h : x.sound) : x.hear.sound := by
  obtain ⟨h1, h2, _, h4⟩ := h
  exact ⟨h1, h2, Nat.zero_le _, h4⟩

/-- A zone that becomes STALE, its stale count begun. -/
theorem Zone.stale_sound {x : Zone} (h : x.sound) : { x with state := .stale, staleTicks := 0 : Zone }.sound := by
  obtain ⟨h1, h2, h3, _, h5, h6, _⟩ := h
  exact ⟨h1, h2, h3, Nat.zero_le _, h5, h6, by simp⟩

theorem Zone.valid_sound {x : Zone} {r : Nat} (hr : r ≤ 1022) (h : x.sound) : (x.valid r).sound := by
  have reading : ∀ n, some r = some n → n ≤ 1022 := fun n e => Option.some.inj e ▸ hr
  obtain ⟨_, h2, _, h4, h5, h6, h7⟩ := h
  by_cases hx : x.state = .live
  · rw [Zone.valid_of_live hx]
    exact ⟨reading, h2, Nat.zero_le _, h4, h5, h6, h7⟩
  · rw [Zone.valid_of_ne_live hx]
    exact ⟨reading, h2, Nat.zero_le _, Nat.zero_le _, h5, h6, by simp⟩

theorem zoneReading_quiet (z : ZoneNo) (reading : BitVec 10) : Quiet w s (zoneReading z reading s) := by
  unfold zoneReading
  dsimp only
  split
  · split
    · exact (putZone_quiet s z fun h => Zone.stale_sound (Zone.hear_sound h)).trans (post_quiet _ _ _)
    all_goals exact putZone_quiet s z Zone.hear_sound
  · next h =>
    have bound : reading.toNat ≤ 1022 := by
      have lt := reading.isLt
      have ne : reading.toNat ≠ 1023 := fun e => h (eq_faultReading_iff.mpr e)
      omega
    exact putZone_quiet s z (Zone.valid_sound bound)

theorem Zone.takeTemperature_sound {x : Zone} (h : x.sound) : x.takeTemperature.sound := by
  obtain ⟨h1, h2, h3⟩ := h
  unfold Zone.takeTemperature
  split
  · next r hr =>
    have hr := h1 r hr
    exact ⟨h1, by dsimp only; omega, h3⟩
  · exact ⟨h1, h2, h3⟩

theorem Zone.missed_sound {x : Zone} {n : Nat} (hn : n ≤ Config.missedMax) (h : x.sound) :
    { x with missed := n : Zone }.sound := by
  obtain ⟨h1, h2, _, h4⟩ := h
  exact ⟨h1, h2, hn, h4⟩

theorem absenceTick_quiet (z : ZoneNo) : Quiet w s (absenceTick z s) := by
  unfold absenceTick
  dsimp only
  split
  · exact .refl s
  · split
    · exact (putZone_quiet s z fun h => Zone.stale_sound (Zone.missed_sound (Nat.min_le_right _ _) h)).trans (post_quiet _ _ _)
    · exact putZone_quiet s z (Zone.missed_sound (Nat.min_le_right _ _))

theorem staleTick_quiet (z : ZoneNo) : Quiet w s (staleTick z s) := by
  unfold staleTick
  dsimp only
  split
  · split
    · next hlt =>
      refine putZone_quiet s z fun ⟨h1, h2, h3, _, h5⟩ => ⟨h1, h2, h3, ?_, h5⟩
      exact Nat.le_of_lt hlt
    · refine Quiet.trans ?_ (post_quiet _ _ _)
      exact putZone_quiet s z fun ⟨h1, h2, h3, _, _, _, _⟩ => ⟨h1, h2, h3, Nat.le_refl _, by simp, by simp, by simp⟩
  · exact .refl s

theorem controlLaw_le (duty setpoint temperature gain : Nat) : controlLaw duty setpoint temperature gain ≤ 255 := by
  unfold controlLaw; omega

theorem Zone.revised_sound {x : Zone} (pr : CureProfile) (z : ZoneNo) (hx : x.state = .live) (h : x.sound) :
    (x.revised pr z).sound := by
  obtain ⟨h1, h2, h3, h4, _, _, _⟩ := h
  refine ⟨h1, h2, h3, h4, ?_, fun hot => ?_, fun hl => ?_⟩
  · simp only [Zone.revised]; split
    · omega
    · exact controlLaw_le _ _ _ _
  · exact if_pos hot
  · simp [Zone.revised, hx] at hl

theorem dutyTick_quiet (z : ZoneNo) : Quiet w s (dutyTick z s) := by
  unfold dutyTick
  dsimp only
  split
  · next hx =>
    have revised := putZone_quiet (w := w) s z (Zone.revised_sound s.tunnel.profile z hx)
    split
    · exact revised.trans (post_quiet _ _ _)
    · exact revised
  · exact .refl s
  · exact putZone_quiet s z fun ⟨h1, h2, h3, h4, _, _, h7⟩ =>
      ⟨h1, h2, h3, h4, by simp, by simp, fun hl => ⟨rfl, (h7 hl).2⟩⟩

theorem eachZone_quiet {f : ZoneNo → State → State} (h : ∀ s z, Quiet w s (f z s)) : Quiet w s (eachZone f s) :=
  foldl_quiet id h _ s

theorem exposeOne_quiet (r : QueueRecord) : Quiet w s (exposeOne s r) := by
  unfold exposeOne
  refine modifyShirt_quiet s _ (hc := fun sh _ hb c hc => ?_)
  obtain ⟨c', hc', rfl⟩ := Option.map_eq_some_iff.mp hc
  obtain ⟨_, h2⟩ := hb c' hc'
  exact ⟨Nat.min_le_right _ _, h2⟩

theorem addExposure_quiet : Quiet w s (addExposure s) := foldl_quiet id exposeOne_quiet s.tunnel.queue s

theorem reviseSensors_quiet : Quiet w s (reviseSensors s) :=
  (eachZone_quiet s absenceTick_quiet).trans
    ((mapZones_quiet _ (by exact fun _ h => h)).trans (eachZone_quiet _ staleTick_quiet))

theorem readyTest_quiet : Quiet w s (readyTest s) := by
  unfold readyTest
  split
  · exact .refl s
  · next hr =>
    split
    · exact setTunnel_quiet s rfl
        (fun ⟨h1, h2, h3, h4, _, _⟩ => ⟨h1, h2, h3, h4, by simp, by simp [Config.readyTicks, hr]⟩) id
    · split
      · next hlt =>
        exact setTunnel_quiet s rfl
          (fun ⟨h1, h2, h3, h4, _, _⟩ => ⟨h1, h2, h3, h4, Nat.le_of_lt hlt, by
            simp only [State.setTunnel_tunnel, hr]; simp only [Bool.false_eq_true, iff_false]; omega⟩) id
      · rw [retest_post]
        refine Quiet.trans ?_ (post_quiet _ _ _)
        exact retest_setTunnel_quiet s rfl
          (fun ⟨h1, h2, h3, h4, _, _⟩ => ⟨h1, h2, h3, h4, Nat.le_refl _, by simp⟩) id

theorem cureTick_quiet : Quiet w s (cureTick s) := by
  have timer : Quiet w s (s.setTunnel { s.tunnel with tickStart := s.time.now }) := setTunnel_quiet s rfl id id
  exact timer.trans ((mapZones_quiet _ fun _ => Zone.takeTemperature_sound).trans ((reviseSensors_quiet _).trans
    ((addExposure_quiet _).trans ((eachZone_quiet _ dutyTick_quiet).trans (readyTest_quiet _)))))

/-! ### Quiesce and resume, and the station's side of a scrap -/

/-- The holder whose station is named, for the operations of a station; the Load station has no hold of its own. -/
def Station.holder : Station → Holder
  | .load | .pretreat => .pretreat
  | .print => .print
  | .tunnel => .tunnel

theorem setQuiesceLoad_quiet (q : Quiesce) : Quiet w s (setQuiesce .load q s) := setLoad_quiet s rfl

theorem restUnit_setQuiesce_quiet (st : Station) (q : Quiesce) :
    Quiet st.holder s (restUnit st (setQuiesce st q s)) := by
  cases st with
  | load => exact setQuiesceLoad_quiet s q
  | pretreat =>
    unfold restUnit setQuiesce
    dsimp only
    split
    · exact (setPretreat_quiet s).trans (setPretreatState_quiet _ _ _)
    · exact setPretreat_quiet s
  | print =>
    unfold restUnit setQuiesce
    dsimp only
    split
    · exact (setPrint_quiet s).trans (setPrintState_quiet _ _)
    · exact setPrint_quiet s
  | tunnel =>
    exact retest_setTunnel_quiet s rfl (fun hs => tunnelSound_of_eq hs hs.1 hs.2.1 rfl rfl rfl rfl) id

theorem tunnelResumed_quiet (p : Port) (n : Notice) (q : Quiesce) :
    Quiet w s (retest (post p n (setQuiesce .tunnel q s))) := by
  rw [retest_post]
  refine Quiet.trans ?_ (post_quiet _ _ _)
  exact retest_setTunnel_quiet s rfl (fun hs => tunnelSound_of_eq hs hs.1 hs.2.1 rfl rfl rfl rfl) id

theorem resumeWorking_quiet (st : Station) (n : Notice) :
    Quiet st.holder s (resumeWorking st (post .order n (setQuiesce st .running s))) := by
  cases st with
  | load => exact (setQuiesceLoad_quiet s _).trans (post_quiet _ _ _)
  | pretreat => exact (setPretreat_quiet s).trans (post_quiet _ _ _)
  | print => exact (setPrint_quiet s).trans (post_quiet _ _ _)
  | tunnel => exact tunnelResumed_quiet s _ _ _

theorem beginHeld_quiet (st : Station) (n : Notice) :
    Quiet st.holder s (beginHeld st (post .order n (setQuiesce st .running s))) := by
  cases st with
  | load => exact (setQuiesceLoad_quiet s _).trans (post_quiet _ _ _)
  | pretreat =>
    have resumed : Quiet .pretreat s (post .order n (setQuiesce .pretreat .running s)) :=
      (setPretreat_quiet s).trans (post_quiet _ _ _)
    unfold beginHeld
    dsimp only
    split
    · exact resumed.trans (pretreatStartTest_quiet _)
    · exact resumed
  | print =>
    have resumed : Quiet .print s (post .order n (setQuiesce .print .running s)) :=
      (setPrint_quiet s).trans (post_quiet _ _ _)
    unfold beginHeld
    dsimp only
    split
    · exact resumed.trans (printStartTest_quiet _)
    · exact resumed
  | tunnel => exact tunnelResumed_quiet s _ _ _

/-- The station's side of a scrap, by the station that lets the unit go. -/
theorem scrapStation_quiet (u : UnitNo) (sh : Shirt) : ∃ v, Quiet v s (scrapStation u sh s) := by
  unfold scrapStation
  split
  · exact ⟨_, pretreatRelease_quiet s⟩
  · split
    · exact ⟨_, printWithdraw_quiet s u sh⟩
    · split
      · exact ⟨_, tunnelRelease_quiet s⟩
      · exact ⟨.tunnel, .refl s⟩

end Sys2Proof.Machine
end

section
/-! The swath pipeline's invariant through the operations of the Print station; `Quiet` keeps it through all others. -/

namespace Sys2Proof.Machine

/-! ### What the invariant reads -/

/-- From `s` to `t` nothing changes that the pipeline's invariant reads. -/
structure Steady (s t : State) : Prop where
  ring : t.ring = s.ring
  state : t.print.state = s.print.state
  held : t.print.held = s.print.held
  terminated : t.print.terminated = s.print.terminated
  inFlight : t.print.inFlight = s.print.inFlight

/-- The Print station has a unit, which its hold keeps, and its swath numbers are within 3. -/
structure State.engaged (s : State) : Prop where
  ring : s.ring.sound
  held : s.print.held.isSome = true
  hold : s.ring.holds.print = true
  arrival : s.ring.arrivals.print = none
  swaths : s.print.terminated.length + s.print.inFlight.length ≤ 3

theorem Steady.refl (s : State) : Steady s s := ⟨rfl, rfl, rfl, rfl, rfl⟩

theorem Steady.trans {s t u : State} (a : Steady s t) (b : Steady t u) : Steady s u :=
  ⟨b.ring.trans a.ring, b.state.trans a.state, b.held.trans a.held, b.terminated.trans a.terminated,
    b.inFlight.trans a.inFlight⟩

theorem Steady.pipeline {s t : State} (e : Steady s t) (h : s.pipelineSound) : t.pipelineSound := by
  unfold State.pipelineSound at *
  rwa [e.ring, e.state, e.held, e.terminated, e.inFlight]

theorem Steady.engaged {s t : State} (e : Steady s t) (h : s.engaged) : t.engaged where
  ring := by rw [e.ring]; exact h.ring
  held := by rw [e.held]; exact h.held
  hold := by rw [e.ring]; exact h.hold
  arrival := by rw [e.ring]; exact h.arrival
  swaths := by rw [e.terminated, e.inFlight]; exact h.swaths

theorem State.pipelineSound.engaged {s : State} (h : s.pipelineSound) (hs : s.print.state ≠ .idle) : s.engaged := by
  obtain ⟨hring, hheld, hhold, _, hsum, _, _⟩ := h
  exact ⟨hring, hheld.mp hs, (hhold hs).1, (hhold hs).2, hsum⟩

theorem State.pipelineSound.drained {s : State} (h : s.pipelineSound) (hp : s.print.state ≠ .passing)
    (ha : s.print.state ≠ .aborting) : s.print.inFlight = [] := by
  obtain ⟨_, _, _, _, _, _, hdrained⟩ := h
  exact hdrained hp ha

theorem State.engaged.pipeline {s : State} (h : s.engaged) (hs : s.print.state ≠ .idle)
    (ht : s.print.state = .registering ∨ s.print.state = .passing → s.print.terminated = [])
    (hi : s.print.state ≠ .passing → s.print.state ≠ .aborting → s.print.inFlight = []) : s.pipelineSound :=
  ⟨h.ring, ⟨fun _ => h.held, fun _ => hs⟩, fun _ => ⟨h.hold, h.arrival⟩, fun _ => h.hold, h.swaths, ht, hi⟩

/-! ### What is steady -/

theorem modifyShirt_steady (u : UnitNo) (f : Shirt → Shirt) (s : State) : Steady s (modifyShirt u f s) := by
  constructor <;> simp

theorem noteFault_steady (u : UnitNo) (f : UnitFault) (s : State) : Steady s (noteFault u f s) :=
  modifyShirt_steady u _ s

theorem post_steady (p : Port) (n : Notice) (s : State) : Steady s (post p n s) := ⟨rfl, rfl, rfl, rfl, rfl⟩

theorem startWatchdog_steady (s : State) : Steady s (startWatchdog s) := ⟨rfl, rfl, rfl, rfl, rfl⟩

theorem stopWatchdog_steady (s : State) : Steady s (stopWatchdog s) := ⟨rfl, rfl, rfl, rfl, rfl⟩

theorem setPrintQuiesce_steady (q : Quiesce) (s : State) : Steady s (setQuiesce .print q s) := ⟨rfl, rfl, rfl, rfl, rfl⟩

theorem writePrintError_steady (c : PrintCause) (t : Tag) (pl : Option SwathPlace) (s : State) :
    Steady s (writePrintError c t pl s) := by
  unfold writePrintError
  split <;> exact ⟨rfl, rfl, rfl, rfl, rfl⟩

theorem completePrintQuiesce_steady (s : State) : Steady s (completeQuiesce .print s) := by
  rcases completeQuiesce_cases .print s with ⟨_, h⟩ | ⟨_, h⟩ <;> rw [h]
  · exact .refl s
  · exact ⟨rfl, rfl, rfl, rfl, rfl⟩

theorem afterOldest_steady (rest : List SwathOrder) (s : State) :
    Steady (s.setPrint { s.print with inFlight := rest }) (afterOldest rest s) := by
  unfold afterOldest
  dsimp only
  split <;> exact ⟨rfl, rfl, rfl, rfl, rfl⟩

/-! ### Start test and release -/

/-- The start test of a unit with nothing in flight leaves the station waiting, or registering with no number
terminated. -/
theorem printStartTestFor_pipeline {s : State} (u : UnitNo) (sh : Shirt) (h : s.engaged) (hi : s.print.inFlight = []) :
    (printStartTestFor u sh s).pipelineSound := by
  have waiting : ∀ st, st ≠ .idle → st ≠ .registering → st ≠ .passing → (setPrintState st s).pipelineSound :=
    fun st h1 h2 h3 => State.engaged.pipeline (s := setPrintState st s) ⟨h.ring, h.held, h.hold, h.arrival, h.swaths⟩ h1
      (fun hst => (hst.elim h2 h3).elim) fun _ _ => hi
  unfold printStartTestFor
  split
  · exact waiting _ (by decide) (by decide) (by decide)
  · split
    · refine (startWatchdog_steady _).pipeline ((post_steady _ _ _).pipeline ?_)
      refine State.engaged.pipeline ⟨h.ring, h.held, h.hold, h.arrival, ?_⟩ (by simp) (fun _ => rfl) fun _ _ => hi
      simp [hi]
    · have asked := waiting .waitArtwork (by decide) (by decide) (by decide)
      unfold waitArtwork
      dsimp only
      split
      · exact asked
      · refine (post_steady _ _ _).pipeline (Steady.pipeline ?_ asked)
        exact ⟨rfl, rfl, rfl, rfl, rfl⟩

theorem printStartTest_pipeline {s : State} (h : s.pipelineSound) (hs : s.print.state ≠ .idle)
    (hi : s.print.inFlight = []) : (printStartTest s).pipelineSound := by
  unfold printStartTest
  split
  · exact h
  · split
    · exact printStartTestFor_pipeline _ _ (h.engaged hs) hi
    · exact h

/-- The Print station lets its unit go with nothing in flight. -/
theorem printRelease_pipeline {s : State} (h : s.engaged) (hi : s.print.inFlight = []) :
    (printRelease s).pipelineSound := by
  unfold printRelease
  refine ⟨Ring.release_sound _ h.ring, by simp, by simp, fun ha => ?_, h.swaths, by simp, fun _ _ => hi⟩
  simp [releaseHold, h.arrival] at ha

theorem releasePrinted_pipeline {s : State} (h : s.pipelineSound) (hi : s.print.inFlight = []) :
    (releasePrinted s).pipelineSound := by
  unfold releasePrinted
  split
  · exact h
  · next t ht =>
    have busy : s.print.state ≠ .idle := h.2.1.mpr (by rw [ht]; rfl)
    refine (completePrintQuiesce_steady _).pipeline (printRelease_pipeline ?_ (by simpa [setUnitState] using hi))
    have stated := (modifyShirt_steady t.unit (fun sh => { sh with state := .printed }) s).engaged (h.engaged busy)
    exact ⟨stated.ring, stated.held, stated.hold, stated.arrival, stated.swaths⟩

/-! ### Arrival -/

/-- A unit the station has just taken is given the state PRINTING and the start test. -/
theorem printTaken_pipeline {s : State} {t : Tag} (h : s.engaged) (ht : s.print.held = some t)
    (hu : ∃ sh, s.shirt t.unit = some sh) (hi : s.print.inFlight = []) :
    (printStartTest (setUnitState t.unit .printing s)).pipelineSound := by
  obtain ⟨sh, hsh⟩ := hu
  unfold printStartTest
  rw [setUnitState, modifyShirt_print, ht]
  dsimp only
  rw [modifyShirt_shirt_same, hsh]
  exact printStartTestFor_pipeline _ _ ((modifyShirt_steady _ _ _).engaged h) (by simpa using hi)

theorem printArrival_pipeline {s : State} (h : s.pipelineSound) : (printArrival s).pipelineSound := by
  unfold printArrival
  split
  · exact h
  · next a ha =>
    have idle : s.print.state = .idle := by
      by_contra hs
      have := (h.engaged hs).arrival
      rw [ha] at this; cases this
    obtain ⟨hring, hheld, _, hhold, hsum, _, hdrained⟩ := h
    have hold := hhold (by rw [ha]; rfl)
    have unheld : s.print.held = none := by simpa [idle] using hheld
    have drained := hdrained (by simp [idle]) (by simp [idle])
    have released : ∀ t : State, Steady (takeArrival .print s) t → (releaseHold .print t).pipelineSound := by
      intro t e
      have ring : t.ring.sound := by rw [e.ring]; exact hring
      refine ⟨Ring.release_sound _ ring, ?_, ?_, fun hw => ?_, ?_, ?_, fun _ _ => ?_⟩
      · simp [e.state, e.held, idle, unheld]
      · simp [e.state, idle]
      · simp [releaseHold, e.ring, takeArrival, Arrivals.put] at hw
      · simpa [e.terminated, e.inFlight] using hsum
      · simp [e.state, idle]
      · simpa [e.inFlight] using drained
    dsimp only
    split
    · exact released _ (.refl _)
    · split
      · exact released _ (.refl _)
      · next u _ _ sh hsh =>
        split
        · exact released _ (noteFault_steady _ _ _)
        · refine printTaken_pipeline (t := (takeArrival .print s).tagOf u) ?_ rfl ?_ drained
          · exact ⟨hring, rfl, hold, rfl, hsum⟩
          · exact ⟨sh, hsh⟩

/-! ### Registration and the swaths -/

theorem issueSwath_pipeline {s : State} (d : Design) (tag : Tag) (t : Traverse) (h : s.pipelineSound)
    (hs : s.print.state = .passing) (hl : s.print.inFlight.length < 3) : (issueSwath d tag t s).2.pipelineSound := by
  have engaged := h.engaged (by simp [hs])
  obtain ⟨_, _, _, _, _, hterm, _⟩ := h
  have none_terminated := hterm (.inr hs)
  rw [issueSwath_eq]
  refine State.engaged.pipeline ⟨engaged.ring, engaged.held, engaged.hold, engaged.arrival, ?_⟩ (by simp [issued, hs])
    (fun _ => none_terminated) fun hp => absurd hs hp
  simp only [issued, State.setPrint_print, none_terminated, List.length_append, List.length_nil, List.length_singleton]
  omega

theorem acceptRegistered_pipeline {s : State} (u : UnitNo) (sh : Shirt) (h : s.pipelineSound)
    (hs : s.print.state = .registering) : (acceptRegistered u sh s).pipelineSound := by
  have engaged := h.engaged (by simp [hs])
  have drained := h.drained (by simp [hs]) (by simp [hs])
  obtain ⟨_, _, _, _, _, hterm, _⟩ := h
  have none_terminated := hterm (.inl hs)
  have passing : ∀ c f, (State.setPrint (modifyShirt u f s)
      { (modifyShirt u f s).print with cursor := c, watchdog := none, state := .passing }).pipelineSound := by
    intro c f
    have stated := (modifyShirt_steady u f s).engaged engaged
    refine State.engaged.pipeline ⟨stated.ring, stated.held, stated.hold, stated.arrival, stated.swaths⟩ (by simp)
      (fun _ => ?_) fun hp => absurd rfl hp
    simpa using none_terminated
  unfold acceptRegistered
  dsimp only
  split
  · exact releasePrinted_pipeline (passing _ _) (by simpa using drained)
  · exact passing _ _

/-- A registration ended early releases the unit. -/
theorem acceptRegisterFault_pipeline {s : State} (u : UnitNo) (h : s.pipelineSound)
    (hs : s.print.state = .registering) : (acceptRegisterFault u s).pipelineSound := by
  have steady : Steady s (stopWatchdog (writePrintError .registerFault (s.tagOf u) none (noteFault u .registerFault s))) :=
    (noteFault_steady _ _ _).trans ((writePrintError_steady _ _ _ _).trans (stopWatchdog_steady _))
  exact releasePrinted_pipeline (steady.pipeline h) (steady.inFlight.trans (h.drained (by simp [hs]) (by simp [hs])))

theorem registrationTimeout_pipeline {s : State} (t : Tag) (h : s.pipelineSound)
    (hs : s.print.state = .registering) : (registrationTimeout t s).pipelineSound := by
  have late : Steady s (s.setPrint { s.print with lateTag := some t }) := ⟨rfl, rfl, rfl, rfl, rfl⟩
  have steady := late.trans ((noteFault_steady t.unit .registerTimeout _).trans
    (writePrintError_steady .registerTimeout t none _))
  exact releasePrinted_pipeline (steady.pipeline h) (steady.inFlight.trans (h.drained (by simp [hs]) (by simp [hs])))

theorem parkIfDrained_pipeline {s : State} (h : s.pipelineSound) : (parkIfDrained s).pipelineSound := by
  unfold parkIfDrained
  split
  · next hs =>
    obtain ⟨hs, hi⟩ := hs
    have engaged := h.engaged (by simp [hs])
    exact State.engaged.pipeline (s := setPrintState .parking s)
      ⟨engaged.ring, engaged.held, engaged.hold, engaged.arrival, engaged.swaths⟩ (by simp [setPrintState])
      (by simp [setPrintState]) fun _ _ => hi
  · exact h

/-- A failed swath leaves the station ABORTING or PARKING. -/
theorem abortPrint_pipeline {s : State} (o : SwathOrder) (f : UnitFault) (c : PrintCause) (h : s.engaged) :
    (abortPrint o f c s).pipelineSound := by
  have noted : Steady s (if s.print.state = .passing then noteFault o.tag.unit f s else s) := by
    split
    · exact noteFault_steady _ _ _
    · exact .refl s
  have recorded := (noted.trans (writePrintError_steady c o.tag (some o.place) _)).engaged h
  refine parkIfDrained_pipeline (s := setPrintState .aborting _) ?_
  exact State.engaged.pipeline (s := setPrintState .aborting _)
    ⟨recorded.ring, recorded.held, recorded.hold, recorded.arrival, recorded.swaths⟩ (by simp [setPrintState])
    (by simp [setPrintState]) fun _ ha => absurd rfl ha

/-- The oldest order has left a station that prints or drains. -/
theorem afterOldest_pipeline {s : State} {o : SwathOrder} {rest : List SwathOrder} (h : s.pipelineSound)
    (hs : s.print.state = .passing ∨ s.print.state = .aborting) (hi : s.print.inFlight = o :: rest) :
    (afterOldest rest s).pipelineSound := by
  have busy : s.print.state ≠ .idle := by rcases hs with hs | hs <;> simp [hs]
  have engaged := h.engaged busy
  have shorter := engaged.swaths
  rw [hi, List.length_cons] at shorter
  obtain ⟨_, _, _, _, _, hterm, _⟩ := h
  refine (afterOldest_steady rest s).pipeline (State.engaged.pipeline
    ⟨engaged.ring, engaged.held, engaged.hold, engaged.arrival, ?_⟩ busy hterm
    fun hp ha => (hs.elim hp ha).elim)
  simp only [State.setPrint_print]
  omega

theorem swathReported_pipeline {s : State} {o : SwathOrder} {rest : List SwathOrder} (result : Byte)
    (h : s.pipelineSound) (hs : s.print.state = .passing ∨ s.print.state = .aborting)
    (hi : s.print.inFlight = o :: rest) : (swathReported o rest result s).pipelineSound := by
  have failed : ∀ c, (swathFailed o rest c s).pipelineSound := fun c => by
    have popped := afterOldest_pipeline h hs hi
    have state := (afterOldest_steady rest s).state
    refine abortPrint_pipeline o _ c (popped.engaged ?_)
    rw [state]
    rcases hs with hs | hs <;> simp [hs]
  have ok : (swathOk o rest s).pipelineSound := by
    have credited : Steady s (creditSwath o s) := modifyShirt_steady _ _ _
    have popped := afterOldest_pipeline (credited.pipeline h) (by rwa [credited.state]) (credited.inFlight.trans hi)
    unfold swathOk
    dsimp only
    split
    · next hdone =>
      obtain ⟨_, _, hrest⟩ := hdone
      exact releasePrinted_pipeline popped ((afterOldest_steady _ _).inFlight.trans hrest)
    · exact parkIfDrained_pipeline popped
  unfold swathReported
  split
  · exact ok
  · split <;> exact failed _

theorem terminateOldest_pipeline {s : State} {o : SwathOrder} {rest : List SwathOrder} (h : s.pipelineSound)
    (hs : s.print.state = .passing ∨ s.print.state = .aborting) (hi : s.print.inFlight = o :: rest) :
    (terminateOldest o rest s).pipelineSound := by
  have engaged := h.engaged (by rcases hs with hs | hs <;> simp [hs])
  have sum := engaged.swaths
  rw [hi, List.length_cons] at sum
  refine abortPrint_pipeline _ _ _ ((afterOldest_steady _ _).engaged
    ⟨engaged.ring, engaged.held, engaged.hold, engaged.arrival, ?_⟩)
  simp only [State.setPrint_print, List.length_append, List.length_singleton]
  omega

theorem watchdogExpiry_pipeline {s : State} (h : s.pipelineSound) : (watchdogExpiry s).pipelineSound := by
  unfold watchdogExpiry
  split
  · next hs =>
    split
    · exact registrationTimeout_pipeline _ h hs
    · exact h
  · next hs =>
    split
    · next hi => exact terminateOldest_pipeline h (.inl hs) hi
    · exact h
  · next hs =>
    split
    · next hi => exact terminateOldest_pipeline h (.inr hs) hi
    · exact h
  all_goals exact h

/-! ### Quiesce, resume and scrap -/

theorem restPrint_pipeline {s : State} (q : Quiesce) (h : s.pipelineSound) :
    (restUnit .print (setQuiesce .print q s)).pipelineSound := by
  have quiesced := (setPrintQuiesce_steady q s).pipeline h
  unfold restUnit
  dsimp only
  split
  · next hs =>
    have engaged := quiesced.engaged (by simp [hs])
    exact State.engaged.pipeline (s := setPrintState .quiesceWait _)
      ⟨engaged.ring, engaged.held, engaged.hold, engaged.arrival, engaged.swaths⟩ (by simp [setPrintState])
      (by simp [setPrintState]) fun _ _ => quiesced.drained (by simp [hs]) (by simp [hs])
  · exact quiesced

theorem resumePrint_pipeline {s : State} (n : Notice) (h : s.pipelineSound) :
    (post .order n (setQuiesce .print .running s)).pipelineSound :=
  (post_steady _ _ _).pipeline ((setPrintQuiesce_steady _ s).pipeline h)

theorem beginPrint_pipeline {s : State} (n : Notice) (h : s.pipelineSound) :
    (beginHeld .print (post .order n (setQuiesce .print .running s))).pipelineSound := by
  have resumed := resumePrint_pipeline n h
  unfold beginHeld
  dsimp only
  split
  · next hs =>
    exact printStartTest_pipeline resumed (by rw [hs]; decide) (resumed.drained (by rw [hs]; decide) (by rw [hs]; decide))
  · exact resumed

/-- A unit the Print station does not work on is withdrawn with nothing in flight. -/
theorem scrapStation_pipeline {s : State} (u : UnitNo) (sh : Shirt) (hp : inProcess s u sh = false)
    (h : s.pipelineSound) : (scrapStation u sh s).pipelineSound := by
  unfold scrapStation
  split
  · exact (pretreatRelease_quiet s).pipeline (by simp) h
  · split
    · next hh =>
      have idle : s.print.state.working = false := by
        rw [inProcess, hh] at hp
        simpa using (Bool.or_eq_false_iff.mp hp).2
      have drained : s.print.inFlight = [] := by
        refine h.drained ?_ ?_ <;> · intro hs; rw [hs] at idle; cases idle
      have busy : s.print.state ≠ .idle := h.2.1.mpr (by rw [hh]; rfl)
      have released := printRelease_pipeline (h.engaged busy) drained
      unfold printWithdraw
      dsimp only
      split
      · exact (post_steady _ _ _).pipeline released
      · exact released
    · split
      · exact (tunnelRelease_quiet s).pipeline (by simp) h
      · exact h

end Sys2Proof.Machine
end

section
/-! The exceptions to `Quiet`: the writes of the gated tables, LOAD, LINE RESET, power-on, the tick of the Time Base and
the completion of an index. Every other change and event is `Quiet`. -/

namespace Sys2Proof.Machine

/-! ### The ports -/

theorem PortState.countError_bounded {x : PortState} (h : x.bounded) : x.countError.bounded := by
  obtain ⟨h1, h2, h3⟩ := h
  refine ⟨h1, h2, ?_⟩
  change (if x.frameErrors < 65535 then x.frameErrors + 1 else x.frameErrors) ≤ 65535
  change x.frameErrors ≤ 65535 at h3
  split <;> omega

theorem PortState.expire_bounded {x : PortState} (now : Word32) (h : x.bounded) : (x.expire now).bounded := by
  unfold PortState.expire
  split
  · exact PortState.countError_bounded (x := x.hunt) h
  · exact h

theorem huntChar_bounded {x : PortState} (c : Byte) (h : x.bounded) : (huntChar c x).bounded := by
  unfold huntChar
  split
  · exact h
  · split
    · exact h
    · exact PortState.countError_bounded h

theorem acceptFrame_bounded {x : PortState} (p : Port) (f : Frame) (h : x.bounded) : (acceptFrame p f x).bounded := by
  obtain ⟨_, h2⟩ := id h
  unfold acceptFrame
  split
  · next hlt => exact ⟨by simpa using hlt, h2⟩
  · exact h

theorem frameChar_bounded {x : PortState} (p : Port) (c : Byte) (h : x.bounded) : (frameChar p c x).bounded := by
  unfold frameChar
  dsimp only
  split
  · exact PortState.countError_bounded (x := x.hunt) h
  · split
    · split
      · exact acceptFrame_bounded p _ (x := x.hunt) h
      · exact PortState.countError_bounded (x := x.hunt) h
    · exact h

theorem receiveChar_bounded {x : PortState} (p : Port) (now : Word32) (c : Byte) (h : x.bounded) :
    (receiveChar p now x c).bounded := by
  have expired := PortState.expire_bounded now h
  unfold receiveChar
  dsimp only
  split
  · exact huntChar_bounded c expired
  · exact frameChar_bounded p c expired

theorem receiveChars_quiet {w : Holder} (p : Port) (chars : List Byte) (s : State) :
    Quiet w s (receiveChars p chars s) := by
  refine setPort_quiet s fun h => ?_
  induction chars generalizing s with
  | nil => exact h
  | cons c chars ih =>
    rw [List.foldl_cons]
    have one := ih (s.setPort p (receiveChar p s.time.now (s.port p) c))
    simp only [State.port_setPort_same, State.setPort_time] at one
    exact one (receiveChar_bounded p _ c h)

/-! ### The changes -/

/-- A LOAD is taken: a free unit, an empty platen, a candidate line with need. -/
def LoadTaken (s t : State) : Prop :=
  ∃ (u : UnitNo) (pl : PlatenNo) (k : Sku) (i : OrderNo) (n : LineNo) (l : Line),
    s.shirt u = none ∧ (tget s.ring.platens pl).unit = none ∧ candidate s k = some (i, n, l)
      ∧ t = acceptLoad u pl i n l s

theorem lowestFreeUnit_shirt {s : State} {u : UnitNo} (h : lowestFreeUnit s = some u) : s.shirt u = none := by
  simpa [State.shirt] using (lowest_some h).1

/-- An operation that keeps the swath pipeline's invariant too is quiet for every station. -/
theorem Quiet.steady {w v : Holder} {s t : State} (h : Quiet w s t) (hp : s.pipelineSound → t.pipelineSound) :
    Quiet v s t :=
  { h with pipeline := fun _ => hp }

theorem Quiet.calm {w v : Holder} {s t : State} (h : Quiet w s t) (hw : w ≠ .print := by simp) : Quiet v s t :=
  h.steady (h.pipeline hw)

/-- Every change but a table write, LOAD and LINE RESET is quiet, and keeps the swath pipeline's invariant. -/
theorem Change.quiet {r : Request} {p : Port} {s t : State} (h : Change r p s t) :
    Quiet .pretreat s t ∨ Write r s t ∨ (r = .load ∧ LoadTaken s t) ∨ (r = .lineReset ∧ t = clearLine s) := by
  have quiet {w : Holder} {t : State} (hq : Quiet w s t) (hw : w ≠ .print := by simp) : Quiet .pretreat s t
      ∨ Write r s t ∨ (r = .load ∧ LoadTaken s t) ∨ (r = .lineReset ∧ t = clearLine s) := .inl (hq.calm hw)
  have printed {w : Holder} {t : State} (hq : Quiet w s t) (hp : s.pipelineSound → t.pipelineSound) :
      Quiet .pretreat s t ∨ Write r s t ∨ (r = .load ∧ LoadTaken s t) ∨ (r = .lineReset ∧ t = clearLine s) :=
    .inl (hq.steady hp)
  cases h with
  | write hw => exact .inr (.inl hw)
  | load k u pl i n l hu hc hf =>
    exact .inr (.inr (.inl ⟨rfl, u, pl, k, i, n, l, lowestFreeUnit_shirt hf, hu, hc, rfl⟩))
  | lineReset => exact .inr (.inr (.inr ⟨rfl, rfl⟩))
  | setPlaten pl cls en hu =>
    refine quiet (w := .pretreat) (setRing_quiet s (fun q => ?_) id (fun _ => rfl) fun _ => rfl)
    rw [tget_tset]
    split
    · next e => rw [e]
    · rfl
  | submitOrder body x i hx he hw hi hl =>
    exact quiet (w := .pretreat) ((acceptOrder_quiet s i x).trans (orphanUptake_quiet _ i))
  | holdOrder i o level ho hs =>
    exact quiet (w := .pretreat) ((putOrder_quiet s _ _).trans ((leaveActive_quiet _ _).trans (post_quiet _ _ _)))
  | releaseOrder i o ho hs =>
    exact quiet (w := .pretreat) ((putOrder_quiet s _ _).trans ((joinActive_quiet _ _).trans (orphanUptake_quiet _ _)))
  | cancelOrder i o ho hs => exact quiet (w := .pretreat) (cancelLive_quiet s i o)
  | defineArtwork a d hd => exact quiet (w := .pretreat) (putArtwork_quiet s (by simp))
  | removeArtwork a hr =>
    have emptied : Quiet .pretreat s (putArtwork a .empty s) := putArtwork_quiet s (by simp [Artwork.empty])
    refine quiet (w := .pretreat) ?_
    split
    · exact emptied.trans (post_quiet _ _ _)
    · exact emptied
  | artworkStaged a hc =>
    have staged : Quiet .pretreat s (putArtwork a { tget s.artworks a with staged := true } s) := stage_quiet s hc
    split
    · next ha =>
      refine printed ((stage_quiet s hc).trans (printStartTest_quiet _)) fun h => ?_
      have hs : s.print.state = .waitArtwork := by
        simp only [awaitsArtwork, Bool.and_eq_true, decide_eq_true_eq] at ha
        exact ha.1
      exact printStartTest_pipeline (staged.pipeline (by simp) h) (show s.print.state ≠ .idle by simp [hs])
        (h.drained (by simp [hs]) (by simp [hs]))
    · exact quiet staged
  | artworkEvicted a => exact quiet (w := .pretreat) (putArtwork_quiet s (by simp))
  | unload u sh hsh => exact quiet (w := .pretreat) (freeUnit_quiet s _ u)
  | bypassHeld u => exact quiet ((setBypassed_quiet s u).trans (pretreatRelease_quiet _))
  | bypass u => exact quiet (w := .pretreat) (setBypassed_quiet s u)
  | refill amount => exact quiet (refill_quiet s amount)
  | barClear hf => exact quiet (w := .pretreat) (barClear_quiet s hf)
  | registered u sh hsh hs hh => exact printed (acceptRegistered_quiet s u sh) fun h => acceptRegistered_pipeline u sh h hs
  | registerFault u hs hh => exact printed (acceptRegisterFault_quiet s u) fun h => acceptRegisterFault_pipeline u h hs
  | nextSwath d tag t hs hl => exact printed (issueSwath_quiet s d tag t hl) fun h => issueSwath_pipeline d tag t h hs hl
  | swathDone o os result hs hi => exact printed (swathReported_quiet s result hi) fun h => swathReported_pipeline result h hs hi
  | carriageParked hs => exact printed (releasePrinted_quiet s) fun h =>
    releasePrinted_pipeline h (h.drained (by simp [hs]) (by simp [hs]))
  | readErrorRecord => exact printed (readErrorRecord_quiet s) (Steady.pipeline ⟨rfl, rfl, rfl, rfl, rfl⟩)
  | matchScrapped u sh hsh => exact quiet (w := .pretreat) (freeUnit_quiet s _ u)
  | matchOrphan u sh sl hsh hl =>
    exact quiet (w := .pretreat) ((placeEntry_quiet s _ _ _).trans (freeUnit_quiet _ _ u))
  | matchBin u sh o b s1 hsh ho hs hb =>
    exact quiet (w := .pretreat) ((assignBin_quiet hb).trans (freeUnit_quiet _ _ u))
  | scrap u sh hsh hp =>
    obtain ⟨w, hw⟩ := scrapStation_quiet s u sh
    exact printed (hw.trans (freeUnit_quiet _ _ u)) fun h =>
      (freeUnit_quiet _ _ u).pipeline (w := .pretreat) (by simp) (scrapStation_pipeline u sh hp h)
  | recure u sh c hsh hx hc hl => exact quiet (w := .pretreat) (acceptRecure_quiet s hsh hc hl)
  | binClosed b h o hb ho hs =>
    exact quiet (w := .pretreat) ((releaseBin_quiet s _ _).trans (freeOrder_quiet _ _ _))
  | clearShelfSlot sl => exact quiet (w := .pretreat) (removeEntry_quiet s sl)
  | quiesceWorking st =>
    refine printed (restUnit_setQuiesce_quiet s st _) ?_
    cases st with
    | print => exact restPrint_pipeline _
    | _ => exact (restUnit_setQuiesce_quiet s _ _).pipeline (by simp [Station.holder])
  | quiesceAtOnce st =>
    refine printed ((restUnit_setQuiesce_quiet s st _).trans (post_quiet _ _ _)) fun h => (post_steady _ _ _).pipeline ?_
    cases st with
    | print => exact restPrint_pipeline _ h
    | _ => exact (restUnit_setQuiesce_quiet s _ _).pipeline (by simp [Station.holder]) h
  | resumeWorking st =>
    refine printed (resumeWorking_quiet s st _) ?_
    cases st with
    | print => exact resumePrint_pipeline _
    | _ => exact (resumeWorking_quiet s _ _).pipeline (by simp [Station.holder])
  | resumeHeld st =>
    refine printed (beginHeld_quiet s st _) ?_
    cases st with
    | print => exact beginPrint_pipeline _
    | _ => exact (beginHeld_quiet s _ _).pipeline (by simp [Station.holder])
  | fetchNotice =>
    refine quiet (w := .pretreat) (setPort_quiet s fun ⟨h1, h2, h3⟩ => ⟨h1, ?_, h3⟩)
    simp only [List.length_tail]; omega
  | readStatus => exact quiet (w := .pretreat) (setPort_quiet s fun ⟨h1, h2, _⟩ => ⟨h1, h2, Nat.zero_le _⟩)

/-! ### The events -/

theorem indexRequest_quiet (s : State) : Quiet .pretreat s (indexRequest s) := by
  cases hs : s.ring.state with
  | moving => rw [indexRequest_moving hs]; exact .refl s
  | still =>
    cases hc : s.ring.holds.allClear with
    | true =>
      rw [indexRequest_allClear hs hc]
      exact setRing_quiet s (fun _ => rfl) (fun _ => ⟨by simp, fun _ => hc, by simp⟩) (fun _ => rfl) fun _ => rfl
    | false =>
      rw [indexRequest_held hs hc]
      exact setRing_quiet s (fun _ => rfl) (fun h => ⟨h.1, h.2.1, fun _ => hc⟩) (fun _ => rfl) fun _ => rfl

/-- Every event but power-on, the tick of the Time Base and an index's completion is quiet, and keeps the swath pipeline's invariant. -/
theorem Event.quiet {c : Instr} {s t : State} (h : Event c s t) :
    Quiet .pretreat s t ∨ (∃ straps, c = .powerOn straps ∧ t = { State.powerOn straps with pending := s.pending })
      ∨ (c = .timeBaseTick ∧ t = s.setTime { s.time with now := s.time.now + 1 })
      ∨ (c = .indexDone ∧ s.ring.state = .moving ∧ t = Machine.indexDone s) := by
  cases h with
  | powerOn straps => exact .inr (.inl ⟨straps, rfl, rfl⟩)
  | timeBaseTick => exact .inr (.inr (.inl ⟨rfl, rfl⟩))
  | indexDone =>
    cases hs : s.ring.state with
    | moving => exact .inr (.inr (.inr ⟨rfl, rfl, rfl⟩))
    | still => rw [indexDone_still hs]; exact .inl (post_quiet s _ _)
  | frameReceived p chars => exact .inl (receiveChars_quiet p chars s)
  | intercharacterTimeout p => exact .inl (setPort_quiet s (PortState.expire_bounded _))
  | frameErrorDiscard p chars =>
    exact .inl ((receiveChars_quiet p chars s).trans (setPort_quiet _ id))
  | indexRequest => exact .inl (indexRequest_quiet s)
  | pretreatArrival => exact .inl (pretreatArrival_quiet s)
  | printArrival => exact .inl ((printArrival_quiet s).steady printArrival_pipeline)
  | tunnelArrival => exact .inl (tunnelArrival_quiet s).calm
  | barInPosition => exact .inl (barInPosition_quiet s)
  | sweepEnd h => exact .inl (sweepEnd_quiet s h)
  | centringEnd h => exact .inl (centringEnd_quiet s h)
  | barFault => exact .inl (barFault_quiet s)
  | watchdogExpiry => exact .inl ((watchdogExpiry_quiet s).steady watchdogExpiry_pipeline)
  | beltStep => exact .inl (beltStep_quiet s)
  | tunnelEntrySensor => exact .inl (tunnelEntry_quiet s).calm
  | zoneReading z reading => exact .inl (zoneReading_quiet s z reading)
  | cureTick => exact .inl (cureTick_quiet s)
  | tunnelExitSensor => exact .inl (tunnelExit_quiet s)

/-! ### LINE RESET -/

/-- The books and artworks as LINE RESET leaves them, with the handles it frees. -/
@[irreducible] def clearedBooks (s : State) : Returned := resetOrders (resetLines (resetUnits s))

/-- R18 steps 3 to 7 and R19, over what the return of the orders leaves. -/
def resetRest (r : Returned) : State :=
  let s1 := resetStations (resetRing r.state)
  resetNotices r.freed (s1.setTime { s1.time with lastReset := .lineReset })

theorem clearLine_eq_resetRest (s : State) : clearLine s = resetRest (clearedBooks s) := by
  unfold clearedBooks; rfl

theorem returnCancelling_eq (L : List OrderNo) (r : Returned) (hL : L.Nodup) :
    (L.foldl returnCancelling r).state = { r.state with
      book := (L.foldl returnCancelling r).state.book
      artworks := (L.foldl returnCancelling r).state.artworks } := by
  obtain ⟨_, _, _, _, _, _, _, e⟩ := returnCancelling_cases L r hL
  exact e

theorem clearedBooks_eq (s : State) :
    (clearedBooks s).state = { resetLines (resetUnits s) with
      book := (clearedBooks s).state.book, artworks := (clearedBooks s).state.artworks } := by
  unfold clearedBooks resetOrders
  exact returnCancelling_eq _ _ (List.nodup_finRange 128)

theorem foldl_post_eq {α : Type} (p : α → Port) (f : α → Notice) (l : List α) (s : State) :
    ∃ v, l.foldl (fun s x => post (p x) (f x) s) s = s.setPorts v := by
  induction l generalizing s with
  | nil => exact ⟨s.ports, rfl⟩
  | cons a l ih =>
    obtain ⟨v, hv⟩ := ih (post (p a) (f a) s)
    exact ⟨v, hv⟩

theorem resetNotices_eq (freed : List (Handle × Word32)) (s : State) :
    resetNotices freed s = s.setPorts (resetNotices freed s).ports := by
  suffices h : ∃ v, resetNotices freed s = s.setPorts v by
    obtain ⟨v, hv⟩ := h
    rw [hv]; rfl
  unfold resetNotices
  dsimp only
  generalize hp : [Port.order, .load, .engine, .pack] = ports
  obtain ⟨v, hv⟩ := foldl_post_eq (fun p : Port => p) (fun _ => .lineReset) ports (s.setPorts
    { order := s.ports.order.emptied, load := s.ports.load.emptied
      engine := s.ports.engine.emptied, pack := s.ports.pack.emptied })
  rw [hv]
  obtain ⟨v', hv'⟩ := foldl_post_eq (fun _ => .order)
    (fun x : Handle × Word32 => .orderFreed x.1 x.2 .cancelled) freed (State.setPorts (s.setPorts
      { order := s.ports.order.emptied, load := s.ports.load.emptied
        engine := s.ports.engine.emptied, pack := s.ports.pack.emptied }) v)
  exact ⟨v', hv'⟩

/-- What LINE RESET leaves, block by block but for the ports. -/
theorem clearLine_eq (s : State) :
    clearLine s =
      { time := { s.time with lastReset := .lineReset }
        ring := { s.ring with
          platens := tmap (fun p => { p with unit := none }) s.ring.platens
          holds := { pretreat := false, print := false, tunnel := false }
          arrivals := { pretreat := none, print := none, tunnel := none }
          pendingIndex := false }
        units := tmap UnitRecord.freed s.units
        book := (clearedBooks s).state.book
        artworks := (clearedBooks s).state.artworks
        load := { s.load with quiesce := .running }
        pretreat := { s.pretreat with state := .idle, plan := none, quiesce := .running }
        bar := s.bar.stop (elapsedSince s s.bar.sweepStart)
        print := s.print.cleared
        tunnel := { s.tunnel with queue := [], state := .idle, held := none, quiesce := .running }
        pack := { s.pack with exits := [] }
        ports := (clearLine s).ports
        pending := s.pending } := by
  have e := clearedBooks_eq s
  rw [clearLine_eq_resetRest]
  generalize clearedBooks s = r at e ⊢
  obtain ⟨t, freed⟩ := r
  dsimp only at e ⊢
  unfold resetRest
  dsimp only
  rw [resetNotices_eq, e]
  rfl

/-- The notices of LINE RESET keep every port within its bounds. -/
theorem resetNotices_portsBounded {s : State} (freed : List (Handle × Word32)) (h : s.portsBounded) :
    (resetNotices freed s).portsBounded := by
  have emptied : ∀ x : PortState, x.bounded → x.emptied.bounded := fun x ⟨h1, _, h3⟩ => ⟨h1, Nat.zero_le _, h3⟩
  refine (foldl_quiet (w := .tunnel) id (f := fun s (x : Handle × Word32) => post .order (.orderFreed x.1 x.2 .cancelled) s)
    (fun s x => post_quiet s _ _) freed _).ports ?_
  refine (foldl_quiet (w := .tunnel) id (f := fun s p => post p .lineReset s)
    (fun s p => post_quiet s _ _) [Port.order, .load, .engine, .pack] _).ports fun p => ?_
  cases p
  · exact emptied _ (h .order)
  · exact emptied _ (h .load)
  · exact emptied _ (h .engine)
  · exact emptied _ (h .pack)

theorem clearLine_portsBounded {s : State} (h : s.portsBounded) : (clearLine s).portsBounded := by
  have e := clearedBooks_eq s
  rw [clearLine_eq_resetRest]
  generalize clearedBooks s = r at e ⊢
  refine resetNotices_portsBounded _ fun p => ?_
  change (r.state.ports.get p).bounded
  rw [e]
  exact h p

theorem returnCancelling_quiet {w : Holder} (L : List OrderNo) (r : Returned) :
    Quiet w r.state (L.foldl returnCancelling r).state := by
  refine foldl_quiet Returned.state (fun r i => ?_) L r
  unfold returnCancelling
  split
  · split
    · exact returnDescriptor_quiet _ i
    · exact .refl _
  · exact .refl _

/-- The books LINE RESET leaves keep the counters' ranges and the staged artworks. -/
theorem clearedBooks_quiet {w : Holder} (s : State) : Quiet w (resetLines (resetUnits s)) (clearedBooks s).state := by
  unfold clearedBooks resetOrders
  exact returnCancelling_quiet _ { state := resetLines (resetUnits s), freed := [] }

end Sys2Proof.Machine
end

section
/-! Power-on: every table's value, and every invariant of the part. -/

namespace Sys2Proof.Machine

@[simp] theorem Ring.initial_platen (p : PlatenNo) :
    tget Ring.initial.platens p = { sizeClass := .adult, enabled := true, unit := none, position := p } := by
  simp [Ring.initial]

@[simp] theorem Tunnel.initial_zone (z : ZoneNo) : tget Tunnel.initial.zones z = .initial := by simp [Tunnel.initial]

section
variable (straps : Straps) (l : List Instr)

/-- The part right after power-on, with the commands that wait. -/
def powered : State := { State.powerOn straps with pending := l }

@[simp] theorem powered_ring : (powered straps l).ring = .initial := rfl
@[simp] theorem powered_book : (powered straps l).book = .initial := rfl
@[simp] theorem powered_load : (powered straps l).load = .initial := rfl
@[simp] theorem powered_pretreat : (powered straps l).pretreat = .initial := rfl
@[simp] theorem powered_bar : (powered straps l).bar = .initial := rfl
@[simp] theorem powered_print : (powered straps l).print = .initial := rfl
@[simp] theorem powered_tunnel : (powered straps l).tunnel = .initial := rfl
@[simp] theorem powered_pack : (powered straps l).pack = .initial := rfl
@[simp] theorem powered_artworks : (powered straps l).artworks = Vector.replicate 64 .empty := rfl
@[simp] theorem powered_units :
    (powered straps l).units = Vector.replicate 40 { generation := 1, shirt := none } := rfl

@[simp] theorem powered_shirt (u : UnitNo) : (powered straps l).shirt u = none := by simp [State.shirt]

@[simp] theorem powered_generation (u : UnitNo) : (powered straps l).generation u = 1 := by simp [State.generation]

@[simp] theorem powered_order (i : OrderNo) : (powered straps l).order i = none := by simp [State.order, OrderBook.initial]

@[simp] theorem powered_handleOf (i : OrderNo) : (powered straps l).handleOf i = { generation := 1, index := i } := by
  simp [State.handleOf, OrderBook.initial]

@[simp] theorem powered_line (n : LineNo) : (powered straps l).line n = none := by simp [State.line, OrderBook.initial]

theorem powered_port (p : Port) : ∃ rate, (powered straps l).port p = .initial rate := by
  cases p <;> exact ⟨_, rfl⟩

/-! ### The invariants -/

theorem powered_ringSound : (powered straps l).ringSound :=
  ⟨⟨by simp [Ring.initial], by simp [Ring.initial], by simp [Ring.initial]⟩, 0, fun p => by simp⟩

theorem powered_portsBounded : (powered straps l).portsBounded := fun p => by
  obtain ⟨rate, h⟩ := powered_port straps l p
  rw [h]
  exact ⟨Nat.zero_le _, Nat.zero_le _, Nat.zero_le _⟩

theorem powered_tunnelSound : (powered straps l).tunnelSound :=
  ⟨Nat.zero_le _, Nat.zero_le _, fun z => by simp [Zone.sound, Zone.initial], (by decide : CureProfile.initial.inRange = true), Nat.zero_le _, by
    simp [Tunnel.initial, Config.readyTicks]⟩

theorem powered_transferFollows : (powered straps l).transferFollows := by
  simp [State.transferFollows, Tunnel.initial]

theorem powered_exposuresBounded : (powered straps l).exposuresBounded := by simp [State.exposuresBounded]

theorem powered_tablesInRange : (powered straps l).tablesInRange :=
  ⟨fun c => by simp [LoadStation.initial], (by decide : 96 ≤ 255), (by decide : 3 ≤ 7), fun f => by simp [Pretreat.initial], Nat.zero_le _,
    (by decide : Bar.initial.settings.inRange = true), (by decide : 8000 ∈ [2000, 4000, 8000, 16000]), Nat.zero_le _, Nat.zero_le _, Nat.zero_le _⟩

theorem powered_countersInRange : (powered straps l).countersInRange := by
  simp [State.countersInRange, OrderBook.initial, Config.unitGenerationMax, Config.orderGenerationMax, Config.sequenceMax]

theorem powered_activeListed : (powered straps l).activeListed := by
  simp [State.activeListed, OrderBook.initial]

theorem powered_placed : (powered straps l).placed := by
  simp [State.placed, State.queued, Tunnel.initial, Pack.initial, Ring.initial]

theorem powered_countsAgree : (powered straps l).countsAgree := by
  simp [State.countsAgree, State.linesOwned, State.unitsOwned, State.linesNaming, Artwork.empty]

theorem powered_pipelineSound : (powered straps l).pipelineSound :=
  ⟨(powered_ringSound straps l).1, by simp [Print.initial, Ring.initial]⟩

theorem stagedCount_of_none {s : State} (h : ∀ a, (tget s.artworks a).staged = false) : stagedCount s = 0 := by
  simp [stagedCount, countOf, h]

theorem powered_stagedCount : stagedCount (powered straps l) ≤ 16 := by
  rw [stagedCount_of_none fun a => by simp [Artwork.empty]]; omega

theorem powered_binsOwned : (powered straps l).binsOwned := by simp [State.binsOwned, Pack.initial]

theorem powered_shelfAged : (powered straps l).shelfAged := by simp [State.shelfAged, Pack.initial]

theorem powered_clearSound : (powered straps l).bar.clearSound := fun h => nomatch h

end

/-- Settles O2: reset is a power-on. -/
theorem invariantsHoldAtReset : Obligations.InvariantsHoldAtReset :=
  ⟨powered_ringSound _ [], powered_portsBounded _ [], powered_tunnelSound _ [], powered_exposuresBounded _ [],
    powered_tablesInRange _ [], powered_countersInRange _ [], powered_activeListed _ [], powered_placed _ [],
    powered_countsAgree _ [], powered_pipelineSound _ [], powered_stagedCount _ [], powered_binsOwned _ [],
    powered_shelfAged _ [], rfl, powered_transferFollows _ []⟩

/-- Settles O3, table by table. -/
theorem powerOnInitialValues : Obligations.PowerOnInitialValues := by
  intro straps s
  refine ⟨powered straps s.pending, rfl, ?_⟩
  refine ⟨rfl, rfl, fun p => by simp, rfl, rfl, rfl, rfl, rfl, fun u => by simp, fun i => by simp, fun n => by simp,
    rfl, rfl, fun a => by simp [Artwork.empty], fun c => by simp [LoadStation.initial],
    fun z => by simp [LoadStation.initial], rfl, rfl, fun f => by simp [Pretreat.initial], rfl, rfl, rfl, rfl, rfl, rfl,
    rfl, rfl, rfl, rfl, rfl, rfl, rfl, fun z => by simp [Bar.initial], rfl, rfl, rfl, rfl, rfl, rfl,
    fun z => by simp [Tunnel.initial, CureProfile.initial], rfl, rfl, rfl, rfl, rfl,
    fun f => by simp [Tunnel.initial, CureProfile.initial], fun f => by simp [Tunnel.initial, CureProfile.initial],
    rfl, rfl, rfl, rfl, rfl, rfl, rfl, fun z => by simp [Zone.initial], rfl, fun b => by simp [Pack.initial],
    fun sl => by simp [Pack.initial], rfl, fun st => by cases st <;> rfl, fun p => ?port, rfl, rfl, rfl, rfl, rfl⟩
  case port =>
    obtain ⟨rate, h⟩ := powered_port straps s.pending p
    rw [h]
    exact ⟨rfl, rfl, rfl, rfl, rfl⟩

end Sys2Proof.Machine
end

section
/-! The tier 3 statements that are read off `Quiet`: the gated tables, the Time Base, and the invariants of the ring and
the tunnel. -/

namespace Sys2Proof.Machine

/-! ### The rule -/

/-- An invariant that every quiet operation keeps, a step keeps when the exceptions keep it. -/
theorem step_of_quiet {I : State → Prop} (pending : ∀ s l, I s → I { s with pending := l })
    (quiet : ∀ {s t}, Quiet .pretreat s t → I s → I t) (write : ∀ r s t, Write r s t → I s → I t)
    (load : ∀ s t, LoadTaken s t → I s → I t) (clear : ∀ s, I s → I (clearLine s))
    (power : ∀ straps l, I (powered straps l)) (time : ∀ s v, I s → I (s.setTime v))
    (index : ∀ s, s.ring.state = .moving → I s → I (indexDone s)) {s t : State} (hs : I s) (h : step s = .next t) :
    I t := by
  refine step_rule pending (fun c s t hx => exec_rule (R := fun a b => I a → I b) (c := c) (fun _ => id) ?_ ?_ ?_ ?_ hx)
    hs h
  · exact fun s t p f rest hi hr hs => hr (quiet (without_quiet (w := .pretreat) s hi) hs)
  · exact fun s t p f hr hs => quiet (send_quiet (w := .pretreat) t p f) (hr hs)
  · intro r p s t _ hc hs
    rcases hc.quiet with hq | hw | ⟨_, hl⟩ | ⟨_, ht⟩
    · exact quiet hq hs
    · exact write r s t hw hs
    · exact load s t hl hs
    · rw [ht]; exact clear s hs
  · intro s t he hs
    rcases he.quiet with hq | ⟨straps, _, ht⟩ | ⟨_, rfl⟩ | ⟨_, hm, rfl⟩
    · exact quiet hq hs
    · rw [ht]; exact power straps s.pending
    · exact time s _ hs
    · exact index s hm hs

/-! ### The exceptions, block by block -/

theorem Write.ring {r : Request} {s t : State} (h : Write r s t) : t.ring = s.ring := by cases h <;> rfl
theorem Write.time {r : Request} {s t : State} (h : Write r s t) : t.time = s.time := by cases h <;> rfl
theorem Write.units {r : Request} {s t : State} (h : Write r s t) : t.units = s.units := by cases h <;> rfl
theorem Write.book {r : Request} {s t : State} (h : Write r s t) : t.book = s.book := by cases h <;> rfl
theorem Write.artworks {r : Request} {s t : State} (h : Write r s t) : t.artworks = s.artworks := by cases h <;> rfl
theorem Write.pack {r : Request} {s t : State} (h : Write r s t) : t.pack = s.pack := by cases h <;> rfl
theorem Write.ports {r : Request} {s t : State} (h : Write r s t) : t.ports = s.ports := by cases h <;> rfl

/-- LOAD writes the line, the unit record and the platen. -/
theorem LoadTaken.eq {s t : State} (h : LoadTaken s t) :
    t = { s with ring := t.ring, units := t.units, book := t.book } := by
  obtain ⟨u, pl, k, i, n, l, _, _, _, rfl⟩ := h
  rfl

theorem LoadTaken.position {s t : State} (h : LoadTaken s t) (p : PlatenNo) :
    (tget t.ring.platens p).position = (tget s.ring.platens p).position := by
  obtain ⟨u, pl, k, i, n, l, _, _, _, rfl⟩ := h
  change (tget (tset s.ring.platens pl { tget s.ring.platens pl with unit := some u }) p).position = _
  rw [tget_tset]
  split
  · next e => rw [e]
  · rfl

theorem LoadTaken.ring {s t : State} (h : LoadTaken s t) : t.ring = { s.ring with platens := t.ring.platens } := by
  obtain ⟨u, pl, k, i, n, l, _, _, _, rfl⟩ := h
  rfl

theorem clearLine_position (s : State) (p : PlatenNo) :
    (tget (clearLine s).ring.platens p).position = (tget s.ring.platens p).position := by
  rw [clearLine_eq]; simp

/-! ### The Time Base (R17) -/

/-- Settles O16. -/
theorem timeBaseTicksAlone : Obligations.TimeBaseTicksAlone := by
  refine ⟨fun s => ⟨_, rfl, rfl, ?_⟩, fun c s t hx hp => ?_⟩
  · change (s.time.now + 1).toNat = _
    have := s.time.now.isLt
    rw [BitVec.toNat_add]
    split <;> simp <;> omega
  · refine exec_rule (c := c) (R := fun s t => (c ≠ .timeBaseTick → t.time.now = s.time.now)
        ∧ ((∀ p, c ≠ .lineReset p) → t.time.lastReset = s.time.lastReset)
        ∧ (c ≠ .indexDone → ∀ p : PlatenNo, (tget t.ring.platens p).position = (tget s.ring.platens p).position))
      (fun _ => ⟨fun _ => rfl, fun _ => rfl, fun _ _ => rfl⟩) (fun _ _ _ _ _ _ => id) (fun _ _ _ _ => id) ?_ ?_ hx
    · intro r p s t hc h
      rcases h.quiet with hq | hw | ⟨_, hl⟩ | ⟨rfl, ht⟩
      · exact ⟨fun _ => by rw [hq.time], fun _ => by rw [hq.time], fun _ => hq.positions⟩
      · exact ⟨fun _ => by rw [hw.time], fun _ => by rw [hw.time], fun _ _ => by rw [hw.ring]⟩
      · exact ⟨fun _ => by rw [hl.eq], fun _ => by rw [hl.eq], fun _ => hl.position⟩
      · rw [ht]
        exact ⟨fun _ => by rw [clearLine_eq], fun hn => absurd hc (hn p), fun _ => clearLine_position s⟩
    · intro s t h
      rcases h.quiet with hq | ⟨straps, hc, _⟩ | ⟨hc, rfl⟩ | ⟨hc, hm, rfl⟩
      · exact ⟨fun _ => by rw [hq.time], fun _ => by rw [hq.time], fun _ => hq.positions⟩
      · exact absurd hc (hp straps)
      · exact ⟨fun hn => absurd hc hn, fun _ => rfl, fun _ _ => rfl⟩
      · exact ⟨fun _ => by rw [indexDone_moving hm]; rfl, fun _ => by rw [indexDone_moving hm]; rfl,
          fun hn => absurd hc hn⟩

/-! ### The gated tables -/

/-- The gated tables outside their gates, from `s` to `t` by the command `c`. -/
def Gated (c : Instr) (s t : State) : Prop :=
  (s.load.quiesce ≠ .quiesced →
      t.load.colours = s.load.colours ∧ t.load.sizeMap = s.load.sizeMap
        ∧ t.load.darkThreshold = s.load.darkThreshold ∧ t.load.scrapLimit = s.load.scrapLimit)
    ∧ (s.pretreat.quiesce ≠ .quiesced →
        t.pretreat.doses = s.pretreat.doses
          ∧ (t.bar.settings = s.bar.settings
            ∨ (∃ p, c = .writeSpraySettings p) ∧ t.bar.settings = { s.bar.settings with amplitude := 0 }))
    ∧ (s.print.quiesce ≠ .quiesced → t.print.watchdogLimit = s.print.watchdogLimit)
    ∧ (s.tunnel.quiesce ≠ .quiesced → t.tunnel.profile = s.tunnel.profile)

/-- What leaves every gated table alone. -/
theorem Gated.of_eq {c : Instr} {s t : State} (hl : { t.load with quiesce := s.load.quiesce } = s.load)
    (hd : t.pretreat.doses = s.pretreat.doses) (hb : t.bar.settings = s.bar.settings)
    (hw : t.print.watchdogLimit = s.print.watchdogLimit) (hp : t.tunnel.profile = s.tunnel.profile) : Gated c s t :=
  ⟨fun _ => by rw [← hl]; exact ⟨rfl, rfl, rfl, rfl⟩, fun _ => ⟨hd, .inl hb⟩, fun _ => hw, fun _ => hp⟩

theorem Bar.ditherOff_settings (w : Nat) (b : Bar) : (b.ditherOff w).settings = { b.settings with amplitude := 0 } := by
  unfold Bar.ditherOff
  split <;> rfl

/-- A write of a gated table finds the gate open, but for the dither-off write. -/
theorem Write.gated {r : Request} {s t : State} (p : Port) (h : Write r s t) : Gated (r.command p) s t := by
  have other : (s.load.quiesce ≠ .quiesced → t.load = s.load) → t.pretreat = s.pretreat → t.bar = s.bar →
      t.print = s.print → t.tunnel = s.tunnel → Gated (r.command p) s t := fun hl hd hb hw hp =>
    ⟨fun hq => by rw [hl hq]; exact ⟨rfl, rfl, rfl, rfl⟩, fun _ => by rw [hd, hb]; exact ⟨rfl, .inl rfl⟩,
      fun _ => by rw [hw], fun _ => by rw [hp]⟩
  cases h with
  | writeColourTable first vals hq => exact other (absurd hq) rfl rfl rfl rfl
  | writeSizeMap z cls hq => exact other (absurd hq) rfl rfl rfl rfl
  | writeDarkThreshold b hq => exact other (absurd hq) rfl rfl rfl rfl
  | writeScrapLimit l hl hq => exact other (absurd hq) rfl rfl rfl rfl
  | writeDoseTable first doses hd hq => exact ⟨fun _ => ⟨rfl, rfl, rfl, rfl⟩, absurd hq, fun _ => rfl, fun _ => rfl⟩
  | ditherOff w =>
    exact ⟨fun _ => ⟨rfl, rfl, rfl, rfl⟩, fun _ => ⟨rfl, .inr ⟨⟨p, rfl⟩, Bar.ditherOff_settings _ _⟩⟩, fun _ => rfl,
      fun _ => rfl⟩
  | writeSpraySettings x hr hq => exact ⟨fun _ => ⟨rfl, rfl, rfl, rfl⟩, absurd hq, fun _ => rfl, fun _ => rfl⟩
  | writeEngineProfile limit hl hq =>
    exact ⟨fun _ => ⟨rfl, rfl, rfl, rfl⟩, fun _ => ⟨rfl, .inl rfl⟩, absurd hq, fun _ => rfl⟩
  | writeCureProfile x hr hq =>
    exact ⟨fun _ => ⟨rfl, rfl, rfl, rfl⟩, fun _ => ⟨rfl, .inl rfl⟩, fun _ => rfl, absurd hq⟩

theorem Quiet.gated {w : Holder} {c : Instr} {s t : State} (h : Quiet w s t) : Gated c s t :=
  .of_eq h.load h.doses h.settings h.limit h.profile

/-- Settles O6: the table writes alone reach the gated tables, and each but the dither-off write has its gate. -/
theorem gatedTablesChangeOnlyAtRest : Obligations.GatedTablesChangeOnlyAtRest := by
  intro c s t hx hp
  change Gated c s t
  refine exec_rule (c := c) (fun _ => .of_eq rfl rfl rfl rfl rfl) (fun _ _ _ _ _ _ => id) (fun _ _ _ _ => id) ?_ ?_ hx
  · rintro r p s t rfl h
    rcases h.quiet with hq | hw | ⟨_, hl⟩ | ⟨_, ht⟩
    · exact hq.gated
    · exact hw.gated p
    · rw [hl.eq]; exact .of_eq rfl rfl rfl rfl rfl
    · rw [ht, clearLine_eq]; exact .of_eq rfl rfl (Bar.stop_settings _ _) rfl rfl
  · intro s t h
    rcases h.quiet with hq | ⟨straps, hc, _⟩ | ⟨_, rfl⟩ | ⟨_, hm, rfl⟩
    · exact hq.gated
    · exact absurd hc (hp straps)
    · exact .of_eq rfl rfl rfl rfl rfl
    · rw [indexDone_moving hm]; exact .of_eq rfl rfl rfl rfl rfl

/-! ### The ring -/

theorem Ring.spaced.of_positions {a b : Ring} (h : a.spaced)
    (e : ∀ p : PlatenNo, (tget b.platens p).position = (tget a.platens p).position) : b.spaced := by
  obtain ⟨k, hk⟩ := h
  exact ⟨k, fun p => (e p).trans (hk p)⟩

/-- Settles O8: only an index's completion moves the platens, all by one. -/
theorem ringInvariantKept : Obligations.RingInvariantKept := by
  intro s t hs h
  refine step_of_quiet (I := State.ringSound) (fun _ _ => id) (fun hq hs => ⟨hq.ring hs.1, hs.2.of_positions hq.positions⟩)
    (fun r s t hw hs => ?_) (fun s t hl hs => ⟨?_, hs.2.of_positions hl.position⟩)
    (fun s hs => ⟨?_, hs.2.of_positions (clearLine_position s)⟩) powered_ringSound (fun _ _ => id) (fun s hm hs => ?_) hs h
  · unfold State.ringSound
    rwa [hw.ring]
  · rw [hl.ring]; exact hs.1
  · obtain ⟨hgrant, _, _⟩ := hs.1
    rw [clearLine_eq]
    exact ⟨hgrant, fun _ => rfl, by simp⟩
  · have hspaced := Ring.stopped_spaced hs.2
    rw [indexDone_moving hm]
    exact ⟨⟨by simp [Ring.stopped], by simp [Ring.stopped], fun _ => rfl⟩, hspaced⟩

/-! ### The tunnel -/

theorem Write.tunnelSound {r : Request} {s t : State} (h : Write r s t) (hs : s.tunnelSound) : t.tunnelSound := by
  cases h with
  | writeCureProfile x hr hq =>
    obtain ⟨hqueue, hexits, hzones, _, _, _⟩ := hs
    exact ⟨hqueue, hexits, hzones, hr, Nat.zero_le _, by simp [acceptProfile, Config.readyTicks]⟩
  | _ => exact hs

theorem Write.transferFollows {r : Request} {s t : State} (h : Write r s t) (hs : s.transferFollows) :
    t.transferFollows := by
  cases h with
  | writeCureProfile x hr hq => exact acceptProfile_follows x hs hq
  | _ => exact hs

/-- Settles O9. -/
theorem tunnelInvariantKept : Obligations.TunnelInvariantKept := by
  constructor
  · intro s t hs h
    refine step_of_quiet (I := State.tunnelSound) (fun _ _ => id) (fun hq => hq.tunnel) (fun r s t hw => hw.tunnelSound)
      (fun s t hl hs => ?_) (fun s hs => ?_) powered_tunnelSound (fun _ _ => id) (fun s hm hs => ?_) hs h
    · rw [hl.eq]; exact hs
    · obtain ⟨_, _, hzones, hprofile, hready⟩ := hs
      rw [clearLine_eq]
      exact ⟨Nat.zero_le _, Nat.zero_le _, hzones, hprofile, hready⟩
    · rw [indexDone_moving hm]; exact hs
  · intro s t hs h
    refine step_of_quiet (I := State.transferFollows) (fun _ _ => id) (fun hq => hq.transfer)
      (fun r s t hw => hw.transferFollows) (fun s t hl hs => ?_) (fun s hs => ?_) powered_transferFollows (fun _ _ => id)
      (fun s hm hs => ?_) hs h
    · rw [hl.eq]; exact hs
    · rw [clearLine_eq]; simp [State.transferFollows]
    · rw [indexDone_moving hm]; exact hs

end Sys2Proof.Machine
end

section
/-! The books as a machine of their own: what every command does to the orders, the lines, the artworks, the bins, the
shelf and the claims of the units, cut into moves that each keep the books' invariants. -/

namespace Sys2Proof.Machine

/-! ### The moves -/

/-- What a unit in use claims: a line position of an order. -/
def State.claim (s : State) (u : UnitNo) : Option (Handle × Fin 8) := (s.shirt u).map fun sh => (sh.order, sh.line)

/-- From `s` to `t` the books, the bins, the shelf and the claims stay, and of the artworks all but the staged flags. -/
structure Aside (s t : State) : Prop where
  book : t.book = s.book
  artworks : ∀ a, (tget t.artworks a).refs = (tget s.artworks a).refs ∧ (tget t.artworks a).design = (tget s.artworks a).design
  bins : t.pack.bins = s.pack.bins
  shelf : t.pack.shelf = s.pack.shelf
  age : t.pack.age = s.pack.age
  claims : ∀ u, t.claim u = s.claim u

/-- One move of the books, with what guards it. -/
inductive Move : State → State → Prop
  | aside {s t} (h : Aside s t) : Move s t
  | define {s} (a : ArtworkNo) (d : Design) (hd : (tget s.artworks a).design = none) :
      Move s (putArtwork a { design := some d, refs := 0, staged := false } s)
  | remove {s} (a : ArtworkNo) (hr : (tget s.artworks a).refs = 0) : Move s (putArtwork a .empty s)
  | accept {s} (i : OrderNo) (x : Submission) (hi : s.order i = none)
      (hq : ∀ e ∈ x.entries, 1 ≤ e.quantity ∧ e.quantity ≤ 48)
      (he : ∀ e ∈ x.entries, (tget s.artworks e.artwork).design.isSome = true) (hl : x.entries.length ≤ freeLines s) :
      Move s (acceptOrder i x s)
  | unheld {s} (i : OrderNo) (o : Order) (ho : s.order i = some o) :
      Move s (putOrder i (some { o with holdReason := none }) s)
  | leave {s} (i : OrderNo) (o : Order) (st : OrderState) (r : Option HoldReason) (ho : s.order i = some o)
      (hs : st = .held ∨ (st = .complete ∧ allGood s o = true ∧ o.bin.isSome = true)
        ∨ (st = .cancelling ∧ o.bin = none)) :
      Move s (leaveActive i (putOrder i (some { o with state := st, holdReason := r }) s))
  | join {s} (i : OrderNo) (o : Order) (ho : s.order i = some o) (hs : o.state = .held) :
      Move s (joinActive i (putOrder i (some { o with state := .active, holdReason := none }) s))
  | assign {s} (i : OrderNo) (o : Order) (b : BinNo) (ho : s.order i = some o) (hn : o.bin = none)
      (hs : o.state ≠ .cancelling) (hb : tget s.pack.bins b = none) :
      Move s (putOrder i (some { o with bin := some b })
        (s.setPack { s.pack with bins := tset s.pack.bins b (some (s.handleOf i)) }))
  | unbin {s} (i : OrderNo) (o : Order) (b : BinNo) (ho : s.order i = some o) (hb : o.bin = some b)
      (hs : o.state ≠ .complete) : Move s (releaseBin b i s)
  | giveBack {s} (i : OrderNo) (o : Order) (ho : s.order i = some o) (hs : o.state = .cancelling)
      (hf : totalInFlight s o = 0) : Move s (returnDescriptor i s)
  | drop {s} (i : OrderNo) (o : Order) (ho : s.order i = some o) (hb : o.bin = none) (hf : totalInFlight s o = 0) :
      Move s (returnDescriptor i (leaveActive i s))
  | close {s} (b : BinNo) (h : Handle) (o : Order) (hb : tget s.pack.bins b = some h) (ho : s.order h.index = some o)
      (hs : o.state = .complete) : Move s (returnDescriptor h.index (releaseBin b h.index s))
  | shelve {s} (sl : SlotNo) (a : ArtworkNo) (k : Sku) (hf : tget s.pack.shelf sl = none) : Move s (placeEntry sl a k s)
  | unshelve {s} (sl : SlotNo) : Move s (removeEntry sl s)
  | good {s} (n : LineNo) (l : Line) (hl : s.line n = some l) (hn : 0 < l.need) :
      Move s (putLine n (some { l with good := l.good + 1 }) s)
  | load {s t} (h : LoadTaken s t) : Move s t
  | freed {s} (u : UnitNo) (sh : Shirt) (n : LineNo) (l : Line) (d : Disposition) (hsh : s.shirt u = some sh)
      (hn : lineNoOf s sh.order.index sh.line = some n) (hl : s.line n = some l) :
      Move s (putLine n (some (l.adjusted d)) (clearUnit u s))
  | stray {s} (u : UnitNo) (sh : Shirt) (hsh : s.shirt u = some sh)
      (hn : ∀ n, lineNoOf s sh.order.index sh.line = some n → s.line n = none) : Move s (clearUnit u s)
  | unclaim {s} : Move s (resetLines (resetUnits s))

/-- The books' moves one after another. -/
abbrev Moves : State → State → Prop := Relation.ReflTransGen Move

theorem Move.moves {s t : State} (h : Move s t) : Moves s t := .single h

namespace Aside

theorem refl (s : State) : Aside s s := ⟨rfl, fun _ => ⟨rfl, rfl⟩, rfl, rfl, rfl, fun _ => rfl⟩

theorem trans {s t u : State} (a : Aside s t) (b : Aside t u) : Aside s u where
  book := b.book.trans a.book
  artworks x := ⟨(b.artworks x).1.trans (a.artworks x).1, (b.artworks x).2.trans (a.artworks x).2⟩
  bins := b.bins.trans a.bins
  shelf := b.shelf.trans a.shelf
  age := b.age.trans a.age
  claims u := (b.claims u).trans (a.claims u)

theorem moves {s t : State} (h : Aside s t) : Moves s t := (Move.aside h).moves

end Aside

/-! ### Operations outside the books -/

theorem claim_of_units {s t : State} (h : t.units = s.units) (u : UnitNo) : t.claim u = s.claim u := by
  simp only [State.claim, State.shirt, h]

theorem Aside.of_blocks {s t : State} (h1 : t.units = s.units) (h2 : t.book = s.book) (h3 : t.artworks = s.artworks)
    (h4 : t.pack.bins = s.pack.bins) (h5 : t.pack.shelf = s.pack.shelf) (h6 : t.pack.age = s.pack.age) : Aside s t :=
  ⟨h2, fun _ => by rw [h3]; exact ⟨rfl, rfl⟩, h4, h5, h6, claim_of_units h1⟩

theorem moves_of_blocks {s t : State} (h1 : t.units = s.units) (h2 : t.book = s.book) (h3 : t.artworks = s.artworks)
    (h4 : t.pack = s.pack) : Moves s t :=
  (Aside.of_blocks h1 h2 h3 (by rw [h4]) (by rw [h4]) (by rw [h4])).moves

theorem Unmoved.aside {s t : State} (h : Unmoved s t) : Aside s t where
  book := h.book
  artworks a := by rw [h.artworks]; exact ⟨rfl, rfl⟩
  bins := by rw [h.pack]
  shelf := by rw [h.pack]
  age := by rw [h.pack]
  claims u := by
    have e := congrArg (Option.map fun c : Option PlatenNo × Handle × Fin 8 => c.2) (h.shirts u)
    simpa [State.claim, Option.map_map, Function.comp_def, Shirt.claim] using e

theorem modifyShirt_aside (u : UnitNo) (f : Shirt → Shirt) (s : State) (hf : ∀ sh, (f sh).order = sh.order ∧ (f sh).line = sh.line) :
    Aside s (modifyShirt u f s) where
  book := by simp
  artworks _ := by simp
  bins := by simp
  shelf := by simp
  age := by simp
  claims v := by
    by_cases h : v = u
    · subst h
      cases hs : s.shirt v <;> simp [State.claim, hs, hf]
    · simp [State.claim, modifyShirt_shirt_ne f s h]

theorem retest_aside (s : State) : Aside s (retest s) := (retest_unmoved s).aside

theorem leavePlaten_aside (u : UnitNo) (s : State) : Aside s (leavePlaten u s) := by
  unfold leavePlaten
  split
  · exact .trans (t := setPlatenUnit _ none s) (.of_blocks rfl rfl rfl rfl rfl rfl)
      (modifyShirt_aside u (fun sh => { sh with platen := none }) _ fun _ => ⟨rfl, rfl⟩)
  · exact .refl s

theorem leaveQueue_aside (u : UnitNo) (s : State) : Aside s (leaveQueue u s) :=
  .of_blocks (by simp) (by simp) (by simp) (by simp) (by simp) (by simp)

theorem leaveExits_aside (u : UnitNo) (s : State) : Aside s (leaveExits u s) :=
  .of_blocks (by simp) (by simp) (by simp) (by simp [leaveExits_pack]) (by simp [leaveExits_pack]) (by simp [leaveExits_pack])

theorem joinQueue_aside (u : UnitNo) (s : State) : Aside s (joinQueue u s) :=
  .of_blocks (by simp) (by simp) (by simp) (by simp) (by simp) (by simp)

theorem joinExits_aside (u : UnitNo) (s : State) : Aside s (joinExits u s) :=
  .trans (t := s.setPack { s.pack with exits := s.pack.exits ++ [u] }) (.of_blocks rfl rfl rfl rfl rfl rfl)
    ((modifyShirt_aside u (fun sh => { sh with state := .exited }) _ fun _ => ⟨rfl, rfl⟩).trans (retest_aside _))

theorem leavePlace_aside (u : UnitNo) (s : State) : Aside s (leavePlace u s) :=
  (leavePlaten_aside u s).trans ((leaveQueue_aside u _).trans (leaveExits_aside u _))

theorem putArtwork_aside (a : ArtworkNo) (b : Bool) (s : State) :
    Aside s (putArtwork a { tget s.artworks a with staged := b } s) where
  book := rfl
  artworks x := by
    change (tget (tset s.artworks a _) x).refs = _ ∧ (tget (tset s.artworks a _) x).design = _
    rw [tget_tset]
    split
    · next e => rw [e]; exact ⟨rfl, rfl⟩
    · exact ⟨rfl, rfl⟩
  bins := rfl
  shelf := rfl
  age := rfl
  claims _ := rfl

theorem post_moves (p : Port) (n : Notice) (s : State) : Moves s (post p n s) := (post_unmoved p n s).aside.moves

/-! ### Orders and their units -/

theorem freeOrder_eq {i : OrderNo} {s : State} {o : Order} (c : FreedCause) (h : s.order i = some o) :
    freeOrder i c s = post .order (.orderFreed (s.handleOf i) o.webNumber c) (returnDescriptor i s) := by
  unfold freeOrder; simp only [h]

theorem returnCheck_moves (i : OrderNo) (s : State) : Moves s (returnCheck i s) := by
  rcases returnCheck_cases i s with e | ⟨o, ho, hs, hf, e⟩ <;> rw [e]
  rw [freeOrder_eq _ ho]
  exact (Move.giveBack i o ho hs hf).moves.trans (post_moves _ _ _)

theorem scrapLimitCheck_moves (i : OrderNo) (k : Fin 8) (b a : Nat) (s : State) : Moves s (scrapLimitCheck i k b a s) := by
  unfold scrapLimitCheck
  split
  · exact .refl
  · next o ho =>
    split
    · exact (Move.leave i o .held _ ho (.inl rfl)).moves.trans (post_moves _ _ _)
    · exact .refl

theorem completionCheck_moves {i : OrderNo} {s : State} (h : ∀ o, s.order i = some o → o.bin.isSome = true) :
    Moves s (completionCheck i s) := by
  unfold completionCheck
  split
  · exact .refl
  · next o ho =>
    split
    · next hg =>
      exact (Move.leave i o .complete _ ho (.inr (.inl ⟨rfl, hg, h o ho⟩))).moves.trans
        ((post_moves _ _ _).trans (post_moves _ _ _))
    · exact .refl

theorem afterAdjust_moves {i : OrderNo} (k : Fin 8) {d : Disposition} (before after : Line) {s : State}
    (h : d = .binned → ∀ o, s.order i = some o → o.bin.isSome = true) : Moves s (afterAdjust i k d before after s) := by
  unfold afterAdjust
  split
  · exact completionCheck_moves (h rfl)
  · split
    · split
      · exact returnCheck_moves _ _
      · exact scrapLimitCheck_moves _ _ _ _ _
    · exact .refl
  · exact returnCheck_moves _ _
  · exact returnCheck_moves _ _
  · exact returnCheck_moves _ _
  · exact .refl

/-! ### The freeing of a unit: the books' side and the clearing of the record commute -/

section
variable (v : Vector UnitRecord 40) (i : OrderNo) (s : State)

theorem returnLine_setUnits (n : LineNo) : returnLine (s.setUnits v) n = (returnLine s n).setUnits v := by
  have e : (s.setUnits v).line n = s.line n := rfl
  unfold returnLine
  rw [e]
  cases s.line n <;> rfl

theorem returnLines_setUnits (ns : List LineNo) : ns.foldl returnLine (s.setUnits v) = (ns.foldl returnLine s).setUnits v := by
  induction ns generalizing s with
  | nil => rfl
  | cons n ns ih => rw [List.foldl_cons, List.foldl_cons, returnLine_setUnits, ih]

theorem returnDescriptor_setUnits : returnDescriptor i (s.setUnits v) = (returnDescriptor i s).setUnits v := by
  have e : (s.setUnits v).order i = s.order i := rfl
  unfold returnDescriptor
  rw [e]
  cases s.order i with
  | none => rfl
  | some o => dsimp only; rw [returnLines_setUnits]; rfl

theorem freeOrder_setUnits (c : FreedCause) : freeOrder i c (s.setUnits v) = (freeOrder i c s).setUnits v := by
  have e : (s.setUnits v).order i = s.order i := rfl
  unfold freeOrder
  rw [e]
  cases s.order i with
  | none => rfl
  | some o => dsimp only; rw [returnDescriptor_setUnits]; rfl

theorem returnCheck_setUnits : returnCheck i (s.setUnits v) = (returnCheck i s).setUnits v := by
  have e : (s.setUnits v).order i = s.order i := rfl
  have total : ∀ o, totalInFlight (s.setUnits v) o = totalInFlight s o := fun _ => rfl
  unfold returnCheck
  rw [e]
  cases s.order i with
  | none => rfl
  | some o =>
    dsimp only
    rw [total, freeOrder_setUnits]
    split <;> rfl

theorem scrapLimitCheck_setUnits (k : Fin 8) (b a : Nat) :
    scrapLimitCheck i k b a (s.setUnits v) = (scrapLimitCheck i k b a s).setUnits v := by
  have e : (s.setUnits v).order i = s.order i := rfl
  have limit : (s.setUnits v).load.scrapLimit = s.load.scrapLimit := rfl
  unfold scrapLimitCheck
  rw [e, limit]
  cases s.order i with
  | none => rfl
  | some o => dsimp only; split <;> rfl

theorem completionCheck_setUnits : completionCheck i (s.setUnits v) = (completionCheck i s).setUnits v := by
  have e : (s.setUnits v).order i = s.order i := rfl
  have all : ∀ o, allGood (s.setUnits v) o = allGood s o := fun _ => rfl
  unfold completionCheck
  rw [e]
  cases s.order i with
  | none => rfl
  | some o => dsimp only; rw [all]; split <;> rfl

theorem afterAdjust_setUnits (k : Fin 8) (d : Disposition) (before after : Line) :
    afterAdjust i k d before after (s.setUnits v) = (afterAdjust i k d before after s).setUnits v := by
  have e : (s.setUnits v).order i = s.order i := rfl
  cases d with
  | binned => exact completionCheck_setUnits v i s
  | lineReset => rfl
  | scrapped =>
    unfold afterAdjust
    dsimp only
    rw [e, returnCheck_setUnits, scrapLimitCheck_setUnits]
    split
    · split <;> rfl
    · rfl
  | unloaded => exact returnCheck_setUnits v i s
  | orphaned => exact returnCheck_setUnits v i s
  | lost => exact returnCheck_setUnits v i s

end

theorem clearUnit_afterAdjust (u : UnitNo) (i : OrderNo) (k : Fin 8) (d : Disposition) (before after : Line) (s : State) :
    clearUnit u (afterAdjust i k d before after s) = afterAdjust i k d before after (clearUnit u s) := by
  have units := afterAdjust_units i k d before after s
  unfold clearUnit
  rw [afterAdjust_setUnits]
  simp only [State.generation, units]

/-- A unit is freed in moves: it leaves its place, its claim and its line's count of it go together, its order follows. -/
theorem freeUnit_moves {d : Disposition} {u : UnitNo} {s : State}
    (h : d = .binned → ∀ sh o, s.shirt u = some sh → s.order sh.order.index = some o → o.bin.isSome = true) :
    Moves s (freeUnit d u s) := by
  unfold freeUnit
  cases hsh : s.shirt u with
  | none => exact .refl
  | some sh =>
    dsimp only
    have place := leavePlace_aside u s
    refine place.moves.trans ?_
    have order : ∀ i, (leavePlace u s).order i = s.order i := fun i => by rw [State.order, place.book]; rfl
    obtain ⟨sh', hsh', hc⟩ : ∃ sh', (leavePlace u s).shirt u = some sh' ∧ (sh'.order, sh'.line) = (sh.order, sh.line) := by
      have e := place.claims u
      rw [State.claim, State.claim, hsh] at e
      exact Option.map_eq_some_iff.mp e
    obtain ⟨ho, hl⟩ := Prod.mk.inj hc
    rw [← ho, ← hl]
    generalize leavePlace u s = p at *
    unfold bookFreed
    split
    · next hn => exact (Move.stray u sh' hsh' fun n e => by rw [hn] at e; cases e).moves
    · next n hn =>
      split
      · next hline => exact (Move.stray u sh' hsh' fun m e => by rw [hn] at e; cases e; exact hline).moves
      · next l hline =>
        rw [clearUnit_afterAdjust]
        refine (Move.freed u sh' n l d hsh' hn hline).moves.trans (afterAdjust_moves _ _ _ fun hd o e => ?_)
        rw [ho] at e
        exact h hd sh o hsh ((order _).symm.trans e)

theorem loseUnit_moves (u : UnitNo) (r : LostReason) (s : State) : Moves s (loseUnit u r s) := by
  unfold loseUnit
  split
  · exact (leaveQueue_aside u s).moves
  · exact (freeUnit_moves (by simp)).trans (post_moves _ _ _)

/-! ### Bins and the shelf -/

/-- An order with a bin that no cancellation has taken. -/
def State.binned (s : State) (i : OrderNo) : Prop := ∃ o, s.order i = some o ∧ o.bin.isSome = true ∧ o.state ≠ .cancelling

/-- An order that no cancellation has taken. -/
def State.live (s : State) (i : OrderNo) : Prop := ∃ o, s.order i = some o ∧ o.state ≠ .cancelling

theorem assignBin_moves {i : OrderNo} {s s1 : State} {b : BinNo} (h : assignBin i s = some (b, s1)) (hi : s.live i) :
    Moves s s1 ∧ s1.binned i := by
  obtain ⟨o, ho, hs⟩ := hi
  unfold assignBin at h
  simp only [ho] at h
  split at h
  · next b' hb =>
    obtain ⟨-, rfl⟩ := Prod.mk.inj (Option.some.inj h)
    exact ⟨.refl, o, ho, by rw [hb]; rfl, hs⟩
  · next hb =>
    split at h
    · cases h
    · next b' hf =>
      obtain ⟨-, rfl⟩ := Prod.mk.inj (Option.some.inj h)
      refine ⟨(Move.assign i o b' ho hb hs ?_).moves, _, putOrder_order_same _ _ _, rfl, hs⟩
      unfold lowestFreeBin at hf
      simpa using (lowest_some hf).1

theorem assignBin_shirt {i : OrderNo} {s s1 : State} {b : BinNo} (h : assignBin i s = some (b, s1)) (u : UnitNo) :
    s1.shirt u = s.shirt u := by
  unfold assignBin at h
  split at h
  · cases h
  · split at h
    · obtain ⟨-, rfl⟩ := Prod.mk.inj (Option.some.inj h); rfl
    · split at h
      · cases h
      · obtain ⟨-, rfl⟩ := Prod.mk.inj (Option.some.inj h); rfl

theorem completionCheck_live {i : OrderNo} {s : State} (h : s.live i) : (completionCheck i s).live i := by
  obtain ⟨o, ho, hs⟩ := h
  unfold completionCheck
  simp only [ho]
  split
  · exact ⟨_, putOrder_order_same _ _ _, by simp⟩
  · exact ⟨o, ho, hs⟩

theorem takeOne_moves {i : OrderNo} {n : LineNo} {l : Line} (sl : SlotNo) (b : BinNo) {s : State} (h : s.binned i)
    (hl : s.line n = some l) (hn : 0 < l.need) : Moves s (takeOne i n l sl b s) ∧ (takeOne i n l sl b s).live i := by
  obtain ⟨o, ho, hb, hs⟩ := h
  unfold takeOne
  constructor
  · refine ((Move.unshelve sl).moves.trans ((Move.good (s := removeEntry sl s) n l hl hn).moves.trans (post_moves _ _ _))).trans
      (completionCheck_moves fun o' ho' => ?_)
    obtain rfl := Option.some.inj (ho.symm.trans ho')
    exact hb
  · exact completionCheck_live ⟨o, ho, hs⟩

theorem uptakeLine_moves {i : OrderNo} (n : LineNo) (fuel : Nat) (r : Uptake) (h : r.state.live i) :
    Moves r.state (uptakeLine i n fuel r).state ∧ (uptakeLine i n fuel r).state.live i := by
  induction fuel generalizing r with
  | zero => exact ⟨.refl, h⟩
  | succ fuel ih =>
    rw [uptakeLine_succ]
    split
    · exact ⟨.refl, h⟩
    · split
      · exact ⟨.refl, h⟩
      · next l hl =>
        split
        · exact ⟨.refl, h⟩
        · next sl _ =>
          split
          · exact ⟨.refl, h⟩
          · next hn =>
            split
            · exact ⟨.refl, h⟩
            · next b s1 hb =>
              obtain ⟨h1, binned⟩ := assignBin_moves hb h
              obtain ⟨h2, live⟩ := takeOne_moves sl b binned (assignBin_line hb n ▸ hl) (Nat.pos_of_ne_zero hn)
              obtain ⟨h3, live3⟩ := ih { state := takeOne i n l sl b s1, taken := r.taken + 1, stopped := false } live
              exact ⟨h1.trans (h2.trans h3), live3⟩

theorem uptakeLines_moves {i : OrderNo} (ns : List LineNo) (r : Uptake) (h : r.state.live i) :
    Moves r.state (ns.foldl (fun r n => uptakeLine i n 16 r) r).state := by
  induction ns generalizing r with
  | nil => exact .refl
  | cons n ns ih =>
    obtain ⟨h1, live⟩ := uptakeLine_moves n 16 r h
    exact h1.trans (ih _ live)

theorem orphanUptake_moves {i : OrderNo} {s : State} (h : s.live i) : Moves s (orphanUptake i s).1 := by
  unfold orphanUptake
  split
  · exact .refl
  · exact uptakeLines_moves _ { state := s, taken := 0, stopped := false } h

/-- Shirts shelved one after another: moves, which leave everything but the shelf alone. -/
theorem shelves_moves (shirts : List (ArtworkNo × Sku)) (r : Emptying) :
    Moves r.state (shelves shirts r).state ∧ (shelves shirts r).state.book = r.state.book := by
  induction shirts generalizing r with
  | nil => exact ⟨.refl, rfl⟩
  | cons x shirts ih =>
    have one : Moves r.state (shelveOne x.1 x.2 r).state ∧ (shelveOne x.1 x.2 r).state.book = r.state.book := by
      unfold shelveOne
      split
      · next sl hf =>
        refine ⟨(Move.shelve sl _ _ ?_).moves, rfl⟩
        unfold lowestFreeSlot at hf
        simpa using (lowest_some hf).1
      · exact ⟨.refl, rfl⟩
    obtain ⟨h2, e2⟩ := ih (shelveOne x.1 x.2 r)
    exact ⟨one.1.trans h2, e2.trans one.2⟩

theorem emptyBin_moves {i : OrderNo} {s : State} {o : Order} (ho : s.order i = some o) (hs : o.state ≠ .complete) :
    Moves s (emptyBin i s) := by
  unfold emptyBin
  simp only [ho]
  split
  · exact .refl
  · next b hb =>
    rw [shelveLines_eq]
    obtain ⟨h1, e⟩ := shelves_moves ((linesOf s o).flatMap fun l => List.replicate l.good (l.artwork, l.sku))
      { state := s, made := 0, wasted := 0 }
    refine h1.trans ((Move.unbin i o b ?_ hb hs).moves.trans (post_moves _ _ _))
    rw [State.order, e]
    exact ho

/-! ### Cancellation -/

theorem shelves_cons (x : ArtworkNo × Sku) (shirts : List (ArtworkNo × Sku)) (r : Emptying) :
    shelves (x :: shirts) r = shelves shirts (shelveOne x.1 x.2 r) := rfl

/-- The shelving of shirts and the Active Order List do not meet. -/
theorem shelves_leaveActive (i : OrderNo) (shirts : List (ArtworkNo × Sku)) (s : State) (m w : Nat) :
    shelves shirts { state := leaveActive i s, made := m, wasted := w } =
      { shelves shirts { state := s, made := m, wasted := w } with
        state := leaveActive i (shelves shirts { state := s, made := m, wasted := w }).state } := by
  induction shirts generalizing s m w with
  | nil => rfl
  | cons x shirts ih =>
    have e : lowestFreeSlot (leaveActive i s) = lowestFreeSlot s := rfl
    rw [shelves_cons, shelves_cons]
    unfold shelveOne
    dsimp only
    rw [e]
    cases lowestFreeSlot s with
    | none => exact ih s m (w + 1)
    | some sl => exact ih (placeEntry sl x.1 x.2 s) (m + 1) w

theorem releaseBin_leaveActive (b : BinNo) (i j : OrderNo) (s : State) :
    releaseBin b j (leaveActive i s) = leaveActive i (releaseBin b j s) := by
  have e : ∀ v : Pack, ((leaveActive i s).setPack v).order j = (s.setPack v).order j := fun _ => rfl
  have p : (leaveActive i s).pack = s.pack := rfl
  unfold releaseBin modifyOrder
  rw [e, p]
  cases (s.setPack { s.pack with bins := tset s.pack.bins b none }).order j <;> rfl

theorem emptyBin_leaveActive (i j : OrderNo) (s : State) : emptyBin j (leaveActive i s) = leaveActive i (emptyBin j s) := by
  have e : (leaveActive i s).order j = s.order j := rfl
  have lines : ∀ o, linesOf (leaveActive i s) o = linesOf s o := fun _ => rfl
  unfold emptyBin
  rw [e]
  cases s.order j with
  | none => rfl
  | some o =>
    dsimp only
    cases o.bin with
    | none => rfl
    | some b =>
      dsimp only
      rw [lines, shelveLines_eq, shelveLines_eq, shelves_leaveActive, releaseBin_leaveActive]
      rfl

theorem modifyOrder_some {i : OrderNo} {s : State} {o : Order} (f : Order → Order) (h : s.order i = some o) :
    modifyOrder i f s = putOrder i (some (f o)) s := by
  unfold modifyOrder; simp only [h]

theorem releaseBin_lines (b : BinNo) (i : OrderNo) (s : State) : (releaseBin b i s).book.lines = s.book.lines := by
  unfold releaseBin modifyOrder
  split <;> rfl

theorem emptyBin_lines (i : OrderNo) (s : State) : (emptyBin i s).book.lines = s.book.lines := by
  unfold emptyBin
  split
  · rfl
  · next o ho =>
    split
    · rfl
    · next b hb =>
      rw [shelveLines_eq]
      obtain ⟨_, e⟩ := shelves_moves ((linesOf s o).flatMap fun l => List.replicate l.good (l.artwork, l.sku))
        { state := s, made := 0, wasted := 0 }
      exact (releaseBin_lines _ _ _).trans (congrArg OrderBook.lines e)

theorem cancelLive_moves {i : OrderNo} {o : Order} {s : State} (ho : s.order i = some o)
    (hs : o.state = .active ∨ o.state = .held) : Moves s (cancelLive i o s) := by
  have unheld : Moves s (putOrder i (some { o with holdReason := none }) s) := (Move.unheld i o ho).moves
  have ho1 := putOrder_order_same i (some { o with holdReason := none }) s
  have emptied := emptyBin_moves ho1 (by rcases hs with h | h <;> simp [h])
  have lines := emptyBin_lines i (putOrder i (some { o with holdReason := none }) s)
  have ho2 := emptyBin_order ho1
  unfold cancelLive withdrawOrder
  dsimp only
  rw [emptyBin_leaveActive]
  generalize emptyBin i (putOrder i (some { o with holdReason := none }) s) = e at *
  have ho3 : (leaveActive i e).order i = some { o with holdReason := none, bin := none } := ho2
  have total : totalInFlight e { o with holdReason := none, bin := none } = totalInFlight s o := by
    unfold totalInFlight linesOf State.line
    rw [lines]
    rfl
  refine unheld.trans (emptied.trans ?_)
  split
  · next hf =>
    rw [freeOrder_eq _ ho3]
    exact (Move.drop i _ ho2 rfl (total.trans hf)).moves.trans (post_moves _ _ _)
  · rw [modifyOrder_some _ ho3]
    exact (Move.leave i _ .cancelling none ho2 (.inr (.inr ⟨rfl, rfl⟩))).moves

/-! ### LINE RESET -/

/-- No line has a shirt in flight. -/
def State.unflown (s : State) : Prop := ∀ n l, s.line n = some l → l.inFlight = 0

theorem State.unflown.total {s : State} (h : s.unflown) (o : Order) : totalInFlight s o = 0 := by
  refine Nat.eq_zero_of_not_pos fun hp => ?_
  obtain ⟨n, _, l, hl, hpos⟩ := (totalInFlight_pos s o).mp hp
  have := h n l hl
  omega

theorem returnCancelling_moves (r : Returned) (i : OrderNo) (hf : r.state.unflown) :
    Moves r.state (returnCancelling r i).state ∧ (returnCancelling r i).state.unflown := by
  unfold returnCancelling
  split
  · next o ho =>
    split
    · next hs =>
      refine ⟨(Move.giveBack i o ho hs (hf.total o)).moves, fun n l hl => hf n l ?_⟩
      obtain ⟨_, _, _, _, _, lines, _⟩ := returnDescriptor_cases ho
      dsimp only at hl
      rw [lines] at hl
      split at hl
      · cases hl
      · exact hl
    · exact ⟨.refl, hf⟩
  · exact ⟨.refl, hf⟩

theorem returnCancelling_foldl_moves (L : List OrderNo) (r : Returned) (hf : r.state.unflown) :
    Moves r.state (L.foldl returnCancelling r).state := by
  induction L generalizing r with
  | nil => exact .refl
  | cons i L ih =>
    obtain ⟨h, hf'⟩ := returnCancelling_moves r i hf
    exact h.trans (ih _ hf')

theorem resetLines_line (s : State) (n : LineNo) :
    (resetLines s).line n = (s.line n).map fun l => { l with inFlight := 0 } := by
  simp [resetLines, State.line]

theorem resetLines_unflown (s : State) : (resetLines s).unflown := by
  intro n l h
  rw [resetLines_line, Option.map_eq_some_iff] at h
  obtain ⟨_, _, rfl⟩ := h
  rfl

theorem clearedBooks_moves (s : State) : Moves (resetLines (resetUnits s)) (clearedBooks s).state := by
  unfold clearedBooks resetOrders
  exact returnCancelling_foldl_moves _ { state := resetLines (resetUnits s), freed := [] } (resetLines_unflown _)

theorem resetRest_aside (r : Returned) : Aside r.state (resetRest r) := by
  unfold resetRest
  dsimp only
  rw [resetNotices_eq]
  exact .of_blocks rfl rfl rfl rfl rfl rfl

theorem clearLine_moves (s : State) : Moves s (clearLine s) := by
  rw [clearLine_eq_resetRest]
  exact Move.unclaim.moves.trans ((clearedBooks_moves s).trans (resetRest_aside _).moves)

/-! ### The changes and the events -/

theorem lineEntryOf_quantity {a f c z q : Byte} {e : LineEntry} (h : lineEntryOf a f c z q = some e) :
    1 ≤ e.quantity ∧ e.quantity ≤ 48 := by
  unfold lineEntryOf at h
  simp only [Option.bind_eq_bind, Option.bind_eq_some_iff] at h
  obtain ⟨_, _, _, _, h⟩ := h
  split at h
  · cases h
  · obtain rfl := Option.some.inj h
    dsimp only
    omega

theorem lineEntriesOf_quantity {body : List Byte} {es : List LineEntry} (h : lineEntriesOf body = some es) :
    ∀ e ∈ es, 1 ≤ e.quantity ∧ e.quantity ≤ 48 := by
  induction body using lineEntriesOf.induct generalizing es with
  | case1 => obtain rfl := Option.some.inj h; simp
  | case2 a f c z q rest ih =>
    unfold lineEntriesOf at h
    simp only [Option.bind_eq_bind, Option.bind_eq_some_iff] at h
    obtain ⟨e, he, es', hes, h⟩ := h
    obtain rfl := Option.some.inj h
    intro x hx
    rcases List.mem_cons.mp hx with rfl | hx
    · exact lineEntryOf_quantity he
    · exact ih hes x hx
  | case3 body h1 h2 => rw [lineEntriesOf] at h <;> simp_all

theorem submissionOf_quantity {body : List Byte} {x : Submission} (h : submissionOf body = some x) :
    ∀ e ∈ x.entries, 1 ≤ e.quantity ∧ e.quantity ≤ 48 := by
  unfold submissionOf at h
  split at h
  · split at h
    · cases h
    · obtain ⟨es, hes, rfl⟩ := Option.map_eq_some_iff.mp h
      exact lineEntriesOf_quantity hes
  · cases h

theorem joinActive_order (i j : OrderNo) (s : State) : (joinActive i s).order j = s.order j := by
  unfold joinActive
  split <;> rfl

/-- The order a submission becomes, with its lines. -/
def newOrder (x : Submission) (s : State) (ls : List LineNo) : Order :=
  { state := .active, webNumber := x.webNumber, sequence := s.book.sequence, priority := x.priority
    alterLevel := x.alterLevel, holdReason := none, bin := none, lines := ls }

/-- The line entries of a submission with their positions. -/
def Submission.placed (x : Submission) : List (LineEntry × Fin 8) := (x.entries.take 8).zip (List.finRange 8)

theorem Submission.placed_length_le (x : Submission) : x.placed.length ≤ x.entries.length := by
  unfold Submission.placed
  simp only [List.length_zip, List.length_take]
  omega

/-- An accepted order: its descriptor, its lines, its artworks' counts, then its place in the list (R32). -/
theorem acceptOrder_cases (i : OrderNo) {x : Submission} {s : State} (hl : x.entries.length ≤ freeLines s) :
    ∃ (ls : List LineNo) (t : State), acceptOrder i x s = joinActive i t
      ∧ ls.length = x.placed.length ∧ ls.Nodup ∧ (∀ n ∈ ls, s.line n = none) ∧ t.order i = some (newOrder x s ls)
      ∧ (∀ j, j ≠ i → t.order j = s.order j) ∧ (∀ j, t.handleOf j = s.handleOf j)
      ∧ (∀ m, m ∉ ls → t.line m = s.line m)
      ∧ (∀ (q : Nat) (e : LineEntry) (k : Fin 8) (n : LineNo), x.placed[q]? = some (e, k) → ls[q]? = some n →
          t.line n = some (newLine i k e))
      ∧ (∀ a : ArtworkNo, tget t.artworks a =
          { tget s.artworks a with
            refs := (tget s.artworks a).refs + (x.placed.filter fun y => decide (y.1.artwork = a)).length })
      ∧ t.book.sequence = nextSequence s.book.sequence ∧ t.book.active = s.book.active
      ∧ t = { s with book := t.book, artworks := t.artworks } := by
  have hle := x.placed_length_le
  obtain ⟨ls, t, e, h1, h2, h3, h4, h5, h6, h7, h8, h9, h10, h11, h12⟩ := takeLines_cases i x.placed
    (State.setBook (putOrder i (some (newOrder x s [])) s)
      { (putOrder i (some (newOrder x s [])) s).book with sequence := nextSequence s.book.sequence })
    (newOrder x s []) (putOrder_order_same i _ s) (hle.trans hl)
  exact ⟨ls, t, congrArg (joinActive i) e, h1, h2, h3, h4, fun j hj => (h5 j hj).trans (putOrder_order_ne _ _ hj),
    fun j => (h6 j).trans (putOrder_handleOf _ _ _ _), h7, h8, h9, h10, h11, h12⟩

theorem acceptOrder_live {i : OrderNo} {x : Submission} {s : State} (hl : x.entries.length ≤ freeLines s) :
    (acceptOrder i x s).live i := by
  obtain ⟨ls, t, e, _, _, _, ho, _⟩ := acceptOrder_cases i hl
  rw [e]
  exact ⟨_, (joinActive_order i i t).trans ho, by simp [newOrder]⟩

theorem setBypassed_aside (u : UnitNo) (s : State) : Aside s (setBypassed u s) := by
  refine modifyShirt_aside u _ s ?_
  exact fun _ => ⟨rfl, rfl⟩

theorem acceptRecure_aside (u : UnitNo) (c : CureRecord) (s : State) : Aside s (acceptRecure u c s) := by
  refine (leaveExits_aside u s).trans (.trans (modifyShirt_aside u _ _ ?_) (joinQueue_aside u _))
  exact fun _ => ⟨rfl, rfl⟩

/-- Every change is moves of the books. -/
theorem Change.moves {r : Request} {p : Port} {s t : State} (h : Change r p s t) : Moves s t := by
  cases h with
  | write h => exact moves_of_blocks h.units h.book h.artworks h.pack
  | setPlaten pl cls en hu => exact moves_of_blocks rfl rfl rfl rfl
  | lineReset => exact clearLine_moves s
  | submitOrder body x i hx he hw hi hl =>
    have free : s.order i = none := by
      unfold lowestFreeOrder at hi
      simpa [State.order] using (lowest_some hi).1
    exact (Move.accept i x free (submissionOf_quantity hx) ((emptyArtworkAt_none s _).mp he) hl).moves.trans
      (orphanUptake_moves (acceptOrder_live hl))
  | holdOrder i o level ho hs => exact (Move.leave i o .held _ ho (.inl rfl)).moves.trans (post_moves _ _ _)
  | releaseOrder i o ho hs =>
    refine (Move.join i o ho hs).moves.trans (orphanUptake_moves
      ⟨{ o with state := .active, holdReason := none }, ?_, by simp⟩)
    rw [joinActive_order]
    exact putOrder_order_same _ _ _
  | cancelOrder i o ho hs => exact cancelLive_moves ho hs
  | defineArtwork a d hd => exact (Move.define a d hd).moves
  | removeArtwork a hr =>
    split
    · exact (Move.remove a hr).moves.trans (post_moves _ _ _)
    · exact (Move.remove a hr).moves
  | artworkStaged a hc =>
    split
    · exact ((putArtwork_aside a true s).trans (printStartTest_unmoved _).aside).moves
    · exact (putArtwork_aside a true s).moves
  | artworkEvicted a => exact (putArtwork_aside a false s).moves
  | load k u pl i n l hu hc hf => exact (Move.load ⟨u, pl, k, i, n, l, lowestFreeUnit_shirt hf, hu, hc, rfl⟩).moves
  | unload u sh hsh => exact freeUnit_moves (by simp)
  | bypassHeld u => exact ((setBypassed_aside u s).trans (pretreatRelease_unmoved _).aside).moves
  | bypass u => exact (setBypassed_aside u s).moves
  | refill amount =>
    have filled : Unmoved s (addFluid amount s) := setPretreat_unmoved s _
    split
    · exact (filled.trans (pretreatStartTest_unmoved _)).aside.moves
    · exact filled.aside.moves
  | barClear hf => exact (setBar_unmoved s _).aside.moves
  | registered u sh hsh hs hh => exact (acceptRegistered_unmoved u sh s).aside.moves
  | registerFault u hs hh => exact (acceptRegisterFault_unmoved u s).aside.moves
  | nextSwath d tag t hs hl => exact (issueSwath_unmoved d tag t s).aside.moves
  | swathDone o os result hs hi => exact (swathReported_unmoved o os result s).aside.moves
  | carriageParked hs => exact (releasePrinted_unmoved s).aside.moves
  | readErrorRecord => exact (setPrint_unmoved s _).aside.moves
  | matchScrapped u sh hsh => exact freeUnit_moves (by simp)
  | matchOrphan u sh sl hsh hl =>
    refine (Move.shelve sl _ _ ?_).moves.trans (freeUnit_moves (by simp))
    unfold lowestFreeSlot at hl
    simpa using (lowest_some hl).1
  | matchBin u sh o b s1 hsh ho hs hb =>
    obtain ⟨h1, o', ho', binned, _⟩ := assignBin_moves hb ⟨o, ho, by rcases hs with h | h <;> simp [h]⟩
    refine h1.trans (freeUnit_moves fun _ sh' o'' hsh' ho'' => ?_)
    obtain rfl := Option.some.inj (hsh.symm.trans ((assignBin_shirt hb u).symm.trans hsh'))
    obtain rfl := Option.some.inj (ho'.symm.trans ho'')
    exact binned
  | scrap u sh hsh hp => exact (scrapStation_unmoved u sh s).aside.moves.trans (freeUnit_moves (by simp))
  | recure u sh c hsh hx hc hl => exact (acceptRecure_aside u _ s).moves
  | binClosed b h o hb ho hs =>
    have ho' : (releaseBin b h.index s).order h.index = some { o with bin := none } := by
      rw [releaseBin_some ho, putOrder_order_same]
    rw [freeOrder_eq _ ho']
    exact (Move.close b h o hb ho hs).moves.trans (post_moves _ _ _)
  | clearShelfSlot sl => exact (Move.unshelve sl).moves
  | quiesceWorking st => exact ((setQuiesce_unmoved st _ s).trans (restUnit_unmoved st _)).aside.moves
  | quiesceAtOnce st =>
    exact ((setQuiesce_unmoved st _ s).trans ((restUnit_unmoved st _).trans (post_unmoved _ _ _))).aside.moves
  | resumeWorking st =>
    exact ((setQuiesce_unmoved st _ s).trans ((post_unmoved _ _ _).trans (resumeWorking_unmoved st _))).aside.moves
  | resumeHeld st =>
    exact ((setQuiesce_unmoved st _ s).trans ((post_unmoved _ _ _).trans (beginHeld_unmoved st _))).aside.moves
  | fetchNotice => exact (setPort_unmoved s p _).aside.moves
  | readStatus => exact (setPort_unmoved s p _).aside.moves

theorem missingGarments_moves (fuel : Nat) (s : State) : Moves s (missingGarments fuel s) := by
  induction fuel generalizing s with
  | zero => exact .refl
  | succ fuel ih =>
    unfold missingGarments
    split
    · exact .refl
    · split
      · exact (loseUnit_moves _ _ s).trans (ih _)
      · exact .refl

theorem enterQueue_aside (u : UnitNo) (forced : Bool) (s : State) : Aside s (enterQueue u forced s) := by
  refine .trans (modifyShirt_aside u _ s ?_) (joinQueue_aside u _)
  exact fun _ => ⟨rfl, rfl⟩

theorem forceToExits_aside (u : UnitNo) (s : State) : Aside s (forceToExits u s) := by
  refine .trans (modifyShirt_aside u _ s ?_) (joinExits_aside u _)
  exact fun _ => ⟨rfl, rfl⟩

theorem exitUnit_aside (u : UnitNo) (s : State) : Aside s (exitUnit u s) := by
  refine (leaveQueue_aside u s).trans ((joinExits_aside u _).trans (modifyShirt_aside u _ _ ?_))
  exact fun _ => ⟨rfl, rfl⟩

theorem liftUnit_aside (u : UnitNo) (s : State) : Aside s (liftUnit u s) := by
  unfold liftUnit
  dsimp only
  split
  · exact (leavePlaten_aside u s).trans (tunnelRelease_unmoved _).aside
  · exact leavePlaten_aside u s

theorem tunnelEntry_moves (s : State) : Moves s (tunnelEntry s) := by
  unfold tunnelEntry
  split
  · exact post_moves _ _ _
  · next u _ =>
    split
    · exact ((liftUnit_aside u s).trans (enterQueue_aside u _ _)).moves
    · refine (liftUnit_aside u s).moves.trans ?_
      unfold forcedEntry
      split
      · exact (enterQueue_aside u _ _).moves
      · split
        · exact (forceToExits_aside u _).moves
        · exact loseUnit_moves u _ _

theorem tunnelExit_moves (s : State) : Moves s (tunnelExit s) := by
  unfold tunnelExit
  split
  · exact post_moves _ _ _
  · next r _ _ =>
    split
    · exact post_moves _ _ _
    · split
      · exact (exitUnit_aside r.unit s).moves
      · exact loseUnit_moves _ _ s

/-- Every event but power-on is moves of the books. -/
theorem Event.moves {c : Instr} {s t : State} (h : Event c s t) (hc : ∀ straps, c ≠ .powerOn straps) : Moves s t := by
  cases h with
  | powerOn straps => exact absurd rfl (hc straps)
  | timeBaseTick => exact (setTime_unmoved s _).aside.moves
  | indexDone =>
    cases hs : s.ring.state with
    | still => rw [indexDone_still hs]; exact post_moves _ _ _
    | moving => rw [indexDone_moving hs]; exact moves_of_blocks rfl rfl rfl rfl
  | frameReceived p chars => exact moves_of_blocks rfl rfl rfl rfl
  | intercharacterTimeout p => exact (setPort_unmoved s p _).aside.moves
  | frameErrorDiscard p chars => exact moves_of_blocks rfl rfl rfl rfl
  | indexRequest =>
    unfold Machine.indexRequest
    split
    · exact .refl
    · split <;> exact moves_of_blocks rfl rfl rfl rfl
  | pretreatArrival => exact (pretreatArrival_unmoved s).aside.moves
  | printArrival => exact (printArrival_unmoved s).aside.moves
  | tunnelArrival => exact (tunnelArrival_unmoved s).aside.moves
  | barInPosition => exact (barInPosition_unmoved s).aside.moves
  | sweepEnd h => exact (setBar_unmoved s _).aside.moves
  | centringEnd h => exact (setBar_unmoved s _).aside.moves
  | barFault => exact (barFault_unmoved s).aside.moves
  | watchdogExpiry => exact (watchdogExpiry_unmoved s).aside.moves
  | beltStep => exact (setTunnel_unmoved s _ (by rfl)).aside.moves.trans (missingGarments_moves _ _)
  | tunnelEntrySensor => exact tunnelEntry_moves s
  | zoneReading z reading => exact (zoneReading_unmoved z reading s).aside.moves
  | cureTick => exact (cureTick_unmoved s).aside.moves
  | tunnelExitSensor => exact tunnelExit_moves s

theorem Moves.keeps {I : State → Prop} (move : ∀ s t, Move s t → I s → I t) {s t : State} (h : Moves s t) (hs : I s) :
    I t := by
  induction h with
  | refl => exact hs
  | tail _ hm ih => exact move _ _ hm ih

/-- What every move of the books keeps, and power-on brings about, a step keeps. -/
theorem step_of_moves {I : State → Prop} (move : ∀ s t, Move s t → I s → I t) (power : ∀ straps l, I (powered straps l))
    {s t : State} (hs : I s) (h : step s = .next t) : I t := by
  refine step_keeps (I := I) (fun s v => Moves.keeps (t := s.setPorts v) move (moves_of_blocks rfl rfl rfl rfl))
    (fun s l => (setPending_unmoved s l).aside.moves.keeps move) (fun r p s t hc => hc.moves.keeps move)
    (fun c s t he hs => ?_) hs h
  by_cases hp : ∃ straps, c = .powerOn straps
  · obtain ⟨straps, rfl⟩ := hp
    generalize hc : Instr.powerOn straps = c at he
    cases he with
    | powerOn straps' => exact power straps' s.pending
    | _ => cases hc
  · exact (he.moves (by simpa using hp)).keeps move hs

end Sys2Proof.Machine
end

section
/-! The shelf, the bins and the Active Order List through every move of the books. -/

namespace Sys2Proof.Machine

/-! ### The shelf (R158) -/

theorem shelfAged_of_eq {s t : State} (hshelf : t.pack.shelf = s.pack.shelf) (hage : t.pack.age = s.pack.age)
    (h : s.shelfAged) : t.shelfAged := by
  unfold State.shelfAged at *
  rwa [hshelf, hage]

theorem placeEntry_shelfAged {sl : SlotNo} (a : ArtworkNo) (k : Sku) {s : State} (hf : tget s.pack.shelf sl = none)
    (h : s.shelfAged) : (placeEntry sl a k s).shelfAged := by
  obtain ⟨hnodup, hmem⟩ := h
  have fresh : sl ∉ s.pack.age := fun e => by simpa [hf] using (hmem sl).mp e
  refine ⟨?_, fun x => ?_⟩
  · change (s.pack.age ++ [sl]).Nodup
    exact List.nodup_append.mpr ⟨hnodup, by simp, fun x hx y hy e => fresh (List.mem_singleton.mp hy ▸ e ▸ hx)⟩
  · simp only [placeEntry, State.setPack_pack, List.mem_append, List.mem_singleton, tget_tset, hmem]
    by_cases e : x = sl <;> simp [e]

theorem removeEntry_shelfAged (sl : SlotNo) {s : State} (h : s.shelfAged) : (removeEntry sl s).shelfAged := by
  obtain ⟨hnodup, hmem⟩ := h
  refine ⟨hnodup.filter _, fun x => ?_⟩
  simp only [removeEntry, State.setPack_pack, List.mem_filter, tget_tset, hmem, decide_eq_true_eq]
  by_cases e : x = sl <;> simp [e]

theorem acceptOrder_pack (i : OrderNo) {x : Submission} {s : State} (hl : x.entries.length ≤ freeLines s) :
    (acceptOrder i x s).pack = s.pack := by
  obtain ⟨ls, t, e, _, _, _, _, _, _, _, _, _, _, _, et⟩ := acceptOrder_cases i hl
  rw [e, joinActive_pack, et]

theorem releaseBin_shelf (b : BinNo) (i : OrderNo) (s : State) :
    (releaseBin b i s).pack = { s.pack with bins := tset s.pack.bins b none } := by
  unfold releaseBin modifyOrder
  split <;> rfl

theorem Move.shelfAged {s t : State} (h : Move s t) (hs : s.shelfAged) : t.shelfAged := by
  cases h with
  | aside h => exact shelfAged_of_eq h.shelf h.age hs
  | shelve sl a k hf => exact placeEntry_shelfAged a k hf hs
  | unshelve sl => exact removeEntry_shelfAged sl hs
  | load h => rw [h.eq]; exact hs
  | accept i x hi hq he hl => exact shelfAged_of_eq (by rw [acceptOrder_pack i hl]) (by rw [acceptOrder_pack i hl]) hs
  | join i o ho hs' => exact shelfAged_of_eq (by rw [joinActive_pack]; rfl) (by rw [joinActive_pack]; rfl) hs
  | unbin i o b ho hb hs' => exact shelfAged_of_eq (by rw [releaseBin_shelf]) (by rw [releaseBin_shelf]) hs
  | giveBack i o ho hs' hf => exact shelfAged_of_eq (by simp) (by simp) hs
  | drop i o ho hb hf => exact shelfAged_of_eq (by simp) (by simp) hs
  | close b h o hb ho hs' => exact shelfAged_of_eq (by simp [releaseBin_shelf]) (by simp [releaseBin_shelf]) hs
  | define | remove | unheld | leave | assign | good | freed | stray | unclaim => exact hs

theorem shelfAged_kept {s t : State} (hs : s.shelfAged) (h : step s = .next t) : t.shelfAged :=
  step_of_moves (I := State.shelfAged) (fun _ _ hm => hm.shelfAged) powered_shelfAged hs h

/-! ### The bins (R155) -/

/-- A CANCELLING order has no bin. -/
theorem State.binsOwned.cancelling {s : State} (h : s.binsOwned) {i : OrderNo} {o : Order} (ho : s.order i = some o)
    (hs : o.state = .cancelling) : o.bin = none := by
  obtain ⟨hown, hhas, _⟩ := h
  cases hb : o.bin with
  | none => rfl
  | some b =>
    obtain ⟨_, o', ho', _, hn⟩ := hown b _ (hhas i o b ho hb)
    obtain rfl := Option.some.inj (ho.symm.trans ho')
    exact absurd hs hn

theorem binsOwned_of_eq {s t : State} (hb : t.pack.bins = s.pack.bins) (ho : ∀ i, t.order i = s.order i)
    (hh : ∀ i, t.handleOf i = s.handleOf i) (h : s.binsOwned) : t.binsOwned := by
  unfold State.binsOwned at *
  simpa only [hb, ho, hh] using h

theorem binsOwned_of_orders {s t : State} (hb : t.pack.bins = s.pack.bins) (ho : t.book.orders = s.book.orders)
    (h : s.binsOwned) : t.binsOwned :=
  binsOwned_of_eq hb (fun i => by rw [State.order, ho]; rfl) (fun i => by rw [State.handleOf, ho]; rfl) h

/-- The bins stay owned over the change of one order, when they are where that order is concerned. -/
theorem binsOwned_change {s t : State} (i : OrderNo) (h : s.binsOwned)
    (others : ∀ j, j ≠ i → t.order j = s.order j ∧ t.handleOf j = s.handleOf j)
    (bins : ∀ b h, h.index ≠ i → (tget t.pack.bins b = some h ↔ tget s.pack.bins b = some h))
    (own : ∀ b h, h.index = i → tget t.pack.bins b = some h →
      t.handleOf i = h ∧ ∃ o, t.order i = some o ∧ o.bin = some b ∧ o.state ≠ .cancelling)
    (has : ∀ o, t.order i = some o → (∀ b, o.bin = some b → tget t.pack.bins b = some (t.handleOf i))
      ∧ (o.state = .complete → o.bin.isSome = true)) : t.binsOwned := by
  obtain ⟨hown, hhas, hcomplete⟩ := h
  refine ⟨fun b x hb => ?_, fun j o b ho hb => ?_, fun j o ho hs => ?_⟩
  · by_cases e : x.index = i
    · rw [e]; exact own b x e hb
    · rw [(others _ e).1, (others _ e).2]
      exact hown b x ((bins b x e).mp hb)
  · by_cases e : j = i
    · subst e; exact (has o ho).1 b hb
    · rw [(others j e).1] at ho
      rw [(others j e).2]
      exact (bins b (s.handleOf j) e).mpr (hhas j o b ho hb)
  · by_cases e : j = i
    · subst e; exact (has o ho).2 hs
    · rw [(others j e).1] at ho
      exact hcomplete j o ho hs

/-- An order revised without its bin. -/
theorem binsOwned_revise {s t : State} {i : OrderNo} {o o' : Order} (h : s.binsOwned) (ho : s.order i = some o)
    (ho' : t.order i = some o') (hb : o'.bin = o.bin) (others : ∀ j, j ≠ i → t.order j = s.order j)
    (handles : ∀ j, t.handleOf j = s.handleOf j) (bins : t.pack.bins = s.pack.bins)
    (hcancelling : o'.state = .cancelling → o'.bin = none) (hcomplete : o'.state = .complete → o'.bin.isSome = true) :
    t.binsOwned := by
  refine binsOwned_change i h (fun j hj => ⟨others j hj, handles j⟩) (fun b x _ => by rw [bins]) (fun b x hx hbx => ?_)
    fun o2 ho2 => ?_
  · rw [bins] at hbx
    obtain ⟨hh, o1, ho1, hb1, hs1⟩ := h.1 b x hbx
    rw [hx] at hh ho1
    obtain rfl := Option.some.inj (ho.symm.trans ho1)
    exact ⟨(handles i).trans hh, o', ho', hb.trans hb1, fun hc => by rw [hcancelling hc, hb1] at hb; cases hb⟩
  · obtain rfl := Option.some.inj (ho'.symm.trans ho2)
    refine ⟨fun b e => ?_, hcomplete⟩
    rw [bins, handles]
    exact h.2.1 i o b ho (hb.symm.trans e)

/-- An order without a bin comes or goes. -/
theorem binsOwned_binless {s t : State} {i : OrderNo} (h : s.binsOwned) (hs : ∀ o, s.order i = some o → o.bin = none)
    (ht : ∀ o, t.order i = some o → o.bin = none ∧ o.state ≠ .complete)
    (others : ∀ j, j ≠ i → t.order j = s.order j ∧ t.handleOf j = s.handleOf j) (bins : t.pack.bins = s.pack.bins) :
    t.binsOwned := by
  refine binsOwned_change i h others (fun b x _ => by rw [bins]) (fun b x hx hbx => ?_) fun o ho => ?_
  · rw [bins] at hbx
    obtain ⟨_, o1, ho1, hb1, _⟩ := h.1 b x hbx
    rw [hx] at ho1
    rw [hs o1 ho1] at hb1
    cases hb1
  · obtain ⟨hn, hc⟩ := ht o ho
    exact ⟨fun b e => (by rw [hn] at e; cases e), fun e => absurd e hc⟩

/-- A free bin given to an order that has none. -/
theorem assign_binsOwned {s : State} {i : OrderNo} {o : Order} {b : BinNo} (h : s.binsOwned) (ho : s.order i = some o)
    (hn : o.bin = none) (hs : o.state ≠ .cancelling) (hb : tget s.pack.bins b = none) :
    (putOrder i (some { o with bin := some b })
      (s.setPack { s.pack with bins := tset s.pack.bins b (some (s.handleOf i)) })).binsOwned := by
  have bins : ∀ c x, tget (tset s.pack.bins b (some (s.handleOf i))) c = some x ↔
      c = b ∧ x = s.handleOf i ∨ c ≠ b ∧ tget s.pack.bins c = some x := by
    intro c x
    rw [tget_tset]
    by_cases e : c = b <;> simp [e, eq_comm]
  refine binsOwned_change i h (fun j hj => ⟨putOrder_order_ne _ _ hj, putOrder_handleOf _ _ _ _⟩) (fun c x hx => ?_)
    (fun c x hx hc => ?_) fun o' ho' => ?_
  · refine (bins c x).trans ⟨?_, fun e => .inr ⟨fun hcb => ?_, e⟩⟩
    · rintro (⟨_, rfl⟩ | ⟨_, e⟩)
      · exact absurd rfl hx
      · exact e
    · rw [hcb, hb] at e; cases e
  · rcases (bins c x).mp hc with ⟨rfl, rfl⟩ | ⟨_, e⟩
    · exact ⟨putOrder_handleOf _ _ _ _, _, putOrder_order_same _ _ _, rfl, hs⟩
    · obtain ⟨_, o1, ho1, hb1, _⟩ := h.1 c x e
      rw [hx] at ho1
      obtain rfl := Option.some.inj (ho.symm.trans ho1)
      rw [hn] at hb1; cases hb1
  · obtain rfl := Option.some.inj ((putOrder_order_same _ _ _).symm.trans ho')
    refine ⟨fun c e => ?_, fun _ => rfl⟩
    obtain rfl := Option.some.inj e
    rw [putOrder_handleOf]
    exact (bins b _).mpr (.inl ⟨rfl, rfl⟩)

/-- A bin released by the order it names. -/
theorem releaseBin_bins {s : State} {i : OrderNo} {o : Order} {b : BinNo} (h : s.binsOwned) (ho : s.order i = some o)
    (hb : o.bin = some b) (c : BinNo) (x : Handle) :
    tget (releaseBin b i s).pack.bins c = some x ↔ x.index ≠ i ∧ tget s.pack.bins c = some x := by
  obtain ⟨hown, hhas, _⟩ := h
  rw [releaseBin_shelf, tget_tset]
  by_cases e : c = b
  · subst e
    rw [hhas i o c ho hb]
    simp only [if_true, reduceCtorEq, false_iff, not_and, Option.some.injEq]
    rintro hx rfl
    exact hx rfl
  · simp only [e, if_false]
    refine ⟨fun hx => ⟨fun hi => ?_, hx⟩, And.right⟩
    obtain ⟨_, o1, ho1, hb1, _⟩ := hown c x hx
    rw [hi] at ho1
    obtain rfl := Option.some.inj (ho.symm.trans ho1)
    exact e (Option.some.inj (hb1.symm.trans hb))

theorem releaseBin_others {s : State} {i : OrderNo} {o : Order} (b : BinNo) (ho : s.order i = some o) {j : OrderNo}
    (hj : j ≠ i) : (releaseBin b i s).order j = s.order j ∧ (releaseBin b i s).handleOf j = s.handleOf j := by
  rw [releaseBin_some ho]
  exact ⟨putOrder_order_ne _ _ hj, putOrder_handleOf _ _ _ _⟩

/-- The one order of a bin lets it go, and stays without, or returns to FREE. -/
theorem release_binsOwned {s t : State} {i : OrderNo} {o : Order} {b : BinNo} (h : s.binsOwned) (ho : s.order i = some o)
    (hb : o.bin = some b) (others : ∀ j, j ≠ i → t.order j = (releaseBin b i s).order j
      ∧ t.handleOf j = (releaseBin b i s).handleOf j) (bins : t.pack.bins = (releaseBin b i s).pack.bins)
    (ht : ∀ o', t.order i = some o' → o'.bin = none ∧ o'.state ≠ .complete) : t.binsOwned := by
  refine binsOwned_change i h (fun j hj => ?_) (fun c x hx => ?_) (fun c x hx hc => ?_) fun o' ho' => ?_
  · rw [(others j hj).1, (others j hj).2]
    exact releaseBin_others b ho hj
  · rw [bins, releaseBin_bins h ho hb]
    exact ⟨And.right, fun e => ⟨hx, e⟩⟩
  · rw [bins, releaseBin_bins h ho hb] at hc
    exact absurd hx hc.1
  · obtain ⟨hn, hc⟩ := ht o' ho'
    exact ⟨fun b e => (by rw [hn] at e; cases e), fun e => absurd e hc⟩

theorem acceptOrder_binsOwned {s : State} {i : OrderNo} {x : Submission} (h : s.binsOwned) (hi : s.order i = none)
    (hl : x.entries.length ≤ freeLines s) : (acceptOrder i x s).binsOwned := by
  obtain ⟨ls, t, e, _, _, _, ho, hother, hhandle, _, _, _, _, _, et⟩ := acceptOrder_cases i hl
  rw [e]
  have handles : ∀ j, (joinActive i t).handleOf j = t.handleOf j := fun j => by unfold joinActive; split <;> rfl
  refine binsOwned_binless (i := i) h (fun o ho' => by rw [hi] at ho'; cases ho') (fun o ho' => ?_) (fun j hj => ?_) ?_
  · rw [joinActive_order, ho] at ho'
    obtain rfl := Option.some.inj ho'
    exact ⟨rfl, by simp [newOrder]⟩
  · rw [joinActive_order, handles, hother j hj, hhandle]
    exact ⟨rfl, rfl⟩
  · rw [joinActive_pack, et]

theorem Move.binsOwned {s t : State} (h : Move s t) (hs : s.binsOwned) : t.binsOwned := by
  cases h with
  | aside h => exact binsOwned_of_orders h.bins (by rw [h.book]) hs
  | load h =>
    obtain ⟨u, pl, k, i, n, l, _, _, _, rfl⟩ := h
    exact hs
  | accept i x hi hq he hl => exact acceptOrder_binsOwned hs hi hl
  | unheld i o ho =>
    exact binsOwned_revise hs ho (putOrder_order_same _ _ _) rfl (fun j hj => putOrder_order_ne _ _ hj)
      (putOrder_handleOf _ · _ _) rfl (fun hc => hs.cancelling (o := o) ho hc) (hs.2.2 i o ho)
  | leave i o st r ho hst =>
    refine binsOwned_revise hs ho (putOrder_order_same _ _ _) rfl (fun j hj => putOrder_order_ne _ _ hj)
      (putOrder_handleOf _ · _ _) rfl ?_ ?_
    · rintro rfl; simpa using hst
    · rintro rfl; simp at hst; exact hst.2
  | join i o ho hst =>
    refine binsOwned_revise hs ho ((joinActive_order _ _ _).trans (putOrder_order_same _ _ _)) rfl
      (fun j hj => (joinActive_order _ _ _).trans (putOrder_order_ne _ _ hj)) (fun j => ?_) (by rw [joinActive_pack]; rfl)
      (by simp) (by simp)
    rw [← putOrder_handleOf i j (some { o with state := .active, holdReason := none }) s]
    unfold joinActive
    split <;> rfl
  | assign i o b ho hn hst hb => exact assign_binsOwned hs ho hn hst hb
  | unbin i o b ho hb hst =>
    refine release_binsOwned hs ho hb (fun _ _ => ⟨rfl, rfl⟩) rfl fun o' ho' => ?_
    rw [releaseBin_some ho, putOrder_order_same] at ho'
    obtain rfl := Option.some.inj ho'
    exact ⟨rfl, hst⟩
  | giveBack i o ho hst hf =>
    obtain ⟨hnone, _, hother, _⟩ := returnDescriptor_cases ho
    refine binsOwned_binless (i := i) hs (fun o' ho' => ?_) (fun o' ho' => ?_) hother (by simp)
    · obtain rfl := Option.some.inj (ho.symm.trans ho')
      exact hs.cancelling ho hst
    · rw [hnone] at ho'; cases ho'
  | drop i o ho hb hf =>
    obtain ⟨hnone, _, hother, _⟩ := returnDescriptor_cases (s := leaveActive i s) ho
    refine binsOwned_binless (i := i) hs (fun o' ho' => ?_) (fun o' ho' => ?_) hother (by simp)
    · obtain rfl := Option.some.inj (ho.symm.trans ho')
      exact hb
    · rw [hnone] at ho'; cases ho'
  | close b x o hb ho hst =>
    obtain ⟨_, o1, ho1, hb1, _⟩ := hs.1 b x hb
    obtain rfl := Option.some.inj (ho.symm.trans ho1)
    have ho' : (releaseBin b x.index s).order x.index = some { o with bin := none } := by
      rw [releaseBin_some ho, putOrder_order_same]
    obtain ⟨hnone, _, hother, _⟩ := returnDescriptor_cases ho'
    exact release_binsOwned hs ho hb1 hother (by simp) fun o' e => by rw [hnone] at e; cases e
  | define | remove | shelve | unshelve | good | freed | stray | unclaim => exact hs

theorem binsOwned_kept {s t : State} (hs : s.binsOwned) (h : step s = .next t) : t.binsOwned :=
  step_of_moves (I := State.binsOwned) (fun _ _ hm => hm.binsOwned) powered_binsOwned hs h

end Sys2Proof.Machine
end

section
/-! The Active Order List through every move of the books (R29). -/

namespace Sys2Proof.Machine

/-! ### The order of the list -/

theorem Order.before_iff (a b : Order) :
    a.before b = true ↔ a.priority < b.priority ∨ (a.priority = b.priority ∧ a.sequence < b.sequence) := by
  simp [Order.before]

/-- No order before one it should follow, for the orders two indexes hold. -/
def State.inOrder (s : State) (i j : OrderNo) : Prop :=
  ∀ a b, s.order i = some a → s.order j = some b → b.before a = false

theorem mem_insertActive_iff (s : State) (i j : OrderNo) (o : Order) (l : List OrderNo) :
    j ∈ insertActive s i o l ↔ j = i ∨ j ∈ l := by
  induction l with
  | nil => simp [insertActive]
  | cons k l ih =>
    unfold insertActive
    split
    · split
      · simp
      · simp [ih]; tauto
    · simp [ih]; tauto

theorem insertActive_nodup {s : State} {i : OrderNo} (o : Order) {l : List OrderNo} (h : l.Nodup) (hi : i ∉ l) :
    (insertActive s i o l).Nodup := by
  induction l with
  | nil => simp [insertActive]
  | cons k l ih =>
    obtain ⟨hk, hl⟩ := List.nodup_cons.mp h
    obtain ⟨hik, hil⟩ : i ≠ k ∧ i ∉ l := by simpa using hi
    have later : (k :: insertActive s i o l).Nodup :=
      List.nodup_cons.mpr ⟨by rw [mem_insertActive_iff]; exact not_or.mpr ⟨hik.symm, hk⟩, ih hl hil⟩
    unfold insertActive
    split
    · split
      · exact List.nodup_cons.mpr ⟨hi, h⟩
      · exact later
    · exact later

/-- An order put in its sorted place leaves the list sorted. -/
theorem insertActive_sorted {s : State} {i : OrderNo} {o : Order} {l : List OrderNo} (ho : s.order i = some o)
    (hall : ∀ j ∈ l, (s.order j).isSome = true) (h : l.Pairwise s.inOrder) : (insertActive s i o l).Pairwise s.inOrder := by
  induction l with
  | nil => simp [insertActive]
  | cons k l ih =>
    obtain ⟨hk, hl⟩ := List.pairwise_cons.mp h
    obtain ⟨ok, hok⟩ := Option.isSome_iff_exists.mp (hall k (by simp))
    unfold insertActive
    simp only [hok]
    split
    · next hb =>
      refine List.pairwise_cons.mpr ⟨fun j hj a b ha hb' => ?_, h⟩
      obtain rfl := Option.some.inj (ho.symm.trans ha)
      rw [Bool.eq_false_iff, ne_eq, Order.before_iff]
      rw [Order.before_iff] at hb
      rcases List.mem_cons.mp hj with rfl | hj
      · obtain rfl := Option.some.inj (hok.symm.trans hb')
        omega
      · have := hk j hj ok b hok hb'
        rw [Bool.eq_false_iff, ne_eq, Order.before_iff] at this
        omega
    · next hb =>
      refine List.pairwise_cons.mpr ⟨fun j hj => ?_, ih (fun j hj => hall j (by simp [hj])) hl⟩
      rcases (mem_insertActive_iff s i j o l).mp hj with rfl | hj
      · intro a b ha hb'
        obtain rfl := Option.some.inj (ho.symm.trans hb')
        obtain rfl := Option.some.inj (hok.symm.trans ha)
        exact Bool.eq_false_iff.mpr hb
      · exact hk j hj

/-! ### What keeps the list -/

/-- What the list depends on of an order. -/
def Order.key (o : Order) : Bool × Nat × Nat := (decide (o.state = .active), o.priority, o.sequence)

theorem Order.before_of_key {a b a' b' : Order} (ha : a'.key = a.key) (hb : b'.key = b.key) :
    b'.before a' = b.before a := by
  simp only [Order.key, Prod.mk.injEq] at ha hb
  obtain ⟨_, h1, h2⟩ := ha
  obtain ⟨_, h3, h4⟩ := hb
  simp only [Order.before, h1, h2, h3, h4]

theorem exists_of_key {x y : Option Order} (h : x.map Order.key = y.map Order.key) {a : Order} (ha : x = some a) :
    ∃ b, y = some b ∧ a.key = b.key := by
  subst ha
  obtain ⟨b, hb, e⟩ := Option.map_eq_some_iff.mp h.symm
  exact ⟨b, hb, e.symm⟩

theorem inOrder_of_key {s t : State} {i j : OrderNo} (hi : (t.order i).map Order.key = (s.order i).map Order.key)
    (hj : (t.order j).map Order.key = (s.order j).map Order.key) (h : s.inOrder i j) : t.inOrder i j := by
  intro a b ha hb
  obtain ⟨a', ha', ka⟩ := exists_of_key hi ha
  obtain ⟨b', hb', kb⟩ := exists_of_key hj hb
  rw [Order.before_of_key ka kb]
  exact h a' b' ha' hb'

theorem active_of_key {x y : Option Order} (h : x.map Order.key = y.map Order.key) :
    (∃ o, x = some o ∧ o.state = .active) ↔ ∃ o, y = some o ∧ o.state = .active := by
  have one : ∀ {x y : Option Order}, x.map Order.key = y.map Order.key → (∃ o, x = some o ∧ o.state = .active) →
      ∃ o, y = some o ∧ o.state = .active := by
    rintro x y h ⟨o, ho, hs⟩
    obtain ⟨o', ho', k⟩ := exists_of_key h ho
    simp only [Order.key, Prod.mk.injEq] at k
    exact ⟨o', ho', by simpa [hs] using k.1.symm⟩
  exact ⟨one h, one h.symm⟩

/-- The list stays when no order's place in it changes. -/
theorem activeListed_of_key {s t : State} (ha : t.book.active = s.book.active)
    (ho : ∀ i, (t.order i).map Order.key = (s.order i).map Order.key) (h : s.activeListed) : t.activeListed := by
  obtain ⟨hmem, hnodup, hsorted⟩ := h
  refine ⟨fun i => ?_, by rwa [ha], ?_⟩
  · rw [ha, active_of_key (ho i)]; exact hmem i
  · rw [ha]
    exact hsorted.imp fun {i j} hij => inOrder_of_key (ho i) (ho j) hij

/-- An order leaves the list, being ACTIVE no more. -/
theorem activeListed_leave {s t : State} (i : OrderNo) (ha : t.book.active = s.book.active.filter fun j => decide (j ≠ i))
    (hi : ∀ o, t.order i = some o → o.state ≠ .active)
    (ho : ∀ j, j ≠ i → (t.order j).map Order.key = (s.order j).map Order.key) (h : s.activeListed) : t.activeListed := by
  obtain ⟨hmem, hnodup, hsorted⟩ := h
  refine ⟨fun j => ?_, by rw [ha]; exact hnodup.filter _, ?_⟩
  · rw [ha, List.mem_filter, decide_eq_true_eq, hmem]
    by_cases e : j = i
    · subst e
      simp only [ne_eq, not_true_eq_false, and_false, false_iff, not_exists, not_and]
      exact hi
    · rw [active_of_key (ho j e)]
      simp [e]
  · rw [ha, List.pairwise_filter]
    refine hsorted.imp fun {j k} hjk hj hk => ?_
    exact inOrder_of_key (ho j (by simpa using hj)) (ho k (by simpa using hk)) hjk

/-- An order of no place in the list goes, or comes to another state, without one. -/
theorem activeListed_aside {s t : State} (i : OrderNo) (ha : t.book.active = s.book.active)
    (hs : ∀ o, s.order i = some o → o.state ≠ .active) (hi : ∀ o, t.order i = some o → o.state ≠ .active)
    (ho : ∀ j, j ≠ i → (t.order j).map Order.key = (s.order j).map Order.key) (h : s.activeListed) : t.activeListed := by
  have out : i ∉ s.book.active := fun e => by
    obtain ⟨o, ho', hs'⟩ := (h.1 i).mp e
    exact hs o ho' hs'
  refine activeListed_leave i ?_ hi ho h
  rw [ha, eq_comm, List.filter_eq_self]
  exact fun j hj => decide_eq_true fun e => out (e ▸ hj)

/-- An order that becomes ACTIVE joins the list. -/
theorem activeListed_join {s t : State} (i : OrderNo) {o : Order} (ha : t.book.active = s.book.active)
    (hs : ∀ o, s.order i = some o → o.state ≠ .active) (ht : t.order i = some o) (hactive : o.state = .active)
    (ho : ∀ j, j ≠ i → (t.order j).map Order.key = (s.order j).map Order.key) (h : s.activeListed) :
    (joinActive i t).activeListed := by
  obtain ⟨hmem, hnodup, hsorted⟩ := h
  have out : i ∉ s.book.active := fun e => by
    obtain ⟨o, ho', hs'⟩ := (hmem i).mp e
    exact hs o ho' hs'
  have ne : ∀ j ∈ s.book.active, j ≠ i := fun j hj e => out (e ▸ hj)
  have e : joinActive i t = t.setBook { t.book with active := insertActive t i o s.book.active } := by
    unfold joinActive; simp only [ht, ha]
  rw [e]
  refine ⟨fun j => ?_, insertActive_nodup o hnodup out, ?_⟩
  · change j ∈ insertActive t i o s.book.active ↔ ∃ o, t.order j = some o ∧ o.state = .active
    rw [mem_insertActive_iff, hmem]
    by_cases e : j = i
    · subst e; simp [ht, hactive]
    · rw [active_of_key (ho j e)]; simp [e]
  · refine insertActive_sorted ht (fun j hj => ?_) (hsorted.imp_of_mem fun {j k} hj hk hjk => ?_)
    · obtain ⟨o', ho', _⟩ := (active_of_key (ho j (ne j hj))).mpr ((hmem j).mp hj)
      rw [ho']; rfl
    · exact inOrder_of_key (ho j (ne j hj)) (ho k (ne k hk)) hjk

/-! ### The moves -/

theorem releaseBin_active (b : BinNo) (i : OrderNo) (s : State) : (releaseBin b i s).book.active = s.book.active := by
  unfold releaseBin modifyOrder
  split <;> rfl

/-- A revision of an order that keeps its place in the list. -/
theorem putOrder_key {i : OrderNo} {s : State} {o o' : Order} (ho : s.order i = some o) (hk : o'.key = o.key) (j : OrderNo) :
    ((putOrder i (some o') s).order j).map Order.key = (s.order j).map Order.key := by
  by_cases e : j = i
  · subst e; rw [putOrder_order_same, ho]; exact congrArg some hk
  · rw [putOrder_order_ne _ _ e]

theorem Move.activeListed {s t : State} (h : Move s t) (hs : s.activeListed) : t.activeListed := by
  have ne {i j : OrderNo} {x : Option Order} {r : State} (hj : j ≠ i) :
      ((putOrder i x r).order j).map Order.key = (r.order j).map Order.key := by rw [putOrder_order_ne _ _ hj]
  cases h with
  | aside h => exact activeListed_of_key (by rw [h.book]) (fun i => by rw [State.order, h.book]; rfl) hs
  | load h =>
    obtain ⟨u, pl, k, i, n, l, _, _, _, rfl⟩ := h
    exact hs
  | accept i x hi hq he hl =>
    obtain ⟨ls, t, e, _, _, _, ho, hother, _, _, _, _, _, ha, _⟩ := acceptOrder_cases i hl
    rw [e]
    exact activeListed_join i ha (fun o ho' => by rw [hi] at ho'; cases ho') ho rfl (fun j hj => by rw [hother j hj]) hs
  | unheld i o ho => exact activeListed_of_key (s := s) rfl (putOrder_key (o' := { o with holdReason := none }) ho rfl) hs
  | leave i o st r ho hst =>
    refine activeListed_leave (s := s) i rfl (fun o' ho' => ?_) (fun j hj => ne (r := s) hj) hs
    obtain rfl := Option.some.inj ((putOrder_order_same _ _ _).symm.trans ho')
    rcases hst with rfl | ⟨rfl, _⟩ | ⟨rfl, _⟩ <;> simp
  | join i o ho hst =>
    refine activeListed_join (s := s) i rfl (fun o' ho' => ?_) (putOrder_order_same _ _ _) rfl (fun j hj => ne (r := s) hj) hs
    obtain rfl := Option.some.inj (ho.symm.trans ho')
    rw [hst]; simp
  | assign i o b ho hn hst hb => exact activeListed_of_key (s := s) rfl (putOrder_key (o' := { o with bin := some b }) (s := s.setPack _) ho rfl) hs
  | unbin i o b ho hb hst =>
    rw [releaseBin_some ho]
    exact activeListed_of_key (s := s) rfl (putOrder_key (o' := { o with bin := none }) (s := s.setPack _) ho rfl) hs
  | giveBack i o ho hst hf =>
    obtain ⟨hnone, _, hother, ha, _⟩ := returnDescriptor_cases ho
    refine activeListed_aside i ha (fun o' ho' => ?_) (fun o' ho' => ?_) (fun j hj => by rw [(hother j hj).1]) hs
    · obtain rfl := Option.some.inj (ho.symm.trans ho')
      rw [hst]; simp
    · rw [hnone] at ho'; cases ho'
  | drop i o ho hb hf =>
    obtain ⟨hnone, _, hother, ha, _⟩ := returnDescriptor_cases (s := leaveActive i s) ho
    refine activeListed_leave i ha (fun o' ho' => ?_) (fun j hj => by rw [(hother j hj).1]; rfl) hs
    rw [hnone] at ho'; cases ho'
  | close b x o hb ho hst =>
    have ho' : (releaseBin b x.index s).order x.index = some { o with bin := none } := by
      rw [releaseBin_some ho, putOrder_order_same]
    obtain ⟨hnone, _, hother, ha, _⟩ := returnDescriptor_cases ho'
    refine activeListed_aside x.index (ha.trans (releaseBin_active _ _ _)) (fun o' ho' => ?_) (fun o' ho' => ?_)
      (fun j hj => ?_) hs
    · obtain rfl := Option.some.inj (ho.symm.trans ho')
      rw [hst]; simp
    · rw [hnone] at ho'; cases ho'
    · rw [(hother j hj).1, (releaseBin_others b ho hj).1]
  | define | remove | shelve | unshelve | good | freed | stray | unclaim => exact hs

/-- Settles O11. -/
theorem activeOrderListKept : Obligations.ActiveOrderListKept := fun _ _ hs h =>
  step_of_moves (I := State.activeListed) (fun _ _ hm => hm.activeListed) powered_activeListed hs h

end Sys2Proof.Machine
end

section
/-! The counts of lines, units and artworks through every move of the books (R24, R25, R28, R40). -/

namespace Sys2Proof.Machine

/-! ### The counts, from the claims -/

theorem unitsOwned_iff (s : State) : s.unitsOwned ↔ ∀ u h k, s.claim u = some (h, k) →
    s.handleOf h.index = h ∧ (lineNoOf s h.index k).isSome = true := by
  constructor
  · intro hs u h k hc
    obtain ⟨sh, hsh, e⟩ := Option.map_eq_some_iff.mp hc
    obtain ⟨rfl, rfl⟩ := Prod.mk.inj e
    exact hs u sh hsh
  · intro hs u sh hsh
    exact hs u sh.order sh.line (by simp [State.claim, hsh])

/-- A unit claims a line position of an order. -/
def claims (i : OrderNo) (k : Fin 8) (c : Option (Handle × Fin 8)) : Bool :=
  c.any fun x => decide (x.1.index = i ∧ x.2 = k)

theorem unitsOf_eq (s : State) (i : OrderNo) (k : Fin 8) :
    s.unitsOf i k = (List.finRange 40).filter fun u => claims i k (s.claim u) := by
  unfold State.unitsOf claims State.claim
  refine List.filter_congr fun u _ => ?_
  cases s.shirt u <;> rfl

theorem mem_unitsOf {s : State} {i : OrderNo} {k : Fin 8} {u : UnitNo} :
    u ∈ s.unitsOf i k ↔ ∃ h, s.claim u = some (h, k) ∧ h.index = i := by
  rw [unitsOf_eq]
  cases hc : s.claim u with
  | none => simp [claims, hc]
  | some c => obtain ⟨h, q⟩ := c; simp [claims, hc, and_comm]

theorem unitsOf_of_claims {s t : State} (h : ∀ u, t.claim u = s.claim u) (i : OrderNo) (k : Fin 8) :
    t.unitsOf i k = s.unitsOf i k := by
  rw [unitsOf_eq, unitsOf_eq]
  simp only [h]

/-- Of a list without repeats, one more passes a test that differs at one entry alone. -/
theorem length_filter_flip {α : Type} {L : List α} (hL : L.Nodup) {a : α} (ha : a ∈ L) {p q : α → Bool}
    (hp : p a = false) (hq : q a = true) (h : ∀ b, b ≠ a → q b = p b) :
    (L.filter q).length = (L.filter p).length + 1 := by
  obtain ⟨A, B, rfl⟩ := List.append_of_mem ha
  rw [List.nodup_append, List.nodup_cons] at hL
  obtain ⟨_, ⟨hB, _⟩, hA⟩ := hL
  have inA : A.filter q = A.filter p := List.filter_congr fun b hb => h b (hA b hb a (by simp))
  have inB : B.filter q = B.filter p := List.filter_congr fun b hb => h b fun e => hB (e ▸ hb)
  simp only [List.filter_append, List.filter_cons, List.length_append, hp, hq, inA, inB, if_true, Bool.false_eq_true,
    if_false, List.length_cons]
  omega

/-- A unit more claims a line, the others claim as they did. -/
theorem unitsOf_claimed {s t : State} {u : UnitNo} {h : Handle} {k : Fin 8} (hu : s.claim u = none)
    (ht : t.claim u = some (h, k)) (others : ∀ v, v ≠ u → t.claim v = s.claim v) (i : OrderNo) (q : Fin 8) :
    (t.unitsOf i q).length = (s.unitsOf i q).length + if i = h.index ∧ q = k then 1 else 0 := by
  rw [unitsOf_eq, unitsOf_eq]
  split
  · next e =>
    obtain ⟨rfl, rfl⟩ := e
    exact length_filter_flip (List.nodup_finRange _) (List.mem_finRange u) (by simp [hu, claims]) (by simp [ht, claims])
      fun v hv => by rw [others v hv]
  · next e =>
    refine congrArg List.length (List.filter_congr fun v _ => ?_)
    by_cases hv : v = u
    · subst hv
      have no : claims i q (some (h, k)) = false :=
        decide_eq_false fun c : h.index = i ∧ k = q => e ⟨c.1.symm, c.2.symm⟩
      rw [hu, ht, no]; rfl
    · rw [others v hv]

/-! ### Lines and their orders -/

theorem State.linesOwned.line {s : State} (h : s.linesOwned) {i : OrderNo} {o : Order} (ho : s.order i = some o)
    {n : LineNo} (hn : n ∈ o.lines) : ∃ l, s.line n = some l ∧ l.order = i := by
  obtain ⟨k, hk⟩ := List.mem_iff_getElem?.mp hn
  obtain ⟨l, hl, hi, _⟩ := h.2 i o k n ho hk
  exact ⟨l, hl, hi⟩

/-- A line record stands in its own order's list alone. -/
theorem State.linesOwned.mem_iff {s : State} (h : s.linesOwned) {i : OrderNo} {o : Order} (ho : s.order i = some o)
    {n : LineNo} {l : Line} (hl : s.line n = some l) : n ∈ o.lines ↔ l.order = i := by
  constructor
  · intro hn
    obtain ⟨l', hl', hi⟩ := h.line ho hn
    obtain rfl := Option.some.inj (hl.symm.trans hl')
    exact hi
  · rintro rfl
    obtain ⟨o', ho', hk⟩ := h.1 n l hl
    obtain rfl := Option.some.inj (ho.symm.trans ho')
    exact List.mem_of_getElem? hk

/-- Two line records of one place are one. -/
theorem State.linesOwned.inj {s : State} (h : s.linesOwned) {m n : LineNo} {l l' : Line} (hm : s.line m = some l)
    (hn : s.line n = some l') (ho : l.order = l'.order) (hp : l.position = l'.position) : m = n := by
  obtain ⟨o, ho1, hk1⟩ := h.1 m l hm
  obtain ⟨o', ho2, hk2⟩ := h.1 n l' hn
  rw [← ho] at ho2
  obtain rfl := Option.some.inj (ho1.symm.trans ho2)
  rw [← hp] at hk2
  exact Option.some.inj (hk1.symm.trans hk2)

/-- The line a unit claims. -/
theorem State.countsAgree.claimed {s : State} (h : s.countsAgree) {u : UnitNo} {x : Handle} {k : Fin 8}
    (hc : s.claim u = some (x, k)) : ∃ n l, lineNoOf s x.index k = some n ∧ s.line n = some l ∧ l.order = x.index
      ∧ l.position = k ∧ 0 < l.inFlight := by
  obtain ⟨hlines, hunits, hcount, _⟩ := h
  obtain ⟨_, hsome⟩ := (unitsOwned_iff s).mp hunits u x k hc
  obtain ⟨n, hn⟩ := Option.isSome_iff_exists.mp hsome
  obtain ⟨o, ho, hk⟩ := Option.bind_eq_some_iff.mp hn
  obtain ⟨l, hl, hi, hp⟩ := hlines.2 x.index o k.val n ho hk
  have hp := Fin.ext hp
  obtain ⟨_, _, _, hf⟩ := hcount n l hl
  refine ⟨n, l, hn, hl, hi, hp, ?_⟩
  rw [hf, hi, hp]
  exact List.length_pos_of_mem (mem_unitsOf.mpr ⟨x, hc, rfl⟩)

theorem linesNaming_of_lines {s t : State} (h : ∀ n, (t.line n).map (·.artwork) = (s.line n).map (·.artwork))
    (a : ArtworkNo) : t.linesNaming a = s.linesNaming a := by
  unfold State.linesNaming
  simp only [h]

theorem linesOf_of_lines {s t : State} {o : Order} (h : ∀ n ∈ o.lines, t.line n = s.line n) : linesOf t o = linesOf s o :=
  List.filterMap_congr h

/-! ### Changes that keep the counts -/

/-- Orders revised but for their lines, artworks but for their counts. -/
theorem countsAgree_revise {s t : State} (h : s.countsAgree) (hl : t.book.lines = s.book.lines)
    (hc : ∀ u, t.claim u = s.claim u) (hh : ∀ i, t.handleOf i = s.handleOf i)
    (ho : ∀ i, (t.order i).map (·.lines) = (s.order i).map (·.lines))
    (hcomplete : ∀ i o, t.order i = some o → o.state = .complete → ∀ l ∈ linesOf s o, l.good = l.quantity)
    (hr : ∀ a, (tget t.artworks a).refs = (tget s.artworks a).refs)
    (hd : ∀ a, 0 < (tget s.artworks a).refs → (tget s.artworks a).design.isSome = true →
      (tget t.artworks a).design.isSome = true) : t.countsAgree := by
  obtain ⟨⟨howned, hlisted⟩, hunits, hcount, _, hart⟩ := h
  have line : ∀ n, t.line n = s.line n := fun n => by rw [State.line, hl]; rfl
  have order : ∀ {x y : State} {i o}, (∀ i, (x.order i).map (·.lines) = (y.order i).map (·.lines)) →
      x.order i = some o → ∃ o', y.order i = some o' ∧ o'.lines = o.lines := fun e h => by
    have := e ‹_›
    rw [h] at this
    exact Option.map_eq_some_iff.mp this.symm
  have lineNo : ∀ i k, lineNoOf t i k = lineNoOf s i k := fun i k => by
    have := congrArg (fun x => x.bind fun ls => ls[k.val]?) (ho i)
    simpa [lineNoOf, Option.bind_map] using this
  refine ⟨⟨fun n l hn => ?_, fun i o k n hi hk => ?_⟩, ?_, fun n l hn => ?_, fun i o hi hs => ?_, fun a => ?_⟩
  · obtain ⟨o, hi, hk⟩ := howned n l (line n ▸ hn)
    obtain ⟨o', ho', e⟩ := order (fun i => (ho i).symm) hi
    exact ⟨o', ho', e ▸ hk⟩
  · obtain ⟨o', ho', e⟩ := order ho hi
    rw [line]
    exact hlisted i o' k n ho' (e ▸ hk)
  · rw [unitsOwned_iff] at hunits ⊢
    intro u x k e
    rw [hh, lineNo]
    exact hunits u x k (hc u ▸ e)
  · rw [unitsOf_of_claims hc]
    exact hcount n l (line n ▸ hn)
  · rw [linesOf_of_lines fun n _ => line n]
    exact hcomplete i o hi hs
  · obtain ⟨h1, h2, h3⟩ := hart a
    have naming : t.linesNaming a = s.linesNaming a := linesNaming_of_lines (fun n => by rw [line]) a
    rw [hr, naming]
    exact ⟨h1, h2, fun hp => hd a hp (h3 hp)⟩

theorem countsAgree_of_eq {s t : State} (h : s.countsAgree) (hl : t.book.lines = s.book.lines)
    (ho : t.book.orders = s.book.orders) (hc : ∀ u, t.claim u = s.claim u)
    (ha : ∀ a, (tget t.artworks a).refs = (tget s.artworks a).refs ∧ (tget t.artworks a).design = (tget s.artworks a).design) :
    t.countsAgree := by
  have order : ∀ i, t.order i = s.order i := fun i => by rw [State.order, ho]; rfl
  refine countsAgree_revise h hl hc (fun i => by rw [State.handleOf, ho]; rfl) (fun i => by rw [order]) (fun i o hi => ?_)
    (fun a => (ha a).1) fun a _ hd => by rw [(ha a).2]; exact hd
  exact h.2.2.2.1 i o (order i ▸ hi)

/-- One order revised but for its lines. -/
theorem countsAgree_order {s t : State} {i : OrderNo} {o o' : Order} (h : s.countsAgree) (ho : s.order i = some o)
    (ht : ∀ j, t.order j = (putOrder i (some o') s).order j) (hlines : o'.lines = o.lines)
    (hcomplete : o'.state = .complete → o.state = .complete ∨ allGood s o = true)
    (hl : t.book.lines = s.book.lines) (hu : t.units = s.units) (hh : ∀ j, t.handleOf j = s.handleOf j)
    (ha : t.artworks = s.artworks) : t.countsAgree := by
  refine countsAgree_revise h hl (claim_of_units hu) hh (fun j => ?_) (fun j x hj hs => ?_) (fun a => by rw [ha])
    fun a _ hd => by rw [ha]; exact hd
  · rw [ht]
    by_cases e : j = i
    · subst e; rw [putOrder_order_same, ho]; exact congrArg some hlines
    · rw [putOrder_order_ne _ _ e]
  · rw [ht] at hj
    by_cases e : j = i
    · subst e
      obtain rfl := Option.some.inj ((putOrder_order_same _ _ _).symm.trans hj)
      have same : linesOf s o' = linesOf s o := by unfold linesOf; rw [hlines]
      rw [same]
      rcases hcomplete hs with hs | hg
      · exact h.2.2.2.1 j o ho hs
      · simpa [allGood] using hg
    · rw [putOrder_order_ne _ _ e] at hj
      exact h.2.2.2.1 j x hj hs

/-- The counts of one line revised with the units that claim it. -/
theorem countsAgree_line {s t : State} {n : LineNo} {l l' : Line} (h : s.countsAgree) (hl : s.line n = some l)
    (ht : ∀ m, t.line m = if m = n then some l' else s.line m)
    (hsame : l'.order = l.order ∧ l'.position = l.position ∧ l'.artwork = l.artwork ∧ l'.quantity = l.quantity)
    (hgood : l'.good + l'.inFlight ≤ l.quantity) (hfull : l.good = l.quantity → l'.good = l.quantity)
    (hflight : l'.inFlight = (t.unitsOf l.order l.position).length)
    (hother : ∀ i k, ¬ (i = l.order ∧ k = l.position) → (t.unitsOf i k).length = (s.unitsOf i k).length)
    (ho : t.book.orders = s.book.orders) (hunits : t.unitsOwned) (ha : t.artworks = s.artworks) : t.countsAgree := by
  obtain ⟨hlines, _, hcount, hcomplete, hart⟩ := h
  obtain ⟨howned, hlisted⟩ := id hlines
  obtain ⟨horder, hposition, hartwork, hquantity⟩ := hsame
  have order : ∀ i, t.order i = s.order i := fun i => by rw [State.order, ho]; rfl
  have here : t.line n = some l' := by rw [ht, if_pos rfl]
  have there : ∀ m, m ≠ n → t.line m = s.line m := fun m e => by rw [ht, if_neg e]
  refine ⟨⟨fun m x hm => ?_, fun i o k m hi hk => ?_⟩, hunits, fun m x hm => ?_, fun i o hi hs x hx => ?_, fun a => ?_⟩
  · rw [order]
    by_cases e : m = n
    · subst e
      obtain rfl := Option.some.inj (here.symm.trans hm)
      rw [horder, hposition]
      exact howned m l hl
    · exact howned m x (there m e ▸ hm)
  · obtain ⟨x, hx, hxo, hxp⟩ := hlisted i o k m (order i ▸ hi) hk
    by_cases e : m = n
    · subst e
      obtain rfl := Option.some.inj (hl.symm.trans hx)
      exact ⟨l', here, horder.trans hxo, by rw [hposition]; exact hxp⟩
    · exact ⟨x, by rw [there m e]; exact hx, hxo, hxp⟩
  · by_cases e : m = n
    · subst e
      obtain rfl := Option.some.inj (here.symm.trans hm)
      obtain ⟨h1, h2, _⟩ := hcount m l hl
      rw [hquantity, horder, hposition]
      exact ⟨h1, h2, hgood, hflight⟩
    · have hx := there m e ▸ hm
      obtain ⟨h1, h2, h3, h4⟩ := hcount m x hx
      refine ⟨h1, h2, h3, h4.trans (hother _ _ fun hc => e ?_).symm⟩
      exact hlines.inj hx hl hc.1 hc.2
  · obtain ⟨m, hm, hmx⟩ := List.mem_filterMap.mp hx
    have all := hcomplete i o (order i ▸ hi) hs
    by_cases e : m = n
    · subst e
      obtain rfl := Option.some.inj (here.symm.trans hmx)
      rw [hquantity]
      exact hfull (all l (List.mem_filterMap.mpr ⟨m, hm, hl⟩))
    · exact all x (List.mem_filterMap.mpr ⟨m, hm, there m e ▸ hmx⟩)
  · rw [ha, linesNaming_of_lines fun m => ?_]
    · exact hart a
    · by_cases e : m = n
      · subst e; rw [here, hl]; exact congrArg some hartwork
      · rw [there m e]

/-! ### LOAD, a shirt made good, a unit freed -/

theorem good_countsAgree {s : State} {n : LineNo} {l : Line} (h : s.countsAgree) (hl : s.line n = some l)
    (hn : 0 < l.need) : (putLine n (some { l with good := l.good + 1 }) s).countsAgree := by
  obtain ⟨_, _, hsum, hflight⟩ := h.2.2.1 n l hl
  unfold Line.need at hn
  refine countsAgree_line (l' := { l with good := l.good + 1 }) h hl (fun m => ?_) ⟨rfl, rfl, rfl, rfl⟩
    (by dsimp only; omega) (by dsimp only; omega) hflight (fun _ _ _ => rfl) rfl h.2.1 rfl
  change tget (tset s.book.lines n _) m = _
  rw [tget_tset]; rfl

theorem freed_countsAgree {s : State} {u : UnitNo} {sh : Shirt} {n : LineNo} {l : Line} (d : Disposition)
    (h : s.countsAgree) (hsh : s.shirt u = some sh) (hn : lineNoOf s sh.order.index sh.line = some n)
    (hl : s.line n = some l) : (putLine n (some (l.adjusted d)) (clearUnit u s)).countsAgree := by
  have hc : s.claim u = some (sh.order, sh.line) := by simp [State.claim, hsh]
  obtain ⟨n', l', hn', hl', ho, hp, hpos⟩ := h.claimed hc
  obtain rfl := Option.some.inj (hn.symm.trans hn')
  obtain rfl := Option.some.inj (hl.symm.trans hl')
  obtain ⟨_, _, hsum, hflight⟩ := h.2.2.1 n l hl
  have cleared : (putLine n (some (l.adjusted d)) (clearUnit u s)).claim u = none := by
    change ((clearUnit u s).shirt u).map _ = none
    rw [clearUnit_shirt_same]; rfl
  have others : ∀ v, v ≠ u → s.claim v = (putLine n (some (l.adjusted d)) (clearUnit u s)).claim v := fun v hv => by
    change _ = ((clearUnit u s).shirt v).map _
    rw [clearUnit_shirt_ne s hv]; rfl
  have units := unitsOf_claimed cleared hc others
  have flight : (l.adjusted d).inFlight = l.inFlight - 1 := by cases d <;> rfl
  have good : (l.adjusted d).good ≤ l.good + 1 ∧ l.good ≤ (l.adjusted d).good := by
    cases d <;> constructor <;> simp [Line.adjusted]
  refine countsAgree_line (l' := l.adjusted d) h hl (fun m => ?_) (by cases d <;> exact ⟨rfl, rfl, rfl, rfl⟩) (by omega) (by omega) ?_
    (fun i k hik => ?_) rfl ?_ rfl
  · change tget (tset s.book.lines n _) m = _
    rw [tget_tset]; rfl
  · have := units l.order l.position
    rw [if_pos ⟨ho, hp⟩] at this
    omega
  · have := units i k
    rw [if_neg (by rwa [← ho, ← hp])] at this
    exact this.symm
  · refine (unitsOwned_iff _).mpr fun v x k hv => ?_
    by_cases e : v = u
    · subst e; rw [cleared] at hv; cases hv
    · exact (unitsOwned_iff s).mp h.2.1 v x k ((others v e).trans hv)

theorem candidate_some {s : State} {k : Sku} {i : OrderNo} {n : LineNo} {l : Line} (h : candidate s k = some (i, n, l)) :
    ∃ o, s.order i = some o ∧ n ∈ o.lines ∧ s.line n = some l ∧ 0 < l.need := by
  unfold candidate at h
  obtain ⟨j, _, hj⟩ := List.exists_of_findSome?_eq_some h
  unfold candidateIn at hj
  obtain ⟨o, ho, hf⟩ := Option.bind_eq_some_iff.mp hj
  obtain ⟨m, hm, hx⟩ := List.exists_of_findSome?_eq_some hf
  split at hx
  · next l' hl' =>
    split at hx
    · next hneed =>
      obtain ⟨rfl, rfl, rfl⟩ : j = i ∧ m = n ∧ l' = l := by simpa using hx
      exact ⟨o, ho, hm, hl', hneed.2⟩
    · cases hx
  · cases hx

theorem load_countsAgree {s t : State} (h : s.countsAgree) (ht : LoadTaken s t) : t.countsAgree := by
  obtain ⟨u, pl, sku, i, n, l, hu, _, hcandidate, rfl⟩ := ht
  obtain ⟨o, ho, hmem, hl, hneed⟩ := candidate_some hcandidate
  have hi := (h.1.mem_iff ho hl).mp hmem
  obtain ⟨_, _, hsum, hflight⟩ := h.2.2.1 n l hl
  unfold Line.need at hneed
  generalize ht : acceptLoad u pl i n l s = t
  have orders : t.book.orders = s.book.orders := by rw [← ht]; rfl
  have free : s.claim u = none := by simp [State.claim, hu]
  have taken : t.claim u = some (s.handleOf i, l.position) := by
    rw [← ht]
    change ((putShirt u _ _).shirt u).map _ = _
    rw [putShirt_shirt_same]; rfl
  have others : ∀ v, v ≠ u → t.claim v = s.claim v := fun v hv => by
    rw [← ht]
    change ((putShirt u _ _).shirt v).map _ = _
    rw [putShirt_shirt_ne _ _ hv]; rfl
  have units := unitsOf_claimed free taken others
  refine countsAgree_line (l' := { l with inFlight := l.inFlight + 1 }) h hl (fun m => ?_) ⟨rfl, rfl, rfl, rfl⟩
    (by dsimp only; omega) (by dsimp only; omega) ?_ (fun j k hjk => ?_) orders ?_ (by rw [← ht]; rfl)
  · rw [← ht]
    change tget (tset s.book.lines n _) m = _
    rw [tget_tset]; rfl
  · rw [units, if_pos ⟨hi, rfl⟩, ← hflight]
  · rw [units, if_neg (by rwa [show (s.handleOf i).index = l.order from hi.symm])]; rfl
  · refine (unitsOwned_iff _).mpr fun v x k hv => ?_
    have order : ∀ j, t.order j = s.order j := fun j => by rw [State.order, orders]; rfl
    have handle : ∀ j, t.handleOf j = s.handleOf j := fun j => by rw [State.handleOf, orders]; rfl
    unfold lineNoOf
    rw [handle, order]
    by_cases e : v = u
    · subst e
      obtain ⟨rfl, rfl⟩ := Prod.mk.inj (Option.some.inj (taken.symm.trans hv))
      obtain ⟨o', ho', hk⟩ := h.1.1 n l hl
      refine ⟨rfl, ?_⟩
      change ((s.order i).bind _).isSome = true
      rw [← hi, ho', Option.bind_some, hk]; rfl
    · exact (unitsOwned_iff s).mp h.2.1 v x k ((others v e).symm.trans hv)

/-! ### An order returned -/

/-- A list's entries outside another are those not within it. -/
theorem linesNaming_returned {s t : State} {ns : List LineNo} (h : ∀ n, t.line n = if n ∈ ns then none else s.line n)
    (a : ArtworkNo) :
    (t.linesNaming a).length = (s.linesNaming a).length - ((s.linesNaming a).filter ns.contains).length := by
  have e : t.linesNaming a = (s.linesNaming a).filter fun n => !ns.contains n := by
    unfold State.linesNaming
    rw [List.filter_filter]
    refine List.filter_congr fun n _ => ?_
    rw [h]
    by_cases c : n ∈ ns <;> simp [c]
  have := List.length_eq_length_filter_add (l := s.linesNaming a) ns.contains
  rw [e]
  omega

theorem return_countsAgree {s : State} {i : OrderNo} {o : Order} (h : s.countsAgree) (ho : s.order i = some o)
    (hf : totalInFlight s o = 0) : (returnDescriptor i s).countsAgree := by
  obtain ⟨hlines, hunits, hcount, hcomplete, hart⟩ := id h
  obtain ⟨hnone, _, hother, _, _, hline, hrefs, _⟩ := returnDescriptor_cases ho
  have claim := claim_of_units (returnDescriptor_units i s)
  generalize returnDescriptor i s = t at *
  have unclaimed : ∀ u x k, s.claim u = some (x, k) → x.index ≠ i := fun u x k hc e => by
    obtain ⟨n, l, _, hl, hlo, _, hpos⟩ := h.claimed hc
    have := (totalInFlight_pos s o).mpr ⟨n, (hlines.mem_iff ho hl).mpr (hlo.trans e), l, hl, hpos⟩
    omega
  have kept : ∀ {n l}, s.line n = some l → l.order ≠ i → t.line n = some l := fun hl hn => by
    rw [hline, if_neg fun hm => hn ((hlines.mem_iff ho hl).mp hm)]; exact hl
  have back : ∀ {n l}, t.line n = some l → s.line n = some l ∧ l.order ≠ i := fun {n l} hl => by
    rw [hline] at hl
    split at hl
    · cases hl
    · next hn => exact ⟨hl, fun e => hn ((hlines.mem_iff ho hl).mpr e)⟩
  have other : ∀ {j o'}, t.order j = some o' → j ≠ i ∧ s.order j = some o' := fun {j o'} hj => by
    by_cases e : j = i
    · subst e; rw [hnone] at hj; cases hj
    · exact ⟨e, (hother j e).1 ▸ hj⟩
  refine ⟨⟨fun n l hl => ?_, fun j o' k n hj hk => ?_⟩, ?_, fun n l hl => ?_, fun j o' hj hs l hl => ?_, fun a => ?_⟩
  · obtain ⟨hl, hne⟩ := back hl
    rw [(hother _ hne).1]
    exact hlines.1 n l hl
  · obtain ⟨hne, hj⟩ := other hj
    obtain ⟨l, hl, hlo, hlp⟩ := hlines.2 j o' k n hj hk
    exact ⟨l, kept hl (hlo ▸ hne), hlo, hlp⟩
  · refine (unitsOwned_iff _).mpr fun u x k hc => ?_
    rw [claim] at hc
    have hne := unclaimed u x k hc
    unfold lineNoOf
    rw [(hother _ hne).1, (hother _ hne).2]
    exact (unitsOwned_iff s).mp hunits u x k hc
  · rw [unitsOf_of_claims claim]
    exact hcount n l (back hl).1
  · obtain ⟨_, hj⟩ := other hj
    obtain ⟨n, hn, hnl⟩ := List.mem_filterMap.mp hl
    exact hcomplete j o' hj hs l (List.mem_filterMap.mpr ⟨n, hn, (back hnl).1⟩)
  · obtain ⟨h1, h2, h3⟩ := hart a
    rw [hrefs, linesNaming_returned hline]
    exact ⟨by dsimp only; omega, by dsimp only; omega, fun hp => h3 (by dsimp only at hp; omega)⟩

/-! ### A submission accepted -/

theorem placed_position {x : Submission} {q : Nat} {e : LineEntry} {k : Fin 8} (h : x.placed[q]? = some (e, k)) :
    k.val = q ∧ e ∈ x.entries := by
  unfold Submission.placed at h
  obtain ⟨h1, h2⟩ := List.getElem?_zip_eq_some.mp h
  refine ⟨?_, List.mem_of_mem_take (List.mem_of_getElem? h1)⟩
  obtain ⟨hq, hk⟩ := List.getElem?_eq_some_iff.mp h2
  rw [List.getElem_finRange] at hk
  exact (congrArg Fin.val hk).symm

/-- The lines taken for a list of entries name their artworks. -/
theorem linesNaming_accepted {s t : State} {i : OrderNo} {ls : List LineNo} {xs : List (LineEntry × Fin 8)}
    (hlen : ls.length = xs.length) (hnodup : ls.Nodup) (hfree : ∀ n ∈ ls, s.line n = none)
    (hsame : ∀ m, m ∉ ls → t.line m = s.line m)
    (hnew : ∀ (q : Nat) (e : LineEntry) (k : Fin 8) (n : LineNo), xs[q]? = some (e, k) → ls[q]? = some n → t.line n = some (newLine i k e)) (a : ArtworkNo) :
    (t.linesNaming a).length = (s.linesNaming a).length + (xs.filter fun y => decide (y.1.artwork = a)).length := by
  have names : ls.map (fun n => (t.line n).map (·.artwork)) = xs.map fun y => some y.1.artwork := by
    refine List.ext_getElem (by simpa using hlen) fun q h1 h2 => ?_
    rw [List.length_map] at h1 h2
    rw [List.getElem_map, List.getElem_map, hnew q xs[q].1 xs[q].2 ls[q] (by simp [h2]) (by simp [h1])]
    rfl
  have count : (ls.filter fun n => decide ((t.line n).map (·.artwork) = some a)).length
      = (xs.filter fun y => decide (y.1.artwork = a)).length := by
    have e := congrArg (List.countP fun x => decide (x = some a)) names
    rw [List.countP_map, List.countP_map] at e
    rw [← List.countP_eq_length_filter, ← List.countP_eq_length_filter]
    simpa [Function.comp_def] using e
  have perm : (t.linesNaming a).Perm
      (s.linesNaming a ++ ls.filter fun n => decide ((t.line n).map (·.artwork) = some a)) := by
    refine (List.perm_ext_iff_of_nodup (linesNaming_nodup t a) ?_).mpr fun n => ?_
    · refine List.nodup_append.mpr ⟨linesNaming_nodup s a, hnodup.filter _, fun m hm n hn e => ?_⟩
      subst e
      have free := hfree m (List.mem_of_mem_filter hn)
      simp [State.linesNaming, free] at hm
    · by_cases hn : n ∈ ls
      · simp [State.linesNaming, hn, hfree n hn]
      · simp [State.linesNaming, hn, hsame n hn]
  rw [perm.length_eq, List.length_append, count]

theorem linesNaming_length_le (s : State) (a : ArtworkNo) : (s.linesNaming a).length ≤ 384 := by
  refine (List.length_filter_le _ _).trans ?_
  rw [List.length_finRange]

theorem accept_countsAgree {s : State} {i : OrderNo} {x : Submission} (h : s.countsAgree) (hi : s.order i = none)
    (hq : ∀ e ∈ x.entries, 1 ≤ e.quantity ∧ e.quantity ≤ 48)
    (he : ∀ e ∈ x.entries, (tget s.artworks e.artwork).design.isSome = true) (hl : x.entries.length ≤ freeLines s) :
    (acceptOrder i x s).countsAgree := by
  obtain ⟨ls, t, e, hlen, hnodup, hfree, ho, hother, hhandle, hsame, hnew, hrefs, _, _, et⟩ := acceptOrder_cases i hl
  obtain ⟨hlines, hunits, hcount, hcomplete, hart⟩ := id h
  have claim : ∀ u, t.claim u = s.claim u := claim_of_units (by rw [et])
  suffices ht : t.countsAgree by
    rw [e]
    refine countsAgree_of_eq ht ?_ ?_ (claim_of_units (by simp)) fun a => by rw [joinActive_artworks]; exact ⟨rfl, rfl⟩
    · unfold joinActive; split <;> rfl
    · unfold joinActive; split <;> rfl
  have outside : ∀ {n l}, s.line n = some l → n ∉ ls := fun hl hm => by rw [hfree _ hm] at hl; cases hl
  have elsewhere : ∀ {n l}, s.line n = some l → l.order ≠ i := fun {n l} hl e => by
    obtain ⟨o, ho', _⟩ := hlines.1 n l hl
    rw [e, hi] at ho'; cases ho'
  have unclaimed : ∀ u y k, s.claim u = some (y, k) → y.index ≠ i := fun u y k hc e => by
    obtain ⟨n, l, _, hl, hlo, _⟩ := h.claimed hc
    exact elsewhere hl (hlo.trans e)
  have fresh : ∀ {q n}, ls[q]? = some n → ∃ en k, x.placed[q]? = some (en, k) ∧ k.val = q ∧ en ∈ x.entries
      ∧ t.line n = some (newLine i k en) := fun {q n} hqn => by
    obtain ⟨hlt, _⟩ := List.getElem?_eq_some_iff.mp hqn
    obtain ⟨⟨en, k⟩, hx⟩ : ∃ y, x.placed[q]? = some y := ⟨_, List.getElem?_eq_getElem (hlen ▸ hlt)⟩
    obtain ⟨hk, hen⟩ := placed_position hx
    exact ⟨en, k, hx, hk, hen, hnew q en k n hx hqn⟩
  have old : ∀ {j o'}, j ≠ i → t.order j = some o' → s.order j = some o' := fun hj h => hother _ hj ▸ h
  refine ⟨⟨fun n l hl => ?_, fun j o' k n hj hk => ?_⟩, ?_, fun n l hl => ?_, fun j o' hj hs l hl => ?_, fun a => ?_⟩
  · by_cases hn : n ∈ ls
    · obtain ⟨q, hq'⟩ := List.mem_iff_getElem?.mp hn
      obtain ⟨en, k, _, hk, _, hline⟩ := fresh hq'
      obtain rfl := Option.some.inj (hline.symm.trans hl)
      exact ⟨_, ho, by rw [← hq', ← hk]; rfl⟩
    · rw [hsame n hn] at hl
      rw [hother _ (elsewhere hl)]
      exact hlines.1 n l hl
  · by_cases e : j = i
    · subst e
      obtain rfl := Option.some.inj (ho.symm.trans hj)
      obtain ⟨en, k', _, hk', _, hline⟩ := fresh hk
      exact ⟨_, hline, rfl, hk'⟩
    · obtain ⟨l, hl, hlo⟩ := hlines.2 j o' k n (old e hj) hk
      exact ⟨l, by rw [hsame n (outside hl)]; exact hl, hlo⟩
  · refine (unitsOwned_iff _).mpr fun u y k hc => ?_
    rw [claim] at hc
    unfold lineNoOf
    rw [hother _ (unclaimed u y k hc), hhandle]
    exact (unitsOwned_iff s).mp hunits u y k hc
  · rw [unitsOf_of_claims claim]
    by_cases hn : n ∈ ls
    · obtain ⟨q, hq'⟩ := List.mem_iff_getElem?.mp hn
      obtain ⟨en, k, _, _, hen, hline⟩ := fresh hq'
      obtain rfl := Option.some.inj (hline.symm.trans hl)
      have none : s.unitsOf i k = [] := List.eq_nil_iff_forall_not_mem.mpr fun u hu => by
        obtain ⟨y, hc, hy⟩ := mem_unitsOf.mp hu
        exact unclaimed u y k hc hy
      obtain ⟨h1, h2⟩ := hq en hen
      exact ⟨h1, h2, Nat.zero_le _, by rw [show (newLine i k en).order = i from rfl,
        show (newLine i k en).position = k from rfl, none]; rfl⟩
    · exact hcount n l (hsame n hn ▸ hl)
  · by_cases e : j = i
    · subst e
      obtain rfl := Option.some.inj (ho.symm.trans hj)
      cases hs
    · rw [linesOf_of_lines fun n hn => ?_] at hl
      · exact hcomplete j o' (old e hj) hs l hl
      · obtain ⟨l', hl', _⟩ := hlines.line (old e hj) hn
        exact hsame n (outside hl')
  · obtain ⟨h1, _, h3⟩ := hart a
    have naming := linesNaming_accepted hlen hnodup hfree hsame hnew a
    have := linesNaming_length_le t a
    rw [hrefs]
    refine ⟨by dsimp only; omega, by dsimp only; omega, fun hp => ?_⟩
    dsimp only at hp ⊢
    by_cases hz : 0 < (tget s.artworks a).refs
    · exact h3 hz
    · obtain ⟨y, hy⟩ := List.exists_mem_of_length_pos (by omega :
        0 < (x.placed.filter fun y => decide (y.1.artwork = a)).length)
      obtain ⟨hy, hya⟩ := List.mem_filter.mp hy
      obtain ⟨q, hq⟩ := List.mem_iff_getElem?.mp hy
      rw [← of_decide_eq_true hya]
      exact he _ (placed_position hq).2

/-! ### LINE RESET -/

theorem resetUnits_claim (s : State) (u : UnitNo) : (resetLines (resetUnits s)).claim u = none := by
  have e : tget (resetLines (resetUnits s)).units u = (tget s.units u).freed := tget_tmap _ _ _
  unfold State.claim State.shirt
  rw [e]
  unfold UnitRecord.freed
  split
  · rfl
  · next h => simpa using h

theorem unclaim_countsAgree {s : State} (h : s.countsAgree) : (resetLines (resetUnits s)).countsAgree := by
  obtain ⟨hlines, _, hcount, hcomplete, hart⟩ := h
  have claim := resetUnits_claim s
  have line : ∀ n, (resetLines (resetUnits s)).line n = (s.line n).map fun l => { l with inFlight := 0 } :=
    resetLines_line (resetUnits s)
  have order : ∀ i, (resetLines (resetUnits s)).order i = s.order i := fun _ => rfl
  have art : (resetLines (resetUnits s)).artworks = s.artworks := rfl
  generalize resetLines (resetUnits s) = t at *
  have back : ∀ {n l}, t.line n = some l → ∃ l', s.line n = some l' ∧ l = { l' with inFlight := 0 } := fun {n l} hl => by
    rw [line] at hl
    obtain ⟨l', hl', e⟩ := Option.map_eq_some_iff.mp hl
    exact ⟨l', hl', e.symm⟩
  refine ⟨⟨fun n l hl => ?_, fun i o k n hi hk => ?_⟩, ?_, fun n l hl => ?_, fun i o hi hs l hl => ?_, fun a => ?_⟩
  · obtain ⟨l', hl', rfl⟩ := back hl
    rw [order]
    exact hlines.1 n l' hl'
  · obtain ⟨l, hl, hlo⟩ := hlines.2 i o k n (order i ▸ hi) hk
    exact ⟨{ l with inFlight := 0 }, by rw [line, hl]; rfl, hlo⟩
  · exact (unitsOwned_iff _).mpr fun u x k hc => by rw [claim] at hc; cases hc
  · obtain ⟨l', hl', rfl⟩ := back hl
    obtain ⟨h1, h2, h3, _⟩ := hcount n l' hl'
    have none : t.unitsOf l'.order l'.position = [] := List.eq_nil_iff_forall_not_mem.mpr fun u hu => by
      obtain ⟨y, hc, _⟩ := mem_unitsOf.mp hu
      rw [claim] at hc; cases hc
    exact ⟨h1, h2, by dsimp only; omega, by dsimp only; rw [none]; rfl⟩
  · obtain ⟨n, hn, hnl⟩ := List.mem_filterMap.mp hl
    obtain ⟨l', hl', rfl⟩ := back hnl
    exact hcomplete i o (order i ▸ hi) hs l' (List.mem_filterMap.mpr ⟨n, hn, hl'⟩)
  · rw [art, linesNaming_of_lines (s := s) fun n => ?_]
    · exact hart a
    · rw [line]; cases s.line n <;> rfl

/-! ### The artworks -/

theorem putArtwork_countsAgree {s : State} {a : ArtworkNo} {x : Artwork} (h : s.countsAgree)
    (hr : (tget s.artworks a).refs = 0) (hx : x.refs = 0) : (putArtwork a x s).countsAgree := by
  have at_ : ∀ b, tget (putArtwork a x s).artworks b = if b = a then x else tget s.artworks b := fun b => tget_tset _ _ _ _
  refine countsAgree_revise h rfl (fun _ => rfl) (fun _ => rfl) (fun _ => rfl) h.2.2.2.1 (fun b => ?_) fun b hp hd => ?_
  · rw [at_]
    split
    · next e => rw [e, hr, hx]
    · rfl
  · rw [at_, if_neg fun e => by rw [e, hr] at hp; cases hp]
    exact hd

/-! ### The moves -/

theorem releaseBin_countsAgree {s : State} {i : OrderNo} {o : Order} (b : BinNo) (h : s.countsAgree)
    (ho : s.order i = some o) : (releaseBin b i s).countsAgree := by
  rw [releaseBin_some ho]
  exact countsAgree_order (o' := { o with bin := none }) h ho (fun _ => rfl) rfl .inl rfl rfl (putOrder_handleOf _ · _ _) rfl

theorem Move.countsAgree {s t : State} (h : Move s t) (hs : s.countsAgree) : t.countsAgree := by
  cases h with
  | aside h => exact countsAgree_of_eq hs (by rw [h.book]) (by rw [h.book]) h.claims h.artworks
  | define a d hd =>
    refine putArtwork_countsAgree hs (Nat.eq_zero_of_not_pos fun hp => ?_) rfl
    simpa [hd] using (hs.2.2.2.2 a).2.2 hp
  | remove a hr => exact putArtwork_countsAgree hs hr rfl
  | accept i x hi hq he hl => exact accept_countsAgree hs hi hq he hl
  | unheld i o ho =>
    exact countsAgree_order (o' := { o with holdReason := none }) hs ho (fun _ => rfl) rfl .inl rfl rfl
      (putOrder_handleOf _ · _ _) rfl
  | leave i o st r ho hst =>
    refine countsAgree_order (o' := { o with state := st, holdReason := r }) hs ho (fun _ => rfl) rfl (fun e => ?_) rfl rfl
      (putOrder_handleOf _ · _ _) rfl
    obtain rfl : st = .complete := e
    simp at hst
    exact .inr hst.1
  | join i o ho hst =>
    refine countsAgree_order (o' := { o with state := .active, holdReason := none }) hs ho (joinActive_order _ · _) rfl
      (fun e => nomatch e) ?_ (by simp) (fun j => ?_) (by simp)
    · unfold joinActive; split <;> rfl
    · rw [← putOrder_handleOf i j (some { o with state := .active, holdReason := none }) s]
      unfold joinActive; split <;> rfl
  | assign i o b ho hn hst hb =>
    exact countsAgree_order (o' := { o with bin := some b }) hs ho (fun _ => rfl) rfl .inl rfl rfl
      (putOrder_handleOf _ · _ _) rfl
  | unbin i o b ho hb hst => exact releaseBin_countsAgree b hs ho
  | giveBack i o ho hst hf => exact return_countsAgree hs ho hf
  | drop i o ho hb hf =>
    exact return_countsAgree (s := leaveActive i s) (countsAgree_of_eq hs rfl rfl (fun _ => rfl) fun _ => ⟨rfl, rfl⟩) ho hf
  | close b x o hb ho hst =>
    have ho' : (releaseBin b x.index s).order x.index = some { o with bin := none } := by
      rw [releaseBin_some ho, putOrder_order_same]
    have released := releaseBin_countsAgree b hs ho
    refine return_countsAgree released ho' (Nat.eq_zero_of_not_pos fun hp => ?_)
    obtain ⟨n, hn, l, hl, hpos⟩ := (totalInFlight_pos _ _).mp hp
    have full := released.2.2.2.1 x.index _ ho' hst l (List.mem_filterMap.mpr ⟨n, hn, hl⟩)
    obtain ⟨_, _, hsum, _⟩ := released.2.2.1 n l hl
    omega
  | good n l hl hn => exact good_countsAgree hs hl hn
  | load h => exact load_countsAgree hs h
  | freed u sh n l d hsh hn hl => exact freed_countsAgree d hs hsh hn hl
  | stray u sh hsh hn =>
    obtain ⟨n, l, hn', hl, _⟩ := hs.claimed (u := u) (x := sh.order) (k := sh.line) (by simp [State.claim, hsh])
    rw [hn n hn'] at hl
    cases hl
  | unclaim => exact unclaim_countsAgree hs
  | shelve | unshelve => exact hs

theorem countsAgree_kept {s t : State} (hs : s.countsAgree) (h : step s = .next t) : t.countsAgree :=
  step_of_moves (I := State.countsAgree) (fun _ _ hm => hm.countsAgree) powered_countsAgree hs h

end Sys2Proof.Machine
end

section
/-! The places of the units through every command (R13, R14). -/

namespace Sys2Proof.Machine

/-! ### What keeps the places -/

/-- No unit changes its place: platens, queue and exit list name the units they named. -/
theorem placed_of_eq {s t : State} (h : s.placed)
    (hp : ∀ p : PlatenNo, (tget t.ring.platens p).unit = (tget s.ring.platens p).unit) (hq : t.queued = s.queued)
    (he : t.pack.exits = s.pack.exits) (hs : ∀ u, (t.shirt u).map (·.platen) = (s.shirt u).map (·.platen))
    (hx : ∀ u sh, t.shirt u = some sh → sh.state = .exited → ∃ sh', s.shirt u = some sh' ∧ sh'.state = .exited) :
    t.placed := by
  obtain ⟨h1, h2, h3, h4, h5, h6⟩ := h
  have back : ∀ {u sh}, t.shirt u = some sh → ∃ sh', s.shirt u = some sh' ∧ sh'.platen = sh.platen := fun {u sh} e => by
    have := hs u
    rw [e] at this
    exact Option.map_eq_some_iff.mp this.symm
  have forth : ∀ {u sh}, s.shirt u = some sh → ∃ sh', t.shirt u = some sh' ∧ sh'.platen = sh.platen := fun {u sh} e => by
    have := hs u
    rw [e] at this
    exact Option.map_eq_some_iff.mp this
  refine ⟨fun p u => ?_, hq ▸ h2, he ▸ h3, fun u hu => ?_, fun u sh hsh hn => ?_, fun u sh hsh hst => ?_⟩
  · rw [hp, h1]
    constructor
    · rintro ⟨sh, hsh, hpl⟩
      obtain ⟨sh', hsh', e⟩ := forth hsh
      exact ⟨sh', hsh', e.trans hpl⟩
    · rintro ⟨sh, hsh, hpl⟩
      obtain ⟨sh', hsh', e⟩ := back hsh
      exact ⟨sh', hsh', e.trans hpl⟩
  · rw [hq, he] at hu
    obtain ⟨sh, hsh, hn⟩ := h4 u hu
    obtain ⟨sh', hsh', e⟩ := forth hsh
    exact ⟨sh', hsh', e.trans hn⟩
  · rw [hq, he]
    obtain ⟨sh', hsh', e⟩ := back hsh
    exact h5 u sh' hsh' (e.trans hn)
  · rw [he]
    obtain ⟨sh', hsh', e⟩ := hx u sh hsh hst
    exact h6 u sh' hsh' e

theorem Unmoved.placed {s t : State} (h : Unmoved s t) (hs : s.placed) : t.placed := by
  refine placed_of_eq hs h.units h.queue (by rw [h.pack]) (fun u => ?_) h.exited
  have e := congrArg (Option.map fun c : Option PlatenNo × Handle × Fin 8 => c.1) (h.shirts u)
  simpa [Option.map_map, Function.comp_def, Shirt.claim] using e

/-- What touches neither the units, nor the ring, nor the queue, nor the exit list. -/
theorem placed_of_blocks {s t : State} (hs : s.placed) (hu : t.units = s.units) (hr : t.ring = s.ring)
    (ht : t.tunnel = s.tunnel) (he : t.pack.exits = s.pack.exits) : t.placed := by
  have shirt : ∀ u, t.shirt u = s.shirt u := fun u => by rw [State.shirt, hu]; rfl
  exact placed_of_eq hs (fun p => by rw [hr]) (by rw [State.queued, ht]; rfl) he (fun u => by rw [shirt])
    fun u sh e hst => ⟨sh, shirt u ▸ e, hst⟩

/-- A unit in one place at most: its platen, the queue or the exit list. -/
def State.placedAt (s : State) (u : UnitNo) : Prop :=
  (∀ p : PlatenNo, (tget s.ring.platens p).unit = some u ↔ ∃ sh, s.shirt u = some sh ∧ sh.platen = some p)
    ∧ (u ∈ s.queued ∨ u ∈ s.pack.exits → ∃ sh, s.shirt u = some sh ∧ sh.platen = none)
    ∧ (∀ sh, s.shirt u = some sh → sh.platen = none → (u ∈ s.queued ↔ u ∉ s.pack.exits))
    ∧ ∀ sh, s.shirt u = some sh → sh.state = .exited → u ∈ s.pack.exits

theorem State.placed.at {s : State} (h : s.placed) (u : UnitNo) : s.placedAt u := by
  obtain ⟨h1, _, _, h4, h5, h6⟩ := h
  exact ⟨fun p => h1 p u, h4 u, h5 u, h6 u⟩

/-- One unit changes its place, the others keep theirs. -/
theorem placed_change {s t : State} (u : UnitNo) (h : s.placed) (hown : t.placedAt u)
    (hs : ∀ v, v ≠ u → t.shirt v = s.shirt v)
    (hp : ∀ (p : PlatenNo) v, v ≠ u → ((tget t.ring.platens p).unit = some v ↔ (tget s.ring.platens p).unit = some v))
    (hqn : t.queued.Nodup) (hq : ∀ v, v ≠ u → (v ∈ t.queued ↔ v ∈ s.queued))
    (hen : t.pack.exits.Nodup) (he : ∀ v, v ≠ u → (v ∈ t.pack.exits ↔ v ∈ s.pack.exits)) : t.placed := by
  have other : ∀ v, t.placedAt v := fun v => by
    by_cases e : v = u
    · exact e ▸ hown
    · have := h.at v
      unfold State.placedAt at *
      simpa only [hs v e, hp _ v e, hq v e, he v e] using this
  exact ⟨fun p v => (other v).1 p, hqn, hen, fun v => (other v).2.1, fun v => (other v).2.2.1, fun v => (other v).2.2.2⟩

/-! ### Units in use and their platens -/

theorem State.placed.platen_inj {s : State} (h : s.placed) {u v : UnitNo} {sh : Shirt} {p : PlatenNo}
    (hu : s.shirt u = some sh) (hp : sh.platen = some p) (hv : (tget s.ring.platens p).unit = some v) : v = u :=
  Option.some.inj (hv.symm.trans ((h.1 p u).mpr ⟨sh, hu, hp⟩))

theorem leavePlaten_shirt_ne {u v : UnitNo} (s : State) (h : v ≠ u) : (leavePlaten u s).shirt v = s.shirt v := by
  unfold leavePlaten
  split
  · rw [modifyShirt_shirt_ne _ _ h]; rfl
  · rfl

theorem leavePlaten_shirt_same (u : UnitNo) (s : State) :
    (leavePlaten u s).shirt u = (s.shirt u).map fun sh => { sh with platen := none } := by
  unfold leavePlaten
  cases h : s.shirt u with
  | none => exact h
  | some sh =>
    cases hp : sh.platen with
    | none => simp only [Option.bind_some, hp]; rw [h]; exact congrArg some (by rw [← hp])
    | some p =>
      simp only [Option.bind_some, hp]
      rw [modifyShirt_shirt_same]
      exact congrArg _ h

theorem leavePlaten_unit (u : UnitNo) (s : State) (p : PlatenNo) :
    (tget (leavePlaten u s).ring.platens p).unit
      = if (s.shirt u).bind (·.platen) = some p then none else (tget s.ring.platens p).unit := by
  unfold leavePlaten
  split
  · next q hq =>
    rw [modifyShirt_ring, hq]
    change (tget (tset s.ring.platens q _) p).unit = _
    rw [tget_tset]
    by_cases e : p = q
    · simp [e]
    · simp [e, Ne.symm e]
  · next hq => simp [hq]

/-- With the unit off its platen, every other unit is named as before. -/
theorem leavePlaten_platens {s : State} (h : s.placed) (u : UnitNo) (p : PlatenNo) {v : UnitNo} (hv : v ≠ u) :
    (tget (leavePlaten u s).ring.platens p).unit = some v ↔ (tget s.ring.platens p).unit = some v := by
  rw [leavePlaten_unit]
  split
  · next e =>
    obtain ⟨sh, hsh, hp⟩ := Option.bind_eq_some_iff.mp e
    exact ⟨(nomatch ·), fun hn => absurd (h.platen_inj hsh hp hn) hv⟩
  · exact Iff.rfl

theorem leavePlaten_off {s : State} (h : s.placed) (u : UnitNo) (p : PlatenNo) :
    (tget (leavePlaten u s).ring.platens p).unit ≠ some u := by
  rw [leavePlaten_unit]
  split
  · simp
  · next e =>
    intro hu
    obtain ⟨sh, hsh, hp⟩ := (h.1 p u).mp hu
    exact e (by rw [hsh]; exact hp)

/-- A unit on a platen stands in no list. -/
theorem State.placed.not_listed {s : State} (h : s.placed) {u : UnitNo} {p : PlatenNo}
    (hu : (tget s.ring.platens p).unit = some u) : u ∉ s.queued ∧ u ∉ s.pack.exits := by
  obtain ⟨sh, hsh, hp⟩ := (h.1 p u).mp hu
  refine not_or.mp fun hl => ?_
  obtain ⟨sh', hsh', hn⟩ := h.2.2.2.1 u hl
  obtain rfl := Option.some.inj (hsh.symm.trans hsh')
  rw [hp] at hn
  cases hn

theorem filter_queued (u : UnitNo) (l : List QueueRecord) :
    (l.filter fun r => decide (r.unit ≠ u)).map (·.unit) = (l.map (·.unit)).filter fun v => decide (v ≠ u) := by
  rw [List.filter_map]; rfl

/-! ### The freeing of a unit -/

theorem bookFreed_shirt (h : Handle) (k : Fin 8) (d : Disposition) (s : State) (u : UnitNo) :
    (bookFreed h k d s).shirt u = s.shirt u := by rw [State.shirt, bookFreed_units]; rfl

theorem freeUnit_ring (d : Disposition) (u : UnitNo) (s : State) : (freeUnit d u s).ring = (leavePlaten u s).ring := by
  unfold freeUnit
  split
  · next h => unfold leavePlaten; simp [h]
  · change (bookFreed _ _ _ _).ring = _
    rw [bookFreed_ring]
    simp [leavePlace]

theorem freeUnit_lists {d : Disposition} {u : UnitNo} {s : State} (h : (s.shirt u).isSome = true) :
    (freeUnit d u s).queued = s.queued.filter (fun v => decide (v ≠ u))
      ∧ (freeUnit d u s).pack.exits = s.pack.exits.filter fun v => decide (v ≠ u) := by
  obtain ⟨sh, hsh⟩ := Option.isSome_iff_exists.mp h
  unfold freeUnit
  simp only [hsh]
  constructor
  · change ((bookFreed _ _ _ _).tunnel.queue).map _ = _
    rw [bookFreed_tunnel]
    simp only [leavePlace, leaveExits_queue, leaveQueue_queue, leavePlaten_tunnel, filter_queued]
    rfl
  · change (bookFreed _ _ _ _).pack.exits = _
    rw [bookFreed_pack]
    simp only [leavePlace, leaveExits_exits, leaveQueue_pack, leavePlaten_pack]

theorem mem_filter_ne {u v : UnitNo} (l : List UnitNo) (h : v ≠ u) : v ∈ l.filter (fun x => decide (x ≠ u)) ↔ v ∈ l := by
  simp [h]

/-- A unit in no place and of no record. -/
theorem placedAt_free {s : State} {u : UnitNo} (hs : s.shirt u = none)
    (hp : ∀ p : PlatenNo, (tget s.ring.platens p).unit ≠ some u) (hq : u ∉ s.queued) (he : u ∉ s.pack.exits) :
    s.placedAt u :=
  ⟨fun p => by simp [hs, hp p], fun h => absurd h (not_or.mpr ⟨hq, he⟩), fun sh h => (by rw [hs] at h; cases h),
    fun sh h => (by rw [hs] at h; cases h)⟩

/-- A unit is freed, from its place or once lifted off its platen. -/
theorem freeUnit_placed_of {d : Disposition} {u : UnitNo} {s r : State} (h : s.placed)
    (hshirt : ∀ v, v ≠ u → r.shirt v = s.shirt v) (hru : (r.shirt u).isSome = true)
    (hplatens : ∀ (p : PlatenNo) v, v ≠ u →
      ((tget r.ring.platens p).unit = some v ↔ (tget s.ring.platens p).unit = some v))
    (hoff : ∀ p : PlatenNo, (tget (leavePlaten u r).ring.platens p).unit ≠ some u)
    (hkeep : ∀ (p : PlatenNo) v, v ≠ u →
      ((tget (leavePlaten u r).ring.platens p).unit = some v ↔ (tget r.ring.platens p).unit = some v))
    (hqueue : r.queued = s.queued) (hexits : r.pack.exits = s.pack.exits) : (freeUnit d u r).placed := by
  obtain ⟨hq, he⟩ := freeUnit_lists (d := d) hru
  rw [hqueue] at hq
  rw [hexits] at he
  refine placed_change u h (placedAt_free (freeUnit_shirt _ _ _) (fun p => ?_) (by simp [hq]) (by simp [he]))
    (fun v hv => (freeUnit_shirt_ne d r hv).trans (hshirt v hv)) (fun p v hv => ?_) (hq ▸ h.2.1.filter _)
    (fun v hv => by rw [hq, mem_filter_ne _ hv]) (he ▸ h.2.2.1.filter _) (fun v hv => by rw [he, mem_filter_ne _ hv])
  · rw [freeUnit_ring]; exact hoff p
  · rw [freeUnit_ring]; exact (hkeep p v hv).trans (hplatens p v hv)

theorem freeUnit_placed (d : Disposition) {u : UnitNo} {s : State} (h : s.placed) : (freeUnit d u s).placed := by
  cases hu : s.shirt u with
  | none => unfold freeUnit; simp only [hu]; exact h
  | some sh =>
    exact freeUnit_placed_of h (fun _ _ => rfl) (by rw [hu]; rfl) (fun _ _ _ => Iff.rfl)
      (leavePlaten_off h u) (fun p v hv => leavePlaten_platens h u p hv) rfl rfl

theorem loseUnit_placed {u : UnitNo} (r : LostReason) {s : State} (h : s.placed) (hu : (s.shirt u).isSome = true) :
    (loseUnit u r s).placed := by
  obtain ⟨sh, hsh⟩ := Option.isSome_iff_exists.mp hu
  unfold loseUnit
  simp only [hsh]
  exact (post_unmoved _ _ _).placed (freeUnit_placed _ h)

/-! ### LOAD -/

theorem load_placed {s t : State} (h : s.placed) (ht : LoadTaken s t) : t.placed := by
  obtain ⟨u, pl, k, i, n, l, hu, hpl, _, rfl⟩ := ht
  have free : ∀ p : PlatenNo, (tget s.ring.platens p).unit ≠ some u := fun p e => by
    obtain ⟨sh, hsh, _⟩ := (h.1 p u).mp e
    rw [hu] at hsh; cases hsh
  obtain ⟨notQueued, notExit⟩ := not_or.mp fun hl => by
    obtain ⟨sh, hsh, _⟩ := h.2.2.2.1 u hl
    rw [hu] at hsh; cases hsh
  have shirt : (acceptLoad u pl i n l s).shirt u = some (newShirt s (s.handleOf i) l pl) := putShirt_shirt_same _ _ _
  have unit : ∀ p : PlatenNo, (tget (acceptLoad u pl i n l s).ring.platens p).unit
      = if p = pl then some u else (tget s.ring.platens p).unit := fun p => by
    change (tget (tset s.ring.platens pl { tget s.ring.platens pl with unit := some u }) p).unit = _
    rw [tget_tset]
    split <;> rfl
  refine placed_change u h ⟨fun p => ?_, fun hl => absurd hl (not_or.mpr ⟨notQueued, notExit⟩), fun sh hsh hn => ?_,
    fun sh hsh hx => ?_⟩ (fun v hv => putShirt_shirt_ne _ _ hv) (fun p v hv => ?_) h.2.1 (fun _ _ => Iff.rfl) h.2.2.1
    fun _ _ => Iff.rfl
  · rw [unit, shirt]
    simp only [Option.some.injEq, exists_eq_left', newShirt]
    split
    · next e => simp [e]
    · next e => simp [free p, Ne.symm e]
  · obtain rfl := Option.some.inj (shirt.symm.trans hsh); cases hn
  · obtain rfl := Option.some.inj (shirt.symm.trans hsh); cases hx
  · rw [unit]
    split
    · next e => subst e; simp [hpl, Ne.symm hv]
    · exact Iff.rfl

/-! ### Transfers between ring, queue and exit list -/

/-- The unit stands in the queue alone. -/
theorem placedAt_queue {s : State} {u : UnitNo} {sh : Shirt} (hs : s.shirt u = some sh) (hn : sh.platen = none)
    (hx : sh.state ≠ .exited) (hp : ∀ p : PlatenNo, (tget s.ring.platens p).unit ≠ some u) (hq : u ∈ s.queued)
    (he : u ∉ s.pack.exits) : s.placedAt u :=
  ⟨fun p => by simp [hs, hn, hp p], fun _ => ⟨sh, hs, hn⟩, fun _ _ _ => ⟨fun _ => he, fun _ => hq⟩, fun sh' h e => by
    obtain rfl := Option.some.inj (hs.symm.trans h); exact absurd e hx⟩

/-- The unit stands in the exit list alone. -/
theorem placedAt_exits {s : State} {u : UnitNo} {sh : Shirt} (hs : s.shirt u = some sh) (hn : sh.platen = none)
    (hp : ∀ p : PlatenNo, (tget s.ring.platens p).unit ≠ some u) (hq : u ∉ s.queued) (he : u ∈ s.pack.exits) :
    s.placedAt u :=
  ⟨fun p => by simp [hs, hn, hp p], fun _ => ⟨sh, hs, hn⟩, fun _ _ _ => ⟨fun h => absurd h hq, fun h => absurd he h⟩,
    fun _ _ _ => he⟩

/-- A unit lifted off its platen. -/
structure Lifted (u : UnitNo) (s r : State) : Prop where
  shirts : ∀ v, v ≠ u → r.shirt v = s.shirt v
  shirt : ∃ sh, r.shirt u = some sh ∧ sh.platen = none
  platens : ∀ (p : PlatenNo) v, v ≠ u → ((tget r.ring.platens p).unit = some v ↔ (tget s.ring.platens p).unit = some v)
  off : ∀ p : PlatenNo, (tget r.ring.platens p).unit ≠ some u
  queue : r.queued = s.queued
  exits : r.pack.exits = s.pack.exits

theorem liftUnit_lifted {s : State} {u : UnitNo} (h : s.placed) (hu : (s.shirt u).isSome = true) :
    Lifted u s (liftUnit u s) := by
  obtain ⟨sh, hsh⟩ := Option.isSome_iff_exists.mp hu
  have left : Lifted u s (leavePlaten u s) :=
    { shirts := fun v hv => leavePlaten_shirt_ne s hv
      shirt := ⟨_, by rw [leavePlaten_shirt_same, hsh]; rfl, rfl⟩
      platens := fun p v hv => leavePlaten_platens h u p hv
      off := leavePlaten_off h u
      queue := by simp [State.queued]
      exits := by simp }
  unfold liftUnit
  dsimp only
  split
  · exact { left with
      platens := fun p v hv => (by rw [(tunnelRelease_unmoved _).units]; exact left.platens p v hv)
      off := fun p => (by rw [(tunnelRelease_unmoved _).units]; exact left.off p) }
  · exact left

theorem nodup_snoc {u : UnitNo} {l : List UnitNo} (h : l.Nodup) (hu : u ∉ l) : (l ++ [u]).Nodup := by
  exact List.nodup_append.mpr ⟨h, by simp, fun x hx y hy e => hu (List.mem_singleton.mp hy ▸ e ▸ hx)⟩

theorem mem_snoc_ne {u v : UnitNo} (l : List UnitNo) (h : v ≠ u) : v ∈ l ++ [u] ↔ v ∈ l := by simp [h]

theorem enterQueue_shirt {u : UnitNo} {s : State} {sh : Shirt} (forced : Bool) (h : s.shirt u = some sh) :
    (enterQueue u forced s).shirt u = some { sh with
      state := .curing, cure := some (entryRecord s.tunnel.profile sh)
      flags := { sh.flags with unreadyEntry := sh.flags.unreadyEntry || forced } } := by
  rw [enterQueue, joinQueue_shirt, modifyShirt_shirt_same, h]; rfl

theorem enterQueue_shirt_ne {u v : UnitNo} (forced : Bool) (s : State) (h : v ≠ u) :
    (enterQueue u forced s).shirt v = s.shirt v := by
  rw [enterQueue, joinQueue_shirt, modifyShirt_shirt_ne _ _ h]

theorem enterQueue_placed {s r : State} {u : UnitNo} (forced : Bool) (h : s.placed) (hl : Lifted u s r)
    (hq : u ∉ s.queued) (he : u ∉ s.pack.exits) : (enterQueue u forced r).placed := by
  obtain ⟨hshirts, ⟨sh, hsh, hn⟩, hplatens, hoff, hqueue, hexits⟩ := hl
  have queue : (enterQueue u forced r).queued = s.queued ++ [u] := by
    rw [← hqueue]; simp [State.queued, enterQueue]
  have exits : (enterQueue u forced r).pack.exits = s.pack.exits := by rw [← hexits]; simp [enterQueue]
  have ring : (enterQueue u forced r).ring = r.ring := by simp [enterQueue]
  refine placed_change u h (placedAt_queue (enterQueue_shirt forced hsh) hn (by simp) (ring ▸ hoff) (by simp [queue])
    (exits ▸ he)) (fun v hv => (enterQueue_shirt_ne forced r hv).trans (hshirts v hv)) (ring ▸ hplatens)
    (queue ▸ nodup_snoc h.2.1 hq) (fun v hv => by rw [queue, mem_snoc_ne _ hv]) (exits ▸ h.2.2.1) fun v _ => by rw [exits]

theorem joinExits_shirt {u : UnitNo} {s : State} {sh : Shirt} (h : s.shirt u = some sh) :
    (joinExits u s).shirt u = some { sh with state := .exited } := by
  have e : (joinExits u s).shirt u = (setUnitState u .exited (s.setPack { s.pack with exits := s.pack.exits ++ [u] })).shirt u := by
    simp [joinExits, State.shirt]
  rw [e, setUnitState, modifyShirt_shirt_same]
  exact congrArg _ h

theorem joinExits_shirt_ne {u v : UnitNo} (s : State) (h : v ≠ u) : (joinExits u s).shirt v = s.shirt v := by
  have e : (joinExits u s).shirt v = (setUnitState u .exited (s.setPack { s.pack with exits := s.pack.exits ++ [u] })).shirt v := by
    simp [joinExits, State.shirt]
  rw [e, setUnitState, modifyShirt_shirt_ne _ _ h]
  rfl

theorem joinExits_lists (u : UnitNo) (s : State) :
    (joinExits u s).queued = s.queued ∧ (joinExits u s).pack.exits = s.pack.exits ++ [u] := by
  simp [joinExits, State.queued, setUnitState]

theorem forceToExits_shirt {u : UnitNo} {s : State} {sh : Shirt} (h : s.shirt u = some sh) :
    (forceToExits u s).shirt u = some { sh with state := .exited, cure := some (unmeasuredRecord sh) } := by
  rw [forceToExits, joinExits_shirt (sh := { sh with cure := some (unmeasuredRecord sh) })]
  rw [modifyShirt_shirt_same, h]; rfl

theorem forceToExits_placed {s r : State} {u : UnitNo} (h : s.placed) (hl : Lifted u s r) (hq : u ∉ s.queued)
    (he : u ∉ s.pack.exits) : (forceToExits u r).placed := by
  obtain ⟨hshirts, ⟨sh, hsh, hn⟩, hplatens, hoff, hqueue, hexits⟩ := hl
  obtain ⟨queue, exits⟩ := joinExits_lists u (modifyShirt u (fun sh => { sh with cure := some (unmeasuredRecord sh) }) r)
  have queue : (forceToExits u r).queued = s.queued := queue.trans (by rw [← hqueue]; simp [State.queued])
  have exits : (forceToExits u r).pack.exits = s.pack.exits ++ [u] := exits.trans (by rw [← hexits]; simp)
  have ring : (forceToExits u r).ring = r.ring := by simp [forceToExits]
  refine placed_change u h (placedAt_exits (forceToExits_shirt hsh) hn (ring ▸ hoff) (queue ▸ hq) (by simp [exits]))
    (fun v hv => ?_) (ring ▸ hplatens) (queue ▸ h.2.1) (fun v _ => by rw [queue]) (exits ▸ nodup_snoc h.2.2.1 he)
    fun v hv => by rw [exits, mem_snoc_ne _ hv]
  rw [forceToExits, joinExits_shirt_ne _ hv, modifyShirt_shirt_ne _ _ hv, hshirts v hv]

theorem loseLifted_placed {s r : State} {u : UnitNo} (reason : LostReason) (h : s.placed) (hl : Lifted u s r) :
    (loseUnit u reason r).placed := by
  obtain ⟨hshirts, ⟨sh, hsh, hn⟩, hplatens, hoff, hqueue, hexits⟩ := hl
  have unit : ∀ p : PlatenNo, (tget (leavePlaten u r).ring.platens p).unit = (tget r.ring.platens p).unit := fun p => by
    rw [leavePlaten_unit, hsh, Option.bind_some, hn]; rfl
  unfold loseUnit
  simp only [hsh]
  exact (post_unmoved _ _ _).placed (freeUnit_placed_of h hshirts (by rw [hsh]; rfl) hplatens
    (fun p => unit p ▸ hoff p) (fun p v _ => by rw [unit]) hqueue hexits)

theorem tunnelEntry_placed {s : State} (h : s.placed) : (tunnelEntry s).placed := by
  unfold tunnelEntry
  split
  · exact (post_unmoved _ _ _).placed h
  · next u hu =>
    obtain ⟨p, _, hp⟩ := Option.bind_eq_some_iff.mp hu
    obtain ⟨hq, he⟩ := h.not_listed hp
    obtain ⟨sh, hsh, _⟩ := (h.1 p u).mp hp
    have lifted := liftUnit_lifted (u := u) h (by rw [hsh]; rfl)
    split
    · exact enterQueue_placed false h lifted hq he
    · unfold forcedEntry
      split
      · exact enterQueue_placed true h lifted hq he
      · split
        · exact forceToExits_placed h lifted hq he
        · exact loseLifted_placed _ h lifted

theorem missingGarments_placed (fuel : Nat) {s : State} (h : s.placed) : (missingGarments fuel s).placed := by
  induction fuel generalizing s with
  | zero => exact h
  | succ fuel ih =>
    unfold missingGarments
    split
    · exact h
    · next r rest hq =>
      split
      · obtain ⟨sh, hsh, _⟩ := h.2.2.2.1 r.unit (.inl (by simp [State.queued, hq]))
        exact ih (loseUnit_placed _ h (by rw [hsh]; rfl))
      · exact h

theorem State.placed.queued {s : State} (h : s.placed) {u : UnitNo} (hu : u ∈ s.queued) :
    ∃ sh, s.shirt u = some sh ∧ sh.platen = none ∧ u ∉ s.pack.exits
      ∧ ∀ p : PlatenNo, (tget s.ring.platens p).unit ≠ some u := by
  obtain ⟨sh, hsh, hn⟩ := h.2.2.2.1 u (.inl hu)
  refine ⟨sh, hsh, hn, (h.2.2.2.2.1 u sh hsh hn).mp hu, fun p e => ?_⟩
  obtain ⟨sh', hsh', hp⟩ := (h.1 p u).mp e
  obtain rfl := Option.some.inj (hsh.symm.trans hsh')
  rw [hn] at hp; cases hp

theorem exitUnit_placed {s : State} {u : UnitNo} (h : s.placed) (hu : u ∈ s.queued) : (exitUnit u s).placed := by
  obtain ⟨sh, hsh, hn, he, hoff⟩ := h.queued hu
  have left : (leaveQueue u s).shirt u = some sh := by rw [State.shirt, leaveQueue_units]; exact hsh
  obtain ⟨queue, exits⟩ := joinExits_lists u (leaveQueue u s)
  have queue : (exitUnit u s).queued = s.queued.filter fun v => decide (v ≠ u) := by
    refine Eq.trans (by simp [exitUnit, State.queued]) (queue.trans ?_)
    rw [State.queued, leaveQueue_queue, filter_queued]; rfl
  have exits : (exitUnit u s).pack.exits = s.pack.exits ++ [u] := by
    refine Eq.trans (by simp [exitUnit]) (exits.trans ?_)
    simp
  have ring : (exitUnit u s).ring = s.ring := by simp [exitUnit]
  have shirt : (exitUnit u s).shirt u
      = some { sh with state := .exited, cure := sh.cure.map fun c => { c with result := c.judged } } := by
    rw [exitUnit, modifyShirt_shirt_same, joinExits_shirt left]; rfl
  refine placed_change u h (placedAt_exits shirt hn (ring ▸ hoff) (by simp [queue]) (by simp [exits])) (fun v hv => ?_)
    (fun p v _ => by rw [ring]) (queue ▸ h.2.1.filter _) (fun v hv => by rw [queue, mem_filter_ne _ hv])
    (exits ▸ nodup_snoc h.2.2.1 he) fun v hv => by rw [exits, mem_snoc_ne _ hv]
  rw [exitUnit, modifyShirt_shirt_ne _ _ hv, joinExits_shirt_ne _ hv, State.shirt, leaveQueue_units]
  rfl

theorem tunnelExit_placed {s : State} (h : s.placed) : (tunnelExit s).placed := by
  unfold tunnelExit
  split
  · exact (post_unmoved _ _ _).placed h
  · next r rest hq =>
    have hr : r.unit ∈ s.queued := by simp [State.queued, hq]
    split
    · exact (post_unmoved _ _ _).placed h
    · split
      · exact exitUnit_placed h hr
      · obtain ⟨sh, hsh, _⟩ := h.queued hr
        exact loseUnit_placed _ h (by rw [hsh]; rfl)

theorem recure_placed {s : State} {u : UnitNo} {sh : Shirt} (c : CureRecord) (h : s.placed) (hsh : s.shirt u = some sh)
    (hx : sh.state = .exited) : (acceptRecure u c s).placed := by
  have listed := h.2.2.2.2.2 u sh hsh hx
  obtain ⟨sh', hsh', hn⟩ := h.2.2.2.1 u (.inr listed)
  obtain rfl := Option.some.inj (hsh.symm.trans hsh')
  have hq : u ∉ s.queued := fun hq => (h.2.2.2.2.1 u sh hsh hn).mp hq listed
  have hoff : ∀ p : PlatenNo, (tget s.ring.platens p).unit ≠ some u := fun p e => (h.not_listed e).2 listed
  have queue : (acceptRecure u c s).queued = s.queued ++ [u] := by simp [acceptRecure, State.queued]
  have exits : (acceptRecure u c s).pack.exits = s.pack.exits.filter fun v => decide (v ≠ u) := by
    simp [acceptRecure, leaveExits_pack]
  have ring : (acceptRecure u c s).ring = s.ring := by simp [acceptRecure]
  refine placed_change u h (placedAt_queue (acceptRecure_shirt_same _ _ _ hsh) hn (by simp) (ring ▸ hoff) (by simp [queue])
    (by simp [exits])) (fun v hv => ?_) (fun p v _ => by rw [ring]) (queue ▸ nodup_snoc h.2.1 hq)
    (fun v hv => by rw [queue, mem_snoc_ne _ hv]) (exits ▸ h.2.2.1.filter _) fun v hv => by rw [exits, mem_filter_ne _ hv]
  rw [acceptRecure, joinQueue_shirt, modifyShirt_shirt_ne _ _ hv, leaveExits_shirt]

/-! ### LINE RESET -/

theorem clearLine_placed (s : State) : (clearLine s).placed := by
  have shirt : ∀ u, (clearLine s).shirt u = none := fun u => by
    have := resetUnits_claim s u
    rw [State.claim, Option.map_eq_none_iff] at this
    rw [State.shirt, clearLine_eq]
    exact this
  have unit : ∀ p : PlatenNo, (tget (clearLine s).ring.platens p).unit = none := fun p => by rw [clearLine_eq]; simp
  have queue : (clearLine s).queued = [] := by rw [State.queued, clearLine_eq]; rfl
  have exits : (clearLine s).pack.exits = [] := by rw [clearLine_eq]
  simp [State.placed, shirt, unit, queue, exits]

/-! ### The commands -/

/-- Books, bins and shelf aside, nothing changes. -/
structure Bookish (s t : State) : Prop where
  units : t.units = s.units
  ring : t.ring = s.ring
  tunnel : t.tunnel = s.tunnel
  exits : t.pack.exits = s.pack.exits

theorem Bookish.placed {s t : State} (h : Bookish s t) (hs : s.placed) : t.placed :=
  placed_of_blocks hs h.units h.ring h.tunnel h.exits

theorem Bookish.trans {s t u : State} (a : Bookish s t) (b : Bookish t u) : Bookish s u :=
  ⟨b.units.trans a.units, b.ring.trans a.ring, b.tunnel.trans a.tunnel, b.exits.trans a.exits⟩

theorem Bookish.refl (s : State) : Bookish s s := ⟨rfl, rfl, rfl, rfl⟩

theorem post_bookish (p : Port) (n : Notice) (s : State) : Bookish s (post p n s) := ⟨rfl, rfl, rfl, rfl⟩

theorem assignBin_bookish {i : OrderNo} {s s1 : State} {b : BinNo} (h : assignBin i s = some (b, s1)) : Bookish s s1 := by
  unfold assignBin at h
  split at h
  · cases h
  · split at h
    · obtain ⟨-, rfl⟩ := Prod.mk.inj (Option.some.inj h); exact .refl _
    · split at h
      · cases h
      · obtain ⟨-, rfl⟩ := Prod.mk.inj (Option.some.inj h); exact ⟨rfl, rfl, rfl, rfl⟩

theorem takeOne_bookish (i : OrderNo) (n : LineNo) (l : Line) (sl : SlotNo) (b : BinNo) (s : State) :
    Bookish s (takeOne i n l sl b s) :=
  ⟨by simp [takeOne], by simp [takeOne], by simp [takeOne], by simp [takeOne, removeEntry]⟩

theorem uptakeLine_bookish (i : OrderNo) (n : LineNo) (fuel : Nat) (r : Uptake) :
    Bookish r.state (uptakeLine i n fuel r).state := by
  induction fuel generalizing r with
  | zero => exact .refl _
  | succ fuel ih =>
    rw [uptakeLine_succ]
    split
    · exact .refl _
    · split
      · exact .refl _
      · split
        · exact .refl _
        · split
          · exact .refl _
          · split
            · exact .refl _
            · next b s1 hb =>
              exact (assignBin_bookish hb).trans ((takeOne_bookish i n _ _ b s1).trans
                (ih { state := takeOne i n _ _ b s1, taken := r.taken + 1, stopped := false }))

theorem orphanUptake_bookish (i : OrderNo) (s : State) : Bookish s (orphanUptake i s).1 := by
  have lines : ∀ (ns : List LineNo) (r : Uptake), Bookish r.state (ns.foldl (fun r n => uptakeLine i n 16 r) r).state := by
    intro ns
    induction ns with
    | nil => exact fun r => .refl _
    | cons n ns ih => exact fun r => (uptakeLine_bookish i n 16 r).trans (ih _)
  unfold orphanUptake
  split
  · exact .refl s
  · exact lines _ { state := s, taken := 0, stopped := false }

theorem releaseBin_bookish (b : BinNo) (i : OrderNo) (s : State) : Bookish s (releaseBin b i s) :=
  ⟨by simp, by simp, by simp, by rw [releaseBin_shelf]⟩

theorem freeOrder_bookish (i : OrderNo) (c : FreedCause) (s : State) : Bookish s (freeOrder i c s) :=
  ⟨by simp, by simp, by simp, by simp⟩

theorem shelves_bookish (shirts : List (ArtworkNo × Sku)) (r : Emptying) :
    Bookish r.state (shelves shirts r).state := by
  obtain ⟨_, _, shelf, e, _⟩ := shelves_cases shirts r
  rw [e]
  exact ⟨rfl, rfl, rfl, rfl⟩

theorem emptyBin_bookish (i : OrderNo) (s : State) : Bookish s (emptyBin i s) := by
  unfold emptyBin
  split
  · exact .refl s
  · split
    · exact .refl s
    · rw [shelveLines_eq]
      exact (shelves_bookish _ { state := s, made := 0, wasted := 0 }).trans
        ((releaseBin_bookish _ _ _).trans (post_bookish _ _ _))

theorem modifyOrder_bookish (i : OrderNo) (f : Order → Order) (s : State) : Bookish s (modifyOrder i f s) := by
  unfold modifyOrder
  split
  · exact ⟨rfl, rfl, rfl, rfl⟩
  · exact .refl s

theorem cancelLive_bookish (i : OrderNo) (o : Order) (s : State) : Bookish s (cancelLive i o s) := by
  have withdrawn : Bookish s (withdrawOrder i o s) :=
    .trans (t := leaveActive i (putOrder i (some { o with holdReason := none }) s)) ⟨rfl, rfl, rfl, rfl⟩
      (emptyBin_bookish i _)
  unfold cancelLive
  dsimp only
  split
  · exact withdrawn.trans (freeOrder_bookish _ _ _)
  · exact withdrawn.trans (modifyOrder_bookish _ _ _)

theorem acceptOrder_bookish (i : OrderNo) {x : Submission} {s : State} (hl : x.entries.length ≤ freeLines s) :
    Bookish s (acceptOrder i x s) := by
  obtain ⟨ls, t, e, _, _, _, _, _, _, _, _, _, _, _, et⟩ := acceptOrder_cases i hl
  rw [e, et]
  exact ⟨by simp, by simp, by simp, by simp⟩

theorem Write.placed {r : Request} {s t : State} (h : Write r s t) (hs : s.placed) : t.placed := by
  cases h <;> exact hs

theorem setBypassed_unmoved (u : UnitNo) (s : State) : Unmoved s (setBypassed u s) := by
  refine modifyShirt_unmoved u _ s ?_
  exact fun _ => ⟨rfl, id⟩

theorem putArtwork_placed (a : ArtworkNo) (x : Artwork) {s : State} (h : s.placed) : (putArtwork a x s).placed := h

theorem Change.placed {r : Request} {p : Port} {s t : State} (h : Change r p s t) (hs : s.placed) : t.placed := by
  cases h with
  | write h => exact h.placed hs
  | setPlaten pl cls en hu =>
    refine Unmoved.placed (s := s) ⟨fun q => ?_, rfl, rfl, rfl, rfl, fun _ => rfl, fun u sh h e => ⟨sh, h, e⟩⟩ hs
    change (tget (tset s.ring.platens pl _) q).unit = _
    rw [tget_tset]
    split
    · next e => rw [e]
    · rfl
  | lineReset => exact clearLine_placed s
  | submitOrder body x i hx he hw hi hl => exact ((acceptOrder_bookish i hl).trans (orphanUptake_bookish _ _)).placed hs
  | holdOrder i o level ho hs' => exact hs
  | releaseOrder i o ho hs' =>
    refine (Bookish.trans (t := joinActive i _) ⟨?_, ?_, ?_, ?_⟩ (orphanUptake_bookish _ _)).placed hs <;> simp
  | cancelOrder i o ho hs' => exact (cancelLive_bookish i o s).placed hs
  | defineArtwork a d hd => exact hs
  | removeArtwork a hr => split <;> exact hs
  | artworkStaged a hc =>
    split
    · exact (printStartTest_unmoved _).placed (putArtwork_placed _ _ hs)
    · exact hs
  | artworkEvicted a => exact hs
  | load k u pl i n l hu hc hf => exact load_placed hs ⟨u, pl, k, i, n, l, lowestFreeUnit_shirt hf, hu, hc, rfl⟩
  | unload u sh hsh => exact freeUnit_placed _ hs
  | bypassHeld u => exact ((setBypassed_unmoved u s).trans (pretreatRelease_unmoved _)).placed hs
  | bypass u => exact (setBypassed_unmoved u s).placed hs
  | refill amount =>
    split
    · exact (pretreatStartTest_unmoved _).placed (s := addFluid amount s) hs
    · exact hs
  | barClear hf => exact hs
  | registered u sh hsh hs' hh => exact (acceptRegistered_unmoved u sh s).placed hs
  | registerFault u hs' hh => exact (acceptRegisterFault_unmoved u s).placed hs
  | nextSwath d tag t hs' hl => exact (issueSwath_unmoved d tag t s).placed hs
  | swathDone o os result hs' hi => exact (swathReported_unmoved o os result s).placed hs
  | carriageParked hs' => exact (releasePrinted_unmoved s).placed hs
  | readErrorRecord => exact hs
  | matchScrapped u sh hsh => exact freeUnit_placed _ hs
  | matchOrphan u sh sl hsh hl => exact freeUnit_placed _ (s := placeEntry sl _ _ s) hs
  | matchBin u sh o b s1 hsh ho hs' hb => exact freeUnit_placed _ ((assignBin_bookish hb).placed hs)
  | scrap u sh hsh hp => exact freeUnit_placed _ ((scrapStation_unmoved u sh s).placed hs)
  | recure u sh c hsh hx hc hl => exact recure_placed _ hs hsh hx
  | binClosed b h o hb ho hs' => exact ((releaseBin_bookish _ _ _).trans (freeOrder_bookish _ _ _)).placed hs
  | clearShelfSlot sl => exact hs
  | quiesceWorking st => exact ((setQuiesce_unmoved st _ s).trans (restUnit_unmoved st _)).placed hs
  | quiesceAtOnce st => exact ((setQuiesce_unmoved st _ s).trans (restUnit_unmoved st _)).placed hs
  | resumeWorking st =>
    exact ((setQuiesce_unmoved st _ s).trans ((post_unmoved _ _ _).trans (resumeWorking_unmoved st _))).placed hs
  | resumeHeld st =>
    exact ((setQuiesce_unmoved st _ s).trans ((post_unmoved _ _ _).trans (beginHeld_unmoved st _))).placed hs
  | fetchNotice => exact hs
  | readStatus => exact hs

theorem Event.placed {c : Instr} {s t : State} (h : Event c s t) (hs : s.placed) : t.placed := by
  cases h with
  | powerOn straps => exact powered_placed straps s.pending
  | timeBaseTick => exact hs
  | indexDone =>
    cases hst : s.ring.state with
    | still => rw [indexDone_still hst]; exact hs
    | moving =>
      refine placed_of_eq hs (fun p => by rw [indexDone_platens hst]) ?_ ?_ (fun u => ?_) fun u sh => ?_ <;>
        rw [indexDone_moving hst] <;> first | rfl | exact fun h e => ⟨sh, h, e⟩
  | frameReceived p chars => exact hs
  | intercharacterTimeout p => exact hs
  | frameErrorDiscard p chars => exact hs
  | indexRequest =>
    unfold Machine.indexRequest
    split
    · exact hs
    · split <;> exact hs
  | pretreatArrival => exact (pretreatArrival_unmoved s).placed hs
  | printArrival => exact (printArrival_unmoved s).placed hs
  | tunnelArrival => exact (tunnelArrival_unmoved s).placed hs
  | barInPosition => exact (barInPosition_unmoved s).placed hs
  | sweepEnd h => exact hs
  | centringEnd h => exact hs
  | barFault => exact (barFault_unmoved s).placed hs
  | watchdogExpiry => exact (watchdogExpiry_unmoved s).placed hs
  | beltStep => exact missingGarments_placed _ (s := s.setTunnel { s.tunnel with belt := s.tunnel.belt + 1 }) hs
  | tunnelEntrySensor => exact tunnelEntry_placed hs
  | zoneReading z reading => exact (zoneReading_unmoved z reading s).placed hs
  | cureTick => exact (cureTick_unmoved s).placed hs
  | tunnelExitSensor => exact tunnelExit_placed hs

theorem placed_kept {s t : State} (hs : s.placed) (h : step s = .next t) : t.placed :=
  step_keeps (I := State.placed) (fun _ _ => id) (fun _ _ => id) (fun _ _ _ _ hc => hc.placed) (fun _ _ _ he => he.placed)
    hs h

/-! ### What a unit keeps -/

theorem LoadTaken.shirt {s t : State} (h : LoadTaken s t) {u : UnitNo} (hu : (s.shirt u).isSome = true) :
    t.shirt u = s.shirt u ∧ t.generation u = s.generation u := by
  obtain ⟨v, pl, k, i, n, l, hv, _, _, rfl⟩ := h
  have ne : u ≠ v := fun e => by rw [e, hv] at hu; cases hu
  exact ⟨putShirt_shirt_ne _ _ ne, putShirt_generation _ _ _ _⟩

/-- Settles O7: a quiet operation keeps the records of the units that stay, LOAD takes a free one, LINE RESET and power-on
leave none; the places are followed command by command. -/
theorem unitsKeepTheirRecord : Obligations.UnitsKeepTheirRecord := by
  refine ⟨fun c s t u a b hx ha hb => ?_, fun s t hs h => placed_kept hs h⟩
  have same : ∀ {s t : State}, t.units = s.units → s.shirt u = some a → t.shirt u = some b →
      a.kept b ∧ t.generation u = s.generation u := fun {s t} e ha hb => by
    have shirt : t.shirt u = s.shirt u := by rw [State.shirt, e]; rfl
    obtain rfl := Option.some.inj (ha.symm.trans (shirt ▸ hb))
    exact ⟨.refl a, by rw [State.generation, e]; rfl⟩
  have quiet : ∀ {w} {s t : State}, Quiet w s t → s.shirt u = some a → t.shirt u = some b →
      a.kept b ∧ t.generation u = s.generation u := fun {w s t} hq ha hb => by
    obtain ⟨a', ha', hk⟩ := hq.shirts u b hb
    obtain rfl := Option.some.inj (ha.symm.trans ha')
    exact hk
  refine exec_rule (c := c) (R := fun s t => s.shirt u = some a → t.shirt u = some b →
    a.kept b ∧ t.generation u = s.generation u) (fun s => same rfl) (fun _ _ _ _ _ _ => id) (fun _ _ _ _ => id) ?_ ?_ hx ha hb
  · intro r p s t _ hc ha hb
    rcases hc.quiet with hq | hw | ⟨_, hl⟩ | ⟨_, ht⟩
    · exact quiet hq ha hb
    · exact same hw.units ha hb
    · obtain ⟨hsh, hg⟩ := hl.shirt (u := u) (by rw [ha]; rfl)
      obtain rfl := Option.some.inj (ha.symm.trans (hsh ▸ hb))
      exact ⟨.refl a, hg⟩
    · have := resetUnits_claim s u
      rw [State.claim, Option.map_eq_none_iff] at this
      rw [ht, State.shirt, clearLine_eq] at hb
      cases this.symm.trans hb
  · intro s t he ha hb
    rcases he.quiet with hq | ⟨straps, _, ht⟩ | ⟨_, rfl⟩ | ⟨_, hm, rfl⟩
    · exact quiet hq ha hb
    · rw [ht] at hb
      cases (powered_shirt straps s.pending u).symm.trans hb
    · exact same rfl ha hb
    · exact same (by rw [indexDone_moving hm]; rfl) ha hb

end Sys2Proof.Machine
end

section
/-! The ranges of O10: ports, exposures, tables, counters, staged artworks and the swath pipeline through the exceptions
to `Quiet`. -/

namespace Sys2Proof.Machine

/-! ### Table writes -/

theorem tget_writeRun {n : Nat} (v : Vector Nat n) (first : Nat) (vals : List Nat) (i : Fin n) :
    tget (writeRun v first vals) i = if first ≤ i.val then (vals[i.val - first]?).getD (tget v i) else tget v i :=
  tget_tableOf _ _

/-- A run written into a table keeps a bound that the table and the run both meet. -/
theorem writeRun_le {n : Nat} {v : Vector Nat n} {vals : List Nat} {b : Nat} (first : Nat) (hv : ∀ i, tget v i ≤ b)
    (hx : ∀ x ∈ vals, x ≤ b) (i : Fin n) : tget (writeRun v first vals) i ≤ b := by
  rw [tget_writeRun]
  split
  · cases hg : vals[i.val - first]? with
    | none => exact hv i
    | some x => exact hx x (List.mem_of_getElem? hg)
  · exact hv i

theorem bytes_le (vals : List Byte) : ∀ x ∈ vals.map BitVec.toNat, x ≤ 255 := by
  intro x hx
  obtain ⟨b, _, rfl⟩ := List.mem_map.mp hx
  have := b.isLt
  omega

theorem SpraySettings.inRange.ditherOff {x : SpraySettings} (h : x.inRange = true) :
    ({ x with amplitude := 0 } : SpraySettings).inRange = true := by
  simp only [SpraySettings.inRange, Bool.and_eq_true, decide_eq_true_eq] at *
  omega

theorem Write.tablesInRange {r : Request} {s t : State} (h : Write r s t) (hs : s.tablesInRange) :
    t.tablesInRange := by
  obtain ⟨hcolours, hdark, hscrap, hdoses, hres, hsettings, hlimit, hcounts⟩ := hs
  cases h with
  | writeColourTable first vals hq =>
    exact ⟨writeRun_le first hcolours (bytes_le vals), hdark, hscrap, hdoses, hres, hsettings, hlimit, hcounts⟩
  | writeSizeMap z cls hq => exact ⟨hcolours, hdark, hscrap, hdoses, hres, hsettings, hlimit, hcounts⟩
  | writeDarkThreshold b hq =>
    exact ⟨hcolours, Nat.le_of_lt_succ b.isLt, hscrap, hdoses, hres, hsettings, hlimit, hcounts⟩
  | writeScrapLimit l hl hq => exact ⟨hcolours, hdark, hl, hdoses, hres, hsettings, hlimit, hcounts⟩
  | writeDoseTable first doses hd hq =>
    exact ⟨hcolours, hdark, hscrap, writeRun_le first hdoses hd, hres, hsettings, hlimit, hcounts⟩
  | ditherOff w =>
    refine ⟨hcolours, hdark, hscrap, hdoses, hres, ?_, hlimit, hcounts⟩
    rw [State.setBar_bar, Bar.ditherOff_settings]
    exact SpraySettings.inRange.ditherOff hsettings
  | writeSpraySettings x hr hq => exact ⟨hcolours, hdark, hscrap, hdoses, hres, hr, hlimit, hcounts⟩
  | writeEngineProfile limit hl hq => exact ⟨hcolours, hdark, hscrap, hdoses, hres, hsettings, hl, hcounts⟩
  | writeCureProfile x hr hq => exact ⟨hcolours, hdark, hscrap, hdoses, hres, hsettings, hlimit, hcounts⟩

theorem Write.steady {r : Request} {s t : State} (h : Write r s t) : Steady s t := by
  cases h <;> exact ⟨rfl, rfl, rfl, rfl, rfl⟩

theorem Quiet.tables {w : Holder} {s t : State} (h : Quiet w s t) (hs : s.tablesInRange) : t.tablesInRange := by
  obtain ⟨hcolours, hdark, hscrap, hdoses, hres, hsettings, hlimit, hcounts⟩ := hs
  have load := h.load
  rw [← load] at hcolours hdark hscrap
  exact ⟨hcolours, hdark, hscrap, h.doses ▸ hdoses, h.reservoir hres, h.settings ▸ hsettings, h.limit ▸ hlimit,
    h.swaths hcounts⟩

theorem clearLine_tablesInRange {s : State} (hs : s.tablesInRange) : (clearLine s).tablesInRange := by
  obtain ⟨hcolours, hdark, hscrap, hdoses, hres, hsettings, hlimit, _, hnext, _⟩ := hs
  rw [clearLine_eq]
  exact ⟨hcolours, hdark, hscrap, hdoses, hres, (Bar.stop_settings _ _).symm ▸ hsettings, hlimit, Nat.zero_le _, hnext,
    Nat.zero_le _⟩

/-! ### Counters -/

theorem countersInRange_iff (s : State) : s.countersInRange ↔ s.generationsInRange ∧ s.book.inRange := Iff.rfl

theorem load_countersInRange {s t : State} (ht : LoadTaken s t) (hs : s.countersInRange) : t.countersInRange := by
  obtain ⟨hgen, hbook⟩ := hs
  obtain ⟨u, pl, k, i, n, l, _, _, hc, rfl⟩ := ht
  obtain ⟨_, _, _, hl, _⟩ := candidate_some hc
  refine ⟨fun v => ?_, ?_⟩
  · have e : (acceptLoad u pl i n l s).generation v = s.generation v := putShirt_generation _ _ _ _
    rw [e]; exact hgen v
  · refine (putLine_quiet (w := .pretreat) s n ?_).counters hbook
    rintro _ hx ⟨_, _, _, hscrap⟩
    obtain rfl := Option.some.inj hx
    exact hscrap n l hl

theorem UnitRecord.freed_inRange {r : UnitRecord} (h : 1 ≤ r.generation ∧ r.generation ≤ 1023) :
    1 ≤ r.freed.generation ∧ r.freed.generation ≤ 1023 := by
  unfold UnitRecord.freed
  split
  · exact nextUnitGeneration_inRange h
  · exact h

theorem resetLines_inRange {s : State} (h : s.book.inRange) : (resetLines (resetUnits s)).book.inRange := by
  obtain ⟨hgen, hseq, hmax, hscrap⟩ := h
  refine ⟨hgen, hseq, hmax, fun n l hl => ?_⟩
  have e := resetLines_line (resetUnits s) n
  rw [State.line, hl] at e
  obtain ⟨l', hl', rfl⟩ := Option.map_eq_some_iff.mp e.symm
  exact hscrap n l' hl'

theorem clearLine_countersInRange {s : State} (hs : s.countersInRange) : (clearLine s).countersInRange := by
  obtain ⟨hgen, hbook⟩ := hs
  have books := (clearedBooks_quiet (w := .pretreat) s).counters (resetLines_inRange hbook)
  rw [countersInRange_iff, clearLine_eq]
  refine ⟨fun u => ?_, books⟩
  simp only [State.generation, tget_tmap]
  exact UnitRecord.freed_inRange (hgen u)

/-! ### Exposures -/

theorem load_exposuresBounded {s t : State} (ht : LoadTaken s t) (hs : s.exposuresBounded) : t.exposuresBounded := by
  obtain ⟨u, pl, k, i, n, l, _, _, _, rfl⟩ := ht
  rw [exposuresBounded_iff] at *
  intro v sh hv
  by_cases e : v = u
  · subst e
    have new : (acceptLoad v pl i n l s).shirt v = some (newShirt s (s.handleOf i) l pl) := putShirt_shirt_same _ _ _
    obtain rfl := Option.some.inj (new.symm.trans hv)
    exact fun c hc => nomatch hc
  · have old : (acceptLoad u pl i n l s).shirt v = s.shirt v := putShirt_shirt_ne _ _ e
    exact hs v sh (old ▸ hv)

theorem clearLine_shirt (s : State) (u : UnitNo) : (clearLine s).shirt u = none := by
  have := resetUnits_claim s u
  rw [State.claim, Option.map_eq_none_iff] at this
  rw [State.shirt, clearLine_eq]
  exact this

/-! ### The swath pipeline -/

theorem indexDone_pipeline {s : State} (hm : s.ring.state = .moving) (h : s.pipelineSound) :
    (indexDone s).pipelineSound := by
  obtain ⟨hring, hheld, hbusy, _, hswaths⟩ := h
  have idle : s.print.state = .idle := by
    by_contra hs
    have hold := (hbusy hs).1
    have clear := hring.2.1 hm
    simp [Holds.allClear, hold] at clear
  rw [indexDone_moving hm]
  refine ⟨⟨by simp [Ring.stopped], by simp [Ring.stopped], fun _ => rfl⟩, hheld, fun hs => absurd idle hs, fun _ => rfl,
    hswaths⟩

theorem clearLine_pipeline {s : State} (h : s.pipelineSound) : (clearLine s).pipelineSound := by
  obtain ⟨⟨hgrant, _, _⟩, _⟩ := h
  rw [clearLine_eq]
  refine ⟨⟨hgrant, fun _ => rfl, by simp⟩, ?_, ?_, by simp, ?_, fun _ => rfl, fun _ _ => rfl⟩ <;>
    simp [Print.cleared, Print.initial]

/-! ### The statement -/

/-- Settles O10: each range is kept by what is quiet, and by each of the exceptions. -/
theorem boundsKept : Obligations.BoundsKept := by
  have ports_eq : ∀ {s t : State}, t.ports = s.ports → s.portsBounded → t.portsBounded := fun {s t} e h p => by
    rw [State.port, e]; exact h p
  have staged_eq : ∀ {s t : State}, t.artworks = s.artworks → stagedCount s ≤ 16 → stagedCount t ≤ 16 :=
    fun {s t} e h => by rw [stagedCount, e]; exact h
  have units_eq : ∀ {s t : State}, t.units = s.units → s.exposuresBounded → t.exposuresBounded := fun {s t} e h u => by
    rw [State.shirt, e]; exact h u
  refine ⟨fun s t hs h => ?_, fun s t hs h => ?_, fun s t hs h => ?_, fun s t hs h => ?_, fun s t hs h => ?_,
    fun s t hs h => ?_, fun s t hs h => countsAgree_kept hs h⟩
  · exact step_of_quiet (I := State.portsBounded) (fun _ _ => id) (fun hq => hq.ports) (fun r s t hw => ports_eq hw.ports)
      (fun s t hl => ports_eq (by rw [hl.eq])) (fun s => clearLine_portsBounded) powered_portsBounded (fun _ _ => id)
      (fun s hm => ports_eq (by rw [indexDone_moving hm]; rfl)) hs h
  · exact step_of_quiet (I := State.exposuresBounded) (fun _ _ => id) (fun hq => hq.exposures)
      (fun r s t hw => units_eq hw.units) (fun s t => load_exposuresBounded)
      (fun s _ u sh c hu => by rw [clearLine_shirt] at hu; cases hu) powered_exposuresBounded (fun _ _ => id)
      (fun s hm => units_eq (by rw [indexDone_moving hm]; rfl)) hs h
  · exact step_of_quiet (I := State.tablesInRange) (fun _ _ => id) (fun hq => hq.tables) (fun r s t hw => hw.tablesInRange)
      (fun s t hl hs => by rw [hl.eq]; exact hs) (fun s => clearLine_tablesInRange) powered_tablesInRange (fun _ _ => id)
      (fun s hm hs => by rw [indexDone_moving hm]; exact hs) hs h
  · refine step_of_quiet (I := State.countersInRange) (fun _ _ => id)
      (fun hq hs => ⟨hq.generations hs.1, hq.counters hs.2⟩) (fun r s t hw hs => ?_) (fun s t => load_countersInRange)
      (fun s => clearLine_countersInRange) powered_countersInRange (fun _ _ => id)
      (fun s hm hs => by rw [indexDone_moving hm]; exact hs) hs h
    rw [countersInRange_iff] at *
    unfold State.generationsInRange State.generation at *
    rwa [hw.units, hw.book]
  · refine step_of_quiet (I := fun s => stagedCount s ≤ 16) (fun _ _ => id) (fun hq => hq.staged)
      (fun r s t hw => staged_eq hw.artworks) (fun s t hl => staged_eq (by rw [hl.eq])) (fun s hs => ?_)
      powered_stagedCount (fun _ _ => id) (fun s hm => staged_eq (by rw [indexDone_moving hm]; rfl)) hs h
    refine staged_eq (s := (clearedBooks s).state) (by rw [clearLine_eq]) ((clearedBooks_quiet (w := .pretreat) s).staged ?_)
    exact hs
  · exact step_of_quiet (I := State.pipelineSound) (fun _ _ => id) (fun hq => hq.pipeline (by simp))
      (fun r s t hw => hw.steady.pipeline)
      (fun s t hl hs => pipelineSound_of_eq (by rw [hl.eq]) (fun h => by rw [hl.ring]; exact h) (by rw [hl.ring])
        (by rw [hl.ring]) hs)
      (fun s => clearLine_pipeline) powered_pipelineSound (fun _ _ => id) (fun s => indexDone_pipeline) hs h

end Sys2Proof.Machine
end

section
/-! O26: what one take of orphan uptake does, the emptying of a bin, and the count of the free shelf slots. -/

namespace Sys2Proof.Machine

/-! ### Counts of a table -/

/-- One entry replaced changes a count by that entry alone. -/
theorem countOf_tset {α : Type} {n : Nat} (v : Vector α n) (i : Fin n) (x : α) (p : α → Bool) :
    countOf (tset v i x) p + (p (tget v i)).toNat = countOf v p + (p x).toNat := by
  unfold countOf
  obtain ⟨A, B, e⟩ := List.append_of_mem (List.mem_finRange i)
  have nodup := List.nodup_finRange n
  rw [e, List.nodup_append] at nodup
  obtain ⟨_, hB, hAB⟩ := nodup
  have same : ∀ L : List (Fin n), i ∉ L → L.filter (fun j => p (tget (tset v i x) j)) = L.filter fun j => p (tget v j) :=
    fun L hL => List.filter_congr fun j hj => by rw [tget_tset_ne]; rintro rfl; exact hL hj
  rw [e, List.filter_append, List.filter_append, same A fun hi => hAB i hi i (by simp) rfl, List.filter_cons,
    List.filter_cons, same B (List.nodup_cons.mp hB).1, tget_tset_same]
  cases p (tget v i) <;> cases p x <;> simp <;> omega

theorem removeEntry_freeSlots {s : State} {sl : SlotNo} (h : (tget s.pack.shelf sl).isSome = true) :
    freeSlots (removeEntry sl s) = freeSlots s + 1 := by
  have := countOf_tset s.pack.shelf sl none fun e => e.isNone
  rw [Option.isNone_eq_false_iff.mpr h] at this
  exact this

theorem placeEntry_freeSlots {s : State} {sl : SlotNo} (a : ArtworkNo) (k : Sku) (h : tget s.pack.shelf sl = none) :
    freeSlots (placeEntry sl a k s) + 1 = freeSlots s := by
  have := countOf_tset s.pack.shelf sl (some { artwork := a, sku := k, stamp := s.time.now }) fun e => e.isNone
  rw [h] at this
  exact this

theorem freeSlots_of_shelf {s t : State} (h : t.pack.shelf = s.pack.shelf) : freeSlots t = freeSlots s := by
  unfold freeSlots; rw [h]

/-! ### Orphan uptake -/

theorem takeOne_freeSlots {i : OrderNo} {n : LineNo} {l : Line} {sl : SlotNo} {b : BinNo} {s s1 : State}
    (h : assignBin i s = some (b, s1)) (hm : (tget s.pack.shelf sl).isSome = true) :
    freeSlots (takeOne i n l sl b s1) = freeSlots s + 1 := by
  have shelf := (assignBin_shelf h).1
  rw [freeSlots_of_shelf (s := removeEntry sl s1) (by rw [takeOne_pack]), removeEntry_freeSlots (by rw [shelf]; exact hm),
    freeSlots_of_shelf shelf]

/-- What a run takes leaves as many slots free. -/
theorem uptakeLine_freeSlots (i : OrderNo) (n : LineNo) (fuel : Nat) (r : Uptake) :
    freeSlots (uptakeLine i n fuel r).state + r.taken = freeSlots r.state + (uptakeLine i n fuel r).taken := by
  induction fuel generalizing r with
  | zero => rfl
  | succ fuel ih =>
    rw [uptakeLine_succ]
    split
    · rfl
    · split
      · rfl
      · split
        · rfl
        · next sl hm =>
          split
          · rfl
          · split
            · rfl
            · next b s1 hb =>
              obtain ⟨_, x, hx, _⟩ := oldestMatch_some hm
              have one := takeOne_freeSlots (n := n) (l := ‹Line›) hb (by rw [hx]; rfl)
              have rest := ih { state := takeOne i n ‹Line› sl b s1, taken := r.taken + 1, stopped := false }
              dsimp only at rest
              omega

theorem uptakeLines_freeSlots (i : OrderNo) (ls : List LineNo) (r : Uptake) :
    freeSlots (ls.foldl (fun r n => uptakeLine i n 16 r) r).state + r.taken
      = freeSlots r.state + (ls.foldl (fun r n => uptakeLine i n 16 r) r).taken := by
  induction ls generalizing r with
  | nil => rfl
  | cons n ls ih =>
    have one := uptakeLine_freeSlots i n 16 r
    have rest := ih (uptakeLine i n 16 r)
    rw [List.foldl_cons]
    omega

theorem orphanUptake_freeSlots (i : OrderNo) (s : State) :
    freeSlots (orphanUptake i s).1 = freeSlots s + (orphanUptake i s).2 := by
  unfold orphanUptake
  split
  · rfl
  · exact uptakeLines_freeSlots i _ { state := s, taken := 0, stopped := false }

/-- An order whose lines nothing on the shelf fits takes nothing. -/
theorem orphanUptake_unmet {i : OrderNo} {s : State} {o : Order} (ho : s.order i = some o)
    (h : ∀ n ∈ o.lines, s.unmet n) : orphanUptake i s = (s, 0) := by
  unfold orphanUptake
  simp only [ho]
  rw [uptakeLines_unmet i o.lines { state := s, taken := 0, stopped := false } h]

theorem putOrder_self {i : OrderNo} {s : State} {o : Order} (ho : s.order i = some o) : putOrder i (some o) s = s := by
  unfold putOrder
  rw [← ho]
  change s.setBook { s.book with orders := tset s.book.orders i (tget s.book.orders i) } = s
  rw [tset_tget]
  rfl

/-- A bin the order holds, or the lowest-numbered free one. -/
theorem assignBin_eq {i : OrderNo} {s : State} {o : Order} {b : BinNo} (ho : s.order i = some o)
    (hb : o.bin = some b ∨ o.bin = none ∧ tget s.pack.bins b = none ∧ ∀ j : BinNo, j < b → (tget s.pack.bins j).isSome = true) :
    assignBin i s = some (b, putOrder i (some { o with bin := some b }) (s.setPack { s.pack with
      bins := if o.bin = none then tset s.pack.bins b (some (s.handleOf i)) else s.pack.bins })) := by
  unfold assignBin
  rcases hb with hb | ⟨hb, hfree, hlow⟩
  · have same : ({ o with bin := some b } : Order) = o := by rw [← hb]
    simp only [ho, hb, same, reduceCtorEq, if_false]
    have kept : putOrder i (some o) (s.setPack s.pack) = s := putOrder_self ho
    rw [kept]
  · have lowest : lowestFreeBin s = some b := lowest_eq_some (by rw [hfree]; rfl) fun j hj => by simpa using hlow j hj
    simp only [ho, hb, lowest, if_true]

theorem assignBin_full {i : OrderNo} {s : State} {o : Order} (ho : s.order i = some o) (hb : o.bin = none)
    (hfull : ∀ b : BinNo, (tget s.pack.bins b).isSome = true) : assignBin i s = none := by
  have lowest : lowestFreeBin s = none := lowest_eq_none.mpr fun j => by simpa using hfull j
  unfold assignBin
  simp only [ho, hb, lowest]

/-- A bin given to an order leaves its lines and the shelf. -/
theorem assignBin_lines {i : OrderNo} {s s1 : State} {o : Order} {b : BinNo} (ho : s.order i = some o)
    (h : assignBin i s = some (b, s1)) : ∃ o', s1.order i = some o' ∧ o'.lines = o.lines := by
  unfold assignBin at h
  simp only [ho] at h
  split at h
  · obtain ⟨_, rfl⟩ := Prod.mk.inj (Option.some.inj h)
    exact ⟨o, ho, rfl⟩
  · split at h
    · cases h
    · obtain ⟨_, rfl⟩ := Prod.mk.inj (Option.some.inj h)
      exact ⟨_, putOrder_order_same _ _ _, rfl⟩

section
variable {i : OrderNo} {s s1 : State} {o : Order} {n : LineNo} {l : Line} {sl : SlotNo} {b : BinNo}

theorem takeOne_lines (ho : s.order i = some o) (hb : assignBin i s = some (b, s1)) :
    ∃ o', (takeOne i n l sl b s1).order i = some o' ∧ o'.lines = o.lines := by
  obtain ⟨o1, ho1, hl1⟩ := assignBin_lines ho hb
  obtain ⟨o2, ho2, hl2⟩ := completionCheck_lines (i := i) (o := o1)
    (s := post .pack (.shelfToBin sl b (s1.handleOf i) l.position.val)
      (putLine n (some { l with good := l.good + 1 }) (removeEntry sl s1))) ho1
  exact ⟨o2, ho2, hl2.trans hl1⟩

/-- A line that nothing fits is fitted by nothing after another line's take. -/
theorem takeOne_unmet {m : LineNo} (hb : assignBin i s = some (b, s1)) (hm : m ≠ n) (h : s.unmet m) :
    (takeOne i n l sl b s1).unmet m := by
  obtain ⟨shelf, age⟩ := assignBin_shelf hb
  have line : (takeOne i n l sl b s1).line m = s.line m := by
    rw [takeOne, completionCheck_line]
    exact (putLine_line_ne _ _ hm).trans (assignBin_line hb m)
  intro l' hl' hneed x hx hfit
  rw [line] at hl'
  have pack := takeOne_pack i n l sl b s1
  rw [pack] at hx
  obtain ⟨hx, hne⟩ := List.mem_filter.mp hx
  obtain ⟨e, he, hmatch⟩ := hfit
  rw [pack] at he
  change tget (tset s1.pack.shelf sl none) x = some e at he
  rw [tget_tset_ne _ _ (of_decide_eq_true hne), shelf] at he
  exact h l' hl' hneed x (age ▸ hx) ⟨e, he, hmatch⟩

/-- A run on a line with need takes the oldest entry that matches it. -/
theorem uptakeLine_take (hl : s.line n = some l) (hneed : 0 < l.need) (hm : oldestMatch s l.artwork l.sku = some sl)
    (hb : assignBin i s = some (b, s1)) :
    uptakeLine i n 16 { state := s, taken := 0, stopped := false }
      = uptakeLine i n 16 { state := takeOne i n l sl b s1, taken := 0 + 1, stopped := false } := by
  obtain ⟨_, e, he, _⟩ := oldestMatch_some hm
  have fewer := takeOne_filledSlots (i := i) (n := n) (l := l) hb (show (tget s.pack.shelf sl).isSome = true by rw [he]; rfl)
  have room := filledSlots_le s
  rw [show uptakeLine i n 16 { state := s, taken := 0, stopped := false }
    = uptakeLine i n (15 + 1) { state := s, taken := 0, stopped := false } from rfl, uptakeLine_succ]
  simp only [hl, hm, hb, Bool.false_eq_true, if_false, Nat.ne_of_gt hneed]
  exact uptakeLine_fuel i n 15 16 _ (by dsimp only; omega) (by dsimp only; omega)

/-- The first line that the shelf has an entry for takes one shirt, and the uptake goes on from there. -/
theorem orphanUptake_take {first last : List LineNo} (ho : s.order i = some o) (hlines : o.lines = first ++ n :: last)
    (hfirst : ∀ m ∈ first, s.unmet m) (hl : s.line n = some l) (hneed : 0 < l.need)
    (hm : oldestMatch s l.artwork l.sku = some sl) (hb : assignBin i s = some (b, s1)) :
    orphanUptake i s =
      ((orphanUptake i (takeOne i n l sl b s1)).1, (orphanUptake i (takeOne i n l sl b s1)).2 + 1) := by
  obtain ⟨hage, e, he, ha, hk⟩ := oldestMatch_some hm
  have filled : (tget s.pack.shelf sl).isSome = true := by rw [he]; rfl
  have other : ∀ m ∈ first, m ≠ n := by
    rintro m hmem rfl
    exact hfirst m hmem l hl hneed sl hage ⟨e, he, ha, hk⟩
  have one := uptakeLine_take hl hneed hm hb
  obtain ⟨o', ho', hlines'⟩ := takeOne_lines (n := n) (l := l) (sl := sl) ho hb
  have unmet : ∀ m ∈ first, (takeOne i n l sl b s1).unmet m := fun m hmem => takeOne_unmet hb (other m hmem) (hfirst m hmem)
  generalize takeOne i n l sl b s1 = t at *
  unfold orphanUptake
  simp only [ho, ho', hlines', hlines, List.foldl_append, List.foldl_cons]
  rw [uptakeLines_unmet i first { state := s, taken := 0, stopped := false } hfirst,
    uptakeLines_unmet i first { state := t, taken := 0, stopped := false } unmet, one]
  rw [uptakeLine_taken i n 1 16 { state := t, taken := 0, stopped := false }, uptakeLines_taken]

end

/-- An order with no bin, and none free, takes nothing. -/
theorem orphanUptake_full {i : OrderNo} {s : State} {o : Order} {first last : List LineNo} {n : LineNo} {l : Line}
    {sl : SlotNo} (ho : s.order i = some o) (hlines : o.lines = first ++ n :: last) (hfirst : ∀ m ∈ first, s.unmet m)
    (hl : s.line n = some l) (hneed : 0 < l.need) (hm : oldestMatch s l.artwork l.sku = some sl)
    (hb : assignBin i s = none) : orphanUptake i s = (s, 0) := by
  have stop : uptakeLine i n 16 { state := s, taken := 0, stopped := false }
      = { state := s, taken := 0, stopped := true } := by
    rw [show uptakeLine i n 16 { state := s, taken := 0, stopped := false }
      = uptakeLine i n (15 + 1) { state := s, taken := 0, stopped := false } from rfl, uptakeLine_succ]
    simp only [hl, hm, hb, Bool.false_eq_true, if_false, Nat.ne_of_gt hneed]
  unfold orphanUptake
  simp only [ho, hlines, List.foldl_append, List.foldl_cons]
  rw [uptakeLines_unmet i first { state := s, taken := 0, stopped := false } hfirst, stop,
    uptakeLines_stopped i last _ rfl]

/-! ### The emptying of a bin -/

theorem shelveOne_freeSlots (a : ArtworkNo) (k : Sku) (r : Emptying) :
    freeSlots (shelveOne a k r).state + (shelveOne a k r).made = freeSlots r.state + r.made := by
  unfold shelveOne
  split
  · next sl hsl =>
    have := placeEntry_freeSlots a k (show tget r.state.pack.shelf sl = none by simpa using (lowest_some hsl).1)
    dsimp only
    omega
  · rfl

theorem shelves_freeSlots (shirts : List (ArtworkNo × Sku)) (r : Emptying) :
    freeSlots (shelves shirts r).state + (shelves shirts r).made = freeSlots r.state + r.made := by
  unfold shelves
  induction shirts generalizing r with
  | nil => rfl
  | cons x shirts ih => rw [List.foldl_cons, ih, shelveOne_freeSlots]

/-- The good shirts of an order, line by line. -/
def goodShirts (s : State) (o : Order) : List (ArtworkNo × Sku) :=
  (linesOf s o).flatMap fun l => List.replicate l.good (l.artwork, l.sku)

theorem goodShirts_length (s : State) (o : Order) : (goodShirts s o).length = totalGood s o := by
  unfold goodShirts totalGood
  simp [List.length_flatMap]

theorem emptyBin_eq {i : OrderNo} {s : State} {o : Order} {b : BinNo} (ho : s.order i = some o) (hb : o.bin = some b) :
    ∃ r, r = shelves (goodShirts s o) { state := s, made := 0, wasted := 0 }
      ∧ emptyBin i s = post .pack (.binToShelf b r.made r.wasted (s.handleOf i)) (releaseBin b i r.state) := by
  refine ⟨_, rfl, ?_⟩
  unfold emptyBin goodShirts
  simp only [ho, hb, shelveLines_eq]

/-- What the emptying of a bin leaves, and where the shirts go. -/
theorem emptyBin_shelves {s : State} {i : OrderNo} {o : Order} {b : BinNo} {made wasted : Nat} (ho : s.order i = some o)
    (hb : o.bin = some b) (hmade : made = min (emptySlots s).length (goodShirts s o).length)
    (hwasted : wasted = (goodShirts s o).length - made) :
    ∃ shelf : Vector (Option ShelfEntry) 16,
      emptyBin i s = post .pack (.binToShelf b made wasted (s.handleOf i))
        (putOrder i (some { o with bin := none }) (s.setPack { s.pack with
          bins := tset s.pack.bins b none, shelf := shelf, age := s.pack.age ++ (emptySlots s).take made }))
      ∧ (∀ (k : Nat) (sl : SlotNo) (a : ArtworkNo) (x : Sku), (emptySlots s)[k]? = some sl →
          (goodShirts s o)[k]? = some (a, x) → tget shelf sl = some { artwork := a, sku := x, stamp := s.time.now })
      ∧ (∀ sl : SlotNo, sl ∉ (emptySlots s).take made → tget shelf sl = tget s.pack.shelf sl)
      ∧ freeSlots s = freeSlots (emptyBin i s) + made := by
  obtain ⟨r, hr, e⟩ := emptyBin_eq ho hb
  obtain ⟨hm, hw, shelf, hs, hfilled, hkept⟩ := shelves_cases (goodShirts s o) { state := s, made := 0, wasted := 0 }
  have free := shelves_freeSlots (goodShirts s o) { state := s, made := 0, wasted := 0 }
  rw [← hr] at hm hw hs free
  have take : (emptySlots s).take (goodShirts s o).length = (emptySlots s).take made := by
    rw [hmade, List.take_eq_take_min, Nat.min_comm]
  simp only [Nat.zero_add, take] at hm hw hs free hkept
  rw [← hmade] at hm hw
  rw [← hwasted] at hw
  have ho' : r.state.order i = some o := by rw [hs]; exact ho
  have slots : freeSlots (emptyBin i s) = freeSlots r.state := by
    refine freeSlots_of_shelf ?_
    rw [e, post_pack, releaseBin_shelf]
  refine ⟨shelf, ?_, hfilled, hkept, by rw [slots]; omega⟩
  rw [e, releaseBin_some ho', hm, hw, hs]
  rfl

/-- A take into a bin just assigned, over the state before it. -/
theorem takeOne_putOrder (i : OrderNo) (n : LineNo) (l : Line) (sl : SlotNo) (b : BinNo) (o : Option Order) (s : State)
    (bins : Vector (Option Handle) 24) :
    takeOne i n l sl b (putOrder i o (s.setPack { s.pack with bins := bins })) =
      completionCheck i (post .pack (.shelfToBin sl b (s.handleOf i) l.position.val)
        (putLine n (some { l with good := l.good + 1 }) (putOrder i o
          (s.setPack { s.pack with
            bins := bins, shelf := tset s.pack.shelf sl none, age := s.pack.age.filter fun x => decide (x ≠ sl) })))) := by
  unfold takeOne
  rw [putOrder_handleOf]
  rfl

/-! ### The statement -/

/-- Settles O26. -/
theorem shelfCountsBalance : Obligations.ShelfCountsBalance := by
  refine ⟨orphanUptake_freeSlots, fun s i o ho => ⟨orphanUptake_unmet ho, ?_⟩, ?_, fun s t hs h => binsOwned_kept hs h,
    fun s t hs h => shelfAged_kept hs h⟩
  · intro first last n l older newer sl hlines hfirst hl hneed hage hfit holder
    have hm := oldestMatch_eq hage hfit holder
    refine ⟨fun hbin hfull => orphanUptake_full ho hlines hfirst hl hneed hm (assignBin_full ho hbin hfull),
      fun b hb => ⟨_, rfl, ?_⟩⟩
    rw [orphanUptake_take ho hlines hfirst hl hneed hm (assignBin_eq ho hb), takeOne_putOrder]
  · rintro s i o b shirts free made wasted ho hb rfl rfl hmade hwasted
    obtain ⟨shelf, e, hfilled, hkept, hfree⟩ := emptyBin_shelves ho hb hmade hwasted
    have count : made + wasted = totalGood s o := by
      rw [← goodShirts_length, hwasted]
      have : made ≤ (goodShirts s o).length := by rw [hmade]; exact Nat.min_le_right _ _
      exact Nat.add_sub_cancel' this
    refine ⟨shelf, e, hfilled, hkept, count, hfree, fun hw => ?_⟩
    have all : made = freeSlots s := by
      change made = min (freeSlots s) (goodShirts s o).length at hmade
      change wasted = (goodShirts s o).length - made at hwasted
      omega
    omega

end Sys2Proof.Machine
end

section
/-! O12 to O15: the characters of a frame one by one, the frame checks in their order, the notices and READ STATUS. -/

namespace Sys2Proof.Machine

/-! ### The frame assembler -/

/-- A port whose receiver holds the characters `held`, the last of them come at `now`. -/
def PortState.holding (x : PortState) (held : List Byte) (now : Word32) : PortState :=
  { x with receiver := { held := held, junkRun := false, lastChar := now } }

theorem PortState.expire_hunting {x : PortState} (now : Word32) (h : x.receiver.held = []) : x.expire now = x := by
  simp [PortState.expire, gapExceeded, h]

theorem PortState.expire_holding (x : PortState) (held : List Byte) (now : Word32) :
    (x.holding held now).expire now = x.holding held now := by
  simp [PortState.expire, gapExceeded, PortState.holding]

theorem receiveChar_hunting {p : Port} {now : Word32} {x : PortState} {c : Byte} (h : x.receiver.held = []) :
    receiveChar p now x c =
      { huntChar c x with receiver := { (huntChar c x).receiver with lastChar := now } } := by
  unfold receiveChar
  simp [PortState.expire_hunting now h, h]

theorem receiveChar_start {p : Port} {now : Word32} {x : PortState} (h : x.receiver.held = []) :
    receiveChar p now x startByte = x.holding [startByte] now := by
  rw [receiveChar_hunting h, huntChar, if_pos rfl]
  rfl

theorem receiveChar_holding {p : Port} {now : Word32} (x : PortState) {held : List Byte} (c : Byte) (h : held ≠ []) :
    receiveChar p now (x.holding held now) c =
      { frameChar p c (x.holding held now) with
        receiver := { (frameChar p c (x.holding held now)).receiver with lastChar := now } } := by
  have inside : (x.holding held now).receiver.held.isEmpty = false := by simpa [PortState.holding] using h
  unfold receiveChar
  dsimp only
  rw [PortState.expire_holding, inside]
  rfl

/-- A character that neither ends the frame nor gives it too great a length is kept. -/
theorem receiveChar_kept {p : Port} {now : Word32} (x : PortState) {held : List Byte} {c : Byte} (h : held ≠ [])
    (hlen : ¬((held ++ [c]).length = 2 ∧ Config.bodyMax < c.toNat)) (hc : frameComplete (held ++ [c]) = false) :
    receiveChar p now (x.holding held now) c = x.holding (held ++ [c]) now := by
  have e : frameChar p c (x.holding held now) = x.holding (held ++ [c]) now := by
    unfold frameChar
    dsimp only [PortState.holding]
    rw [if_neg hlen, hc]
    simp
  rw [receiveChar_holding x c h, e]
  rfl

theorem frameComplete_cons (c len : Byte) (rest : List Byte) :
    frameComplete (c :: len :: rest) = decide (rest.length = len.toNat + 5) := by
  simp [frameComplete]

/-- The characters after the length byte are kept as long as the frame is not complete. -/
theorem receive_rest {p : Port} {now : Word32} (x : PortState) (len : Byte) (done more : List Byte)
    (h : done.length + more.length < len.toNat + 5) :
    more.foldl (receiveChar p now) (x.holding (startByte :: len :: done) now)
      = x.holding (startByte :: len :: (done ++ more)) now := by
  induction more generalizing done with
  | nil => simp
  | cons c more ih =>
    rw [List.length_cons] at h
    have kept : receiveChar p now (x.holding (startByte :: len :: done) now) c
        = x.holding (startByte :: len :: (done ++ [c])) now := by
      refine receiveChar_kept x (by simp) (by simp) ?_
      rw [List.cons_append, List.cons_append, frameComplete_cons, decide_eq_false_iff_not, List.length_append,
        List.length_singleton]
      omega
    rw [List.foldl_cons, kept, ih _ (by rw [List.length_append, List.length_singleton]; omega)]
    simp

theorem receive_length {p : Port} {now : Word32} {x : PortState} {len : Byte} (h : x.receiver.held = [])
    (hlen : len.toNat ≤ 240) :
    [startByte, len].foldl (receiveChar p now) x = x.holding [startByte, len] now := by
  rw [List.foldl_cons, List.foldl_cons, List.foldl_nil, receiveChar_start h,
    receiveChar_kept x (by simp) (by change ¬(_ ∧ 240 < _); omega)]
  · rfl
  · simp [frameComplete]

/-- A whole run of a frame's characters: a good frame is accepted, any other is a frame error. -/
theorem receive_whole {p : Port} {now : Word32} {x : PortState} {len : Byte} {rest : List Byte}
    (h : x.receiver.held = []) (hlen : len.toNat ≤ 240) (hrest : rest.length = len.toNat + 5) :
    (startByte :: len :: rest).foldl (receiveChar p now) x =
      match frameOf (startByte :: len :: rest) with
      | some f => acceptFrame p f (x.holding [] now)
      | none => (x.holding [] now).countError := by
  obtain ⟨init, c, rfl⟩ := List.eq_nil_or_concat rest |>.resolve_left (by rintro rfl; simp at hrest)
  rw [List.concat_eq_append, List.length_append, List.length_singleton] at hrest
  rw [List.concat_eq_append, show startByte :: len :: (init ++ [c]) = [startByte, len] ++ (init ++ [c]) from rfl,
    List.foldl_append, receive_length h hlen, List.foldl_append, receive_rest x len [] init (by rw [List.length_nil]; omega),
    List.foldl_cons, List.foldl_nil, List.nil_append, receiveChar_holding x c (by simp)]
  have complete : frameComplete (startByte :: len :: init ++ [c]) = true := by
    rw [List.cons_append, List.cons_append, frameComplete_cons, decide_eq_true_eq, List.length_append,
      List.length_singleton]
    exact hrest
  have e : frameChar p c (x.holding (startByte :: len :: init) now) =
      match frameOf (startByte :: len :: init ++ [c]) with
      | some f => acceptFrame p f (x.holding [] now)
      | none => (x.holding [] now).countError := by
    unfold frameChar
    dsimp only [PortState.holding]
    rw [if_neg (by simp), if_pos complete]
    rfl
  rw [e]
  change _ = match frameOf (startByte :: len :: init ++ [c]) with
    | some f => acceptFrame p f (x.holding [] now)
    | none => (x.holding [] now).countError
  split
  · unfold acceptFrame
    split <;> rfl
  · rfl

theorem Frame.covered_length (f : Frame) : f.covered.length = f.body.length + 4 := by simp [Frame.covered]

theorem length_toNat {f : Frame} (h : f.body.length ≤ 240) : (BitVec.ofNat 8 f.body.length).toNat = f.body.length := by
  rw [BitVec.toNat_ofNat]; omega

theorem frameOf_covered {f : Frame} {crc : List Byte} (h : f.body.length ≤ 240) (hcrc : crc.length = 2) :
    frameOf (startByte :: (f.covered ++ crc)) = if crc = crcBytes (crc16 f.covered) then some f else none := by
  have length := length_toNat h
  obtain ⟨port, code, tag, body⟩ := f
  dsimp only at h length
  unfold frameOf Frame.covered
  simp only [List.cons_append, length, List.take_left', List.drop_left', List.length_append, hcrc, true_and]
  exact if_congr ⟨fun hc => hc.2, fun hc => ⟨h, hc⟩⟩ rfl rfl

/-- Settles O12. -/
theorem frameIsAssembled : Obligations.FrameIsAssembled := by
  intro s p f hbody hheld
  have length := length_toNat hbody
  have whole : f.chars.foldl (receiveChar p s.time.now) (s.port p) = acceptFrame p f ((s.port p).holding [] s.time.now) := by
    have run := receive_whole (p := p) (now := s.time.now) (x := s.port p) (len := BitVec.ofNat 8 f.body.length)
      (rest := f.portCode :: f.code :: f.tag :: f.body ++ crcBytes (crc16 f.covered)) hheld (by rw [length]; exact hbody)
      (by simp [length, crcBytes])
    have good := frameOf_covered (crc := crcBytes (crc16 f.covered)) hbody rfl
    rw [if_pos rfl] at good
    change f.chars.foldl _ _ = match frameOf (startByte :: (f.covered ++ crcBytes (crc16 f.covered))) with
      | some f => _ | none => _ at run
    rw [good] at run
    exact run
  change Host.Outcome.next (s.setPort p (f.chars.foldl (receiveChar p s.time.now) (s.port p))) = _
  rw [whole]
  unfold acceptFrame
  change Host.Outcome.next (s.setPort p (if (s.port p).input.length < 4 then _ else _)) = _
  split <;> rfl

/-! ### Frame errors -/

/-- A run of characters other than A5h is one frame error. -/
theorem receive_junk {p : Port} {now : Word32} {x : PortState} {chars : List Byte} (h : x.receiver.held = [])
    (hj : x.receiver.junkRun = false) (hne : chars ≠ []) (hc : ∀ c ∈ chars, c ≠ startByte) :
    chars.foldl (receiveChar p now) x =
      { x.countError with receiver := { held := [], junkRun := true, lastChar := now } } := by
  obtain ⟨c, more, rfl⟩ := List.exists_cons_of_ne_nil hne
  have first : receiveChar p now x c = { x.countError with receiver := { held := [], junkRun := true, lastChar := now } } := by
    rw [receiveChar_hunting h, huntChar, if_neg (hc c (by simp)), hj]
    simp [PortState.countError, h]
  rw [List.foldl_cons, first]
  have tail : ∀ c ∈ more, c ≠ startByte := fun c hm => hc c (by simp [hm])
  clear hne hc first
  induction more with
  | nil => rfl
  | cons d more ih =>
    have same : receiveChar p now { x.countError with receiver := { held := [], junkRun := true, lastChar := now } } d
        = { x.countError with receiver := { held := [], junkRun := true, lastChar := now } } := by
      rw [receiveChar_hunting rfl, huntChar, if_neg (tail d (by simp))]
      rfl
    rw [List.foldl_cons, same]
    exact ih fun c hm => tail c (by simp [hm])

/-- A length above 240 ends the frame. -/
theorem receive_long {p : Port} {now : Word32} {x : PortState} {len : Byte} (h : x.receiver.held = [])
    (hlen : 240 < len.toNat) : [startByte, len].foldl (receiveChar p now) x = (x.holding [] now).countError := by
  rw [List.foldl_cons, List.foldl_cons, List.foldl_nil, receiveChar_start h, receiveChar_holding x len (by simp)]
  have e : frameChar p len (x.holding [startByte] now) = (x.holding [] now).countError := by
    unfold frameChar
    dsimp only
    rw [if_pos ⟨rfl, hlen⟩]
    rfl
  rw [e]
  rfl

/-- A bad CRC ends the frame. -/
theorem receive_badCrc {p : Port} {now : Word32} {x : PortState} {f : Frame} {crc : List Byte}
    (h : x.receiver.held = []) (hbody : f.body.length ≤ 240) (hcrc : crc.length = 2)
    (hbad : crc ≠ crcBytes (crc16 f.covered)) :
    (startByte :: (f.covered ++ crc)).foldl (receiveChar p now) x = (x.holding [] now).countError := by
  have length := length_toNat hbody
  have run := receive_whole (p := p) (now := now) (x := x) (len := BitVec.ofNat 8 f.body.length)
    (rest := f.portCode :: f.code :: f.tag :: f.body ++ crc) h (by rw [length]; exact hbody) (by simp [length, hcrc])
  have bad := frameOf_covered (crc := crc) hbody hcrc
  rw [if_neg hbad] at bad
  change (startByte :: (f.covered ++ crc)).foldl _ _ = match frameOf (startByte :: (f.covered ++ crc)) with
    | some f => _ | none => _ at run
  rw [bad] at run
  exact run

/-- Settles O13. -/
theorem frameErrorsAreCounted : Obligations.FrameErrorsAreCounted := by
  refine ⟨fun s p chars hheld hjunk hchars => ?_, fun s p => ⟨fun ⟨hheld, hgap⟩ => ?_, fun hsame => ?_⟩⟩
  · have errors : ((chars.foldl (receiveChar p s.time.now) (s.port p)).endRun)
        = ((s.port p).holding [] s.time.now).countError := by
      rcases hchars with ⟨hne, hc⟩ | ⟨len, rfl, hlen⟩ | ⟨f, crc, hbody, hcrc, hbad, rfl⟩
      · rw [receive_junk hheld hjunk hne hc]; rfl
      · exact congrArg PortState.endRun (receive_long hheld hlen)
      · exact congrArg PortState.endRun (receive_badCrc hheld hbody hcrc hbad)
    change Host.Outcome.next ((s.setPort p _).setPort p (((s.setPort p _).port p).endRun)) = _
    rw [State.port_setPort_same, State.setPort_setPort, errors]
    rfl
  · have due : gapExceeded s.time.now (s.port p).receiver = true := by
      simp only [gapExceeded, Bool.and_eq_true, Bool.not_eq_true', List.isEmpty_eq_false_iff, decide_eq_true_eq]
      exact ⟨hheld, hgap⟩
    change Host.Outcome.next (s.setPort p ((s.port p).expire s.time.now)) = _
    rw [PortState.expire, if_pos due]
    rfl
  · have due : gapExceeded s.time.now (s.port p).receiver = false := by
      rcases hsame with h | h
      · simp [gapExceeded, h]
      · rw [gapExceeded, Bool.and_eq_false_iff]
        exact .inr (decide_eq_false (Nat.not_lt.mpr h))
    change Host.Outcome.next (s.setPort p ((s.port p).expire s.time.now)) = _
    rw [PortState.expire, due, if_neg (by simp), State.setPort_port]

end Sys2Proof.Machine
end

section
/-! O14 and O15: the frame checks in their order, the handle and tag checks, the notices and READ STATUS. -/

namespace Sys2Proof.Machine

/-! ### The frame checks (R173) -/

/-- A frame that a request command takes and the frame checks refuse leaves the buffer, and the refusal is sent. -/
theorem exec_refused {r : Request} {s : State} {p : Port} {f : Frame} {rest : List Frame} {e : StatusCode}
    (hi : (s.port p).input = f :: rest) (hc : f.code = r.code ∨ reservedCode f.code = true)
    (he : frameRefusal p r f = some e) :
    exec (r.command p) s = answer (s.without p rest) p f (.refused e []) := by
  rw [exec_command]
  unfold serve
  simp only [hi, hc, if_true, he]
  rfl

/-- The refusals of the frame checks, in their order. -/
theorem frameRefusal_table (p : Port) (r : Request) (f : Frame) :
    (f.portCode ≠ portCode p → frameRefusal p r f = some .wrongPort)
      ∧ (f.portCode = portCode p → reservedCode f.code = true → frameRefusal p r f = some .badField)
      ∧ (f.portCode = portCode p → f.code = r.code → r.takenOn p = false → frameRefusal p r f = some .wrongPort)
      ∧ (f.portCode = portCode p → f.code = r.code → r.takenOn p = true → r.lengthOk f.body = false →
          frameRefusal p r f = some .badLength) := by
  refine ⟨fun h => ?_, fun h h2 => ?_, fun h h2 h3 => ?_, fun h h2 h3 h4 => ?_⟩ <;>
    simp [frameRefusal, *, reservedCode_code]

/-! ### The handle check and the tag check (R22, R15) -/

/-- A request that names an order checks the handle before all else of its own. -/
theorem namesOrder_handler {r : Request} (hr : r.namesOrder = true) (p : Port) {g ix : Byte} {more : List Byte}
    (s : State) (hl : r.lengthOk (g :: ix :: more) = true) :
    ∃ k, handlerOf r p (g :: ix :: more) s = withHandle g ix s k := by
  have hr := of_decide_eq_true hr
  simp only [List.mem_cons, List.not_mem_nil, or_false] at hr
  rcases hr with rfl | rfl | rfl | rfl
  case inr.inr.inr =>
    cases more with
    | nil => exact ⟨_, rfl⟩
    | cons b more =>
      obtain rfl : more = [] := by simpa [Request.lengthOk] using hl
      exact ⟨_, rfl⟩
  all_goals
    obtain rfl : more = [] := by simpa [Request.lengthOk] using hl
    exact ⟨_, rfl⟩

/-- A request that names a unit checks the tag before all else of its own. -/
theorem namesUnit_handler {r : Request} (hr : r.namesUnit = true) (p : Port) (hi lo : Byte) (s : State) :
    ∃ k, handlerOf r p [hi, lo] s = withTag hi lo s k := by
  have hr := of_decide_eq_true hr
  simp only [List.mem_cons, List.not_mem_nil, or_false] at hr
  rcases hr with rfl | rfl | rfl | rfl | rfl | rfl | rfl | rfl <;> exact ⟨_, rfl⟩

theorem resolveHandle_badField {g ix : Byte} (s : State) (h : 127 < ix.toNat) :
    resolveHandle g ix s = .error .badField := by
  unfold resolveHandle
  rw [recordNo_none (by omega)]

theorem resolveHandle_stale {g ix : Byte} {s : State} {i : OrderNo} (h : ix.toNat = i.val)
    (hs : s.order i = none ∨ (s.handleOf i).generation ≠ g.toNat) : resolveHandle g ix s = .error .staleHandle := by
  unfold resolveHandle
  rw [recordNo_val h]
  dsimp only
  split
  · rfl
  · next ho =>
    rcases hs with hs | hs
    · rw [State.order, ho] at hs; cases hs
    · exact if_neg hs

theorem resolveTag_unknown {hi lo : Byte} (s : State) (h : 39 < number2 hi lo % 64) :
    resolveTag hi lo s = .error .unknownTag := by
  unfold resolveTag
  dsimp only
  rw [dif_neg (by omega)]

theorem resolveTag_free {hi lo : Byte} {s : State} {u : UnitNo} (h : number2 hi lo % 64 = u.val)
    (hs : s.shirt u = none) : resolveTag hi lo s = .error .unknownTag := by
  have lt := u.isLt
  have unit : (⟨number2 hi lo % 64, by omega⟩ : UnitNo) = u := Fin.ext h
  unfold resolveTag
  dsimp only
  rw [dif_pos (by omega), unit]
  simp only [hs]

theorem resolveTag_stale {hi lo : Byte} {s : State} {u : UnitNo} {sh : Shirt} (h : number2 hi lo % 64 = u.val)
    (hs : s.shirt u = some sh) (hg : s.generation u ≠ number2 hi lo / 64) : resolveTag hi lo s = .error .staleTag := by
  have lt := u.isLt
  have unit : (⟨number2 hi lo % 64, by omega⟩ : UnitNo) = u := Fin.ext h
  unfold resolveTag
  dsimp only
  rw [dif_pos (by omega), unit]
  simp only [hs, hg, if_false]

theorem withHandle_error {g ix : Byte} {s : State} {e : StatusCode} (h : resolveHandle g ix s = .error e)
    (k : OrderNo → Order → Reply × State) : withHandle g ix s k = (.refused e [], s) := by
  unfold withHandle; rw [h]; rfl

theorem withTag_error {hi lo : Byte} {s : State} {e : StatusCode} (h : resolveTag hi lo s = .error e)
    (k : UnitNo → Shirt → Reply × State) : withTag hi lo s k = (.refused e [], s) := by
  unfold withTag; rw [h]; rfl

/-- Settles O14. -/
theorem frameChecksInOrder : Obligations.FrameChecksInOrder := by
  refine ⟨fun r s p f rest hi hc => ?_, fun r s p f rest g ix more hr hoff hbody => ?_,
    fun r s p f rest hi lo n hr hoff hbody hn => ?_⟩
  · obtain ⟨hport, hreserved, htaken, hlength⟩ := frameRefusal_table p r f
    exact ⟨fun h => exec_refused hi hc (hport h), fun h h2 => exec_refused hi hc (hreserved h h2),
      fun h h2 h3 => exec_refused hi hc (htaken h h2 h3), fun h h2 h3 h4 => exec_refused hi hc (hlength h h2 h3 h4)⟩
  · have length : r.lengthOk (g :: ix :: more) = true := by
      obtain ⟨_, _, _, _, hl⟩ := hoff
      rwa [hbody] at hl
    have refused : ∀ e, resolveHandle g ix (s.without p rest) = .error e →
        exec (r.command p) s = answer (s.without p rest) p f (.refused e []) := fun e he => by
      obtain ⟨k, hk⟩ := namesOrder_handler hr p (s.without p rest) length
      exact exec_offered hoff (by rw [hbody, hk, withHandle_error he])
    exact ⟨fun h => refused _ (resolveHandle_badField _ h), fun i h hs => refused _ (resolveHandle_stale h hs)⟩
  · have refused : ∀ e, resolveTag hi lo (s.without p rest) = .error e →
        exec (r.command p) s = answer (s.without p rest) p f (.refused e []) := fun e he => by
      obtain ⟨k, hk⟩ := namesUnit_handler hr p hi lo (s.without p rest)
      exact exec_offered hoff (by rw [hbody, hk, withTag_error he])
    subst hn
    refine ⟨fun h => refused _ (resolveTag_unknown _ h), fun u h =>
      ⟨fun hs => refused _ (resolveTag_free h hs), fun hs hg => ?_⟩⟩
    obtain ⟨sh, hsh⟩ := Option.isSome_iff_exists.mp hs
    exact refused _ (resolveTag_stale (s := s.without p rest) h hsh hg)

/-! ### Notices -/

/-- The four arguments of a notice (A.4). -/
theorem Notice.arguments_four (n : Notice) : ∃ a b c d, n.arguments = [a, b, c, d] := by
  cases n <;> exact ⟨_, _, _, _, rfl⟩

theorem noticeBytes_eq {n : Notice} {a b c d : Nat} (h : n.arguments = [a, b, c, d]) (w : Word32) :
    noticeBytes { notice := n, stamp := w } =
      [BitVec.ofNat 8 n.kind] ++ bytes4 w.toNat ++ bytes4 a ++ bytes4 b ++ bytes4 c ++ bytes4 d := by
  simp [noticeBytes, h, bytes1]

/-- The bits of the flag byte of READ STATUS. -/
theorem statusBits_getLsbD (s : State) :
    let bits := BitVec.ofNat 8 (statusBits s)
    bits.getLsbD 0 = s.ring.pendingIndex ∧ bits.getLsbD 1 = s.ring.holds.pretreat
      ∧ bits.getLsbD 2 = s.ring.holds.print ∧ bits.getLsbD 3 = s.ring.holds.tunnel
      ∧ bits.getLsbD 4 = transferInhibit s ∧ bits.getLsbD 5 = s.tunnel.ready ∧ bits.getLsbD 6 = false
      ∧ bits.getLsbD 7 = false := by
  unfold statusBits
  generalize s.ring.pendingIndex = a, s.ring.holds.pretreat = b, s.ring.holds.print = c, s.ring.holds.tunnel = d,
    transferInhibit s = e, s.tunnel.ready = g
  revert a b c d e g
  decide

theorem transferInhibit_iff (s : State) :
    transferInhibit s = true ↔ s.tunnel.state = .inhibited ∨ s.tunnel.quiesce ≠ .running := by
  simp [transferInhibit]

/-- The result bytes of READ STATUS, in the words of A.4. -/
theorem statusResults_eq (p : Port) (s : State) :
    statusResults p s = bytes1 (match s.time.lastReset with | .powerOn => 0 | .lineReset => 1) ++ bytes4 s.time.now.toNat
      ++ bytes1 (match s.ring.state with | .still => 0 | .moving => 1) ++ [BitVec.ofNat 8 (statusBits s)]
      ++ bytes1 s.pretreat.state.code ++ bytes1 s.print.state.code ++ bytes1 s.tunnel.state.code
      ++ bytes1 s.load.quiesce.code ++ bytes1 s.pretreat.quiesce.code ++ bytes1 s.print.quiesce.code
      ++ bytes1 s.tunnel.quiesce.code ++ bytes1 s.bar.state.code
      ++ bytes1 s.tunnel.queue.length ++ bytes1 s.pack.exits.length
      ++ ((List.finRange 4).flatMap fun z =>
        bytes1 (tget s.tunnel.zones z).state.code ++ bytes1 (tget s.tunnel.zones z).duty)
      ++ bytes4 s.pretreat.reservoir
      ++ bytes1 ((List.finRange 64).filter fun a => (tget s.artworks a).staged).length
      ++ bytes1 ((List.finRange 40).filter fun u => (s.shirt u).isNone).length
      ++ bytes2 ((List.finRange 384).filter fun n => (s.line n).isNone).length
      ++ bytes1 ((List.finRange 128).filter fun i => (s.order i).isNone).length
      ++ bytes1 ((List.finRange 24).filter fun b => (tget s.pack.bins b).isNone).length
      ++ bytes1 ((List.finRange 16).filter fun sl => (tget s.pack.shelf sl).isNone).length
      ++ bytes1 s.book.active.length ++ bytes2 (s.port p).frameErrors := by
  unfold statusResults
  rw [toList_eq_tget, List.flatMap_map]
  rfl

theorem statusResults_length (p : Port) (s : State) : (statusResults p s).length = 39 := by
  unfold statusResults
  rw [toList_eq_tget, List.flatMap_map]
  simp [List.length_flatMap]

/-- Settles O15. -/
theorem noticesPostedAndFetched : Obligations.NoticesPostedAndFetched := by
  refine ⟨fun p n s => ⟨fun h => ?_, fun h => ?_⟩, fun s p f rest => ⟨fun hoff => ⟨fun n ns hn => ?_, fun hn => ?_⟩,
    fun hoff => ?_⟩, fun n w => ?_⟩
  · exact congrArg (s.setPort p) (if_pos h)
  · exact congrArg (s.setPort p) (if_neg (by rw [h]; decide))
  · refine exec_offered hoff (r := .fetchNotice) ?_
    change fetchNotice p f.body (s.without p rest) = _
    simp only [fetchNotice, fetchResults, State.without_port, if_true, hn, List.tail_cons]
  · refine exec_offered hoff (r := .fetchNotice) ?_
    change fetchNotice p f.body (s.without p rest) = _
    simp only [fetchNotice, fetchResults, State.without_port, if_true, hn, List.tail_nil]
    rfl
  · obtain ⟨h0, h1, h2, h3, h4, h5, h6, h7⟩ := statusBits_getLsbD s
    refine ⟨_, BitVec.ofNat 8 (statusBits s), exec_offered hoff (r := .readStatus) ?_, statusResults_length p s,
      statusResults_eq p s, h0, h1, h2, h3, ?_, h5, h6, h7⟩
    · change readStatus p f.body (s.without p rest) = _
      have results : statusResults p (s.without p rest) = statusResults p s := by
        unfold statusResults
        rw [State.without_port, if_pos rfl]
        rfl
      rw [readStatus, results, State.without_port, if_pos rfl]
    · rw [h4]; exact transferInhibit_iff s
  · obtain ⟨a, b, c, d, h⟩ := n.arguments_four
    have bytes := noticeBytes_eq h w
    refine ⟨BitVec.ofNat 8 n.kind, a, b, c, d, bytes, by rw [bytes]; rfl, ?_⟩
    rw [← h]
    cases n with
    | orderFreed h w c => cases c <;> rfl
    | zoneStale z c => cases c <;> rfl
    | unitLost t h l r => cases r <;> rfl
    | _ => rfl

end Sys2Proof.Machine
end

section
/-! O21 and O22: what LINE RESET leaves in each block, and the three stations' arrivals. -/

namespace Sys2Proof.Machine

/-! ### The notices of LINE RESET -/

/-- Records that join a queue fill it up to 16; one beyond sets OVERRUN. -/
theorem PortState.join_foldl (rs : List NoticeRecord) (x : PortState) (h : x.notices.length ≤ 16) :
    rs.foldl PortState.join x = { x with
      notices := (x.notices ++ rs).take 16, overrun := x.overrun || decide (16 < x.notices.length + rs.length) } := by
  induction rs generalizing x with
  | nil =>
    have whole : x.notices.take 16 = x.notices := List.take_of_length_le h
    have room : decide (16 < x.notices.length) = false := decide_eq_false (by omega)
    simp [whole, room]
  | cons r rs ih =>
    rw [List.foldl_cons]
    by_cases hr : x.notices.length < 16
    · have e : x.join r = { x with notices := x.notices ++ [r] } := if_pos hr
      rw [e, ih _ (by rw [List.length_append, List.length_singleton]; exact hr)]
      simp [List.length_append, Nat.add_assoc, Nat.add_comm 1]
    · have e : x.join r = { x with overrun := true } := if_neg hr
      have full : x.notices.length = 16 := by omega
      have rest := ih { x with overrun := true } h
      rw [e, rest]
      simp [full]

theorem foldl_post_port {α : Type} (p q : Port) (f : α → Notice) (l : List α) (s : State) :
    (l.foldl (fun s x => post p (f x) s) s).port q =
      if q = p then (l.map fun x => { notice := f x, stamp := s.time.now }).foldl PortState.join (s.port p)
      else s.port q := by
  induction l generalizing s with
  | nil => simp only [List.foldl_nil, List.map_nil]; split <;> simp [*]
  | cons a l ih =>
    rw [List.foldl_cons, ih, List.map_cons, List.foldl_cons]
    split
    · rw [post_port, if_pos rfl]
      rfl
    · next hq => rw [post_port, if_neg hq]

/-- Each queue holds LINE RESET alone, but for the Order port's, which ORDER FREED of each returned order joins. -/
theorem resetNotices_port (freed : List (Handle × Word32)) (s : State) (q : Port) :
    (resetNotices freed s).port q =
      if q = .order then
        { s.port .order with
          notices := ((Notice.lineReset :: freed.map fun x => .orderFreed x.1 x.2 .cancelled).take 16).map fun n =>
            { notice := n, stamp := s.time.now }
          overrun := decide (15 < freed.length) }
      else { s.port q with notices := [{ notice := .lineReset, stamp := s.time.now }], overrun := false } := by
  unfold resetNotices
  dsimp only
  rw [foldl_post_port]
  split
  · next hq =>
    subst hq
    change (freed.map fun x => _).foldl PortState.join
      { s.port .order with notices := [{ notice := .lineReset, stamp := s.time.now }], overrun := false } = _
    rw [PortState.join_foldl _ _ (by simp)]
    simp only [List.map_take, List.map_cons, List.map_map, Function.comp_def, List.singleton_append, List.length_singleton,
      List.length_map, Bool.false_or]
    congr 1
    rw [decide_eq_decide]
    omega
  · next hq =>
    cases q with
    | order => exact absurd rfl hq
    | load => rfl
    | engine => rfl
    | pack => rfl

/-! ### The books LINE RESET leaves -/

theorem ofCancelling_eq (s : State) : s.ofCancelling = (s.cancelling.flatMap (·.2.lines)).contains := by
  funext n
  rw [Bool.eq_iff_iff]
  simp [State.ofCancelling]

theorem handleOf_eq {s t : State} {i : OrderNo} (h : (s.handleOf i).generation = (t.handleOf i).generation) :
    s.handleOf i = t.handleOf i := by
  unfold State.handleOf at *
  exact congrArg (Handle.mk · i) h

/-- An order is returned exactly where it is CANCELLING. -/
def State.isCancelling (s : State) (i : OrderNo) : Prop := ∃ o, s.order i = some o ∧ o.state = .cancelling

/-- The books after the units' and lines' reset and the return of the CANCELLING orders. -/
theorem clearedBooks_cases (s : State) :
    (clearedBooks s).freed = s.cancelling.map (fun x => (s.handleOf x.1, x.2.webNumber))
      ∧ (∀ n, (clearedBooks s).state.line n =
          if s.ofCancelling n = true then none else (s.line n).map fun l => { l with inFlight := 0 })
      ∧ (∀ a : ArtworkNo, tget (clearedBooks s).state.artworks a =
          { tget s.artworks a with
            refs := (tget s.artworks a).refs - ((s.linesNaming a).filter s.ofCancelling).length })
      ∧ (∀ i, s.isCancelling i → (clearedBooks s).state.order i = none
          ∧ ((clearedBooks s).state.handleOf i).generation
            = if (s.handleOf i).generation = 255 then 1 else (s.handleOf i).generation + 1)
      ∧ (∀ i, ¬s.isCancelling i → (clearedBooks s).state.order i = s.order i
          ∧ (clearedBooks s).state.handleOf i = s.handleOf i)
      ∧ (clearedBooks s).state.book.active = s.book.active
      ∧ (clearedBooks s).state.book.sequence = s.book.sequence := by
  obtain ⟨hfreed, hlines, hart, horder, hgen, hactive, hseq, _⟩ := returnCancelling_cases (List.finRange 128)
    { state := resetLines (resetUnits s), freed := [] } (List.nodup_finRange 128)
  obtain ⟨_, _, _, hline, hrefs⟩ := returnLines_cases (s.cancelling.flatMap (·.2.lines)) (resetLines (resetUnits s))
  have line : ∀ n, (resetLines (resetUnits s)).line n = (s.line n).map fun l => { l with inFlight := 0 } :=
    resetLines_line (resetUnits s)
  have naming : ∀ a, (resetLines (resetUnits s)).linesNaming a = s.linesNaming a := fun a =>
    List.filter_congr fun n _ => by rw [line, Option.map_map]; rfl
  unfold clearedBooks resetOrders
  refine ⟨hfreed, fun n => ?_, fun a => ?_, fun i hi => ?_, fun i hi => ?_, hactive, hseq⟩
  · rw [State.line, hlines]
    change (List.foldl returnLine (resetLines (resetUnits s)) (s.cancelling.flatMap (·.2.lines))).line n = _
    rw [hline, ofCancelling_eq, line]
    simp only [List.contains_iff_mem]
  · rw [hart]
    change tget (List.foldl returnLine (resetLines (resetUnits s)) (s.cancelling.flatMap (·.2.lines))).artworks a = _
    rw [hrefs, naming, ofCancelling_eq]
    rfl
  · have returned : i ∈ List.finRange 128 ∧ ∃ o, s.order i = some o ∧ o.state = .cancelling := ⟨List.mem_finRange i, hi⟩
    exact ⟨(horder i).trans (if_pos returned), (hgen i).trans (if_pos returned)⟩
  · have stays : ¬(i ∈ List.finRange 128 ∧ ∃ o, s.order i = some o ∧ o.state = .cancelling) := fun h => hi h.2
    exact ⟨(horder i).trans (if_neg stays), handleOf_eq ((hgen i).trans (if_neg stays))⟩

theorem clearLine_port (s : State) (q : Port) :
    (clearLine s).port q =
      if q = .order then
        { s.port .order with
          notices := ((Notice.lineReset :: s.cancelling.map fun x =>
            .orderFreed (s.handleOf x.1) x.2.webNumber .cancelled).take 16).map fun n => { notice := n, stamp := s.time.now }
          overrun := decide (15 < s.cancelling.length) }
      else { s.port q with notices := [{ notice := .lineReset, stamp := s.time.now }], overrun := false } := by
  obtain ⟨hfreed, _⟩ := clearedBooks_cases s
  have e := clearedBooks_eq s
  rw [clearLine_eq_resetRest]
  generalize clearedBooks s = r at hfreed e ⊢
  obtain ⟨t, freed⟩ := r
  dsimp only at hfreed e
  unfold resetRest
  dsimp only
  rw [resetNotices_port, hfreed, List.map_map, List.length_map, e]
  rfl

/-! ### The stop of the bar -/

theorem Bar.stop_cases (w : Nat) (b : Bar) :
    (b.stop w).plan = none ∧ (b.stop w).planWaiting = false ∧ (b.stop w).band = none ∧ (b.stop w).sweepsDone = 0
      ∧ (b.stop w).nextDirection = .forward ∧ (b.stop w).valves = closedValves ∧ (b.stop w).traverse = none
      ∧ (b.stop w).clearPending = b.clearPending := by
  unfold Bar.stop
  dsimp only
  split
  case h_5 => split <;> exact ⟨rfl, rfl, rfl, rfl, rfl, rfl, rfl, rfl⟩
  all_goals exact ⟨rfl, rfl, rfl, rfl, rfl, rfl, rfl, rfl⟩

/-- Settles O21. -/
theorem lineResetClearsLineAndBar : Obligations.LineResetClearsLineAndBar := by
  refine ⟨fun s p f rest hoff => ?_, fun w b => ?_⟩
  · obtain ⟨_, hline, hart, hreturned, hkept, hactive, hseq⟩ := clearedBooks_cases (s.without p rest)
    have port := clearLine_port (s.without p rest)
    have shirt := clearLine_shirt (s.without p rest)
    have units : (clearLine (s.without p rest)).units = tmap UnitRecord.freed s.units := by rw [clearLine_eq]; rfl
    have book : (clearLine (s.without p rest)).book = (clearedBooks (s.without p rest)).state.book := by rw [clearLine_eq]
    have artworks : (clearLine (s.without p rest)).artworks = (clearedBooks (s.without p rest)).state.artworks := by
      rw [clearLine_eq]
    have blocks := clearLine_eq (s.without p rest)
    refine ⟨clearLine (s.without p rest), exec_offered hoff (r := .lineReset) rfl, fun u => ⟨shirt u, ?_⟩,
      fun i o ho => ⟨fun hs => ?_, fun hs => ?_⟩, fun i hi => ?_, fun n => ?_, fun a => ?_, ?_, ?_, ?_, ?_, ?_, ?_, ?_, ?_, ?_,
      ?_, ?_, fun q hq => ?_, ?_⟩
    · rw [State.generation, units, tget_tmap]
      unfold UnitRecord.freed nextUnitGeneration
      change (if (s.shirt u).isSome = true then _ else _ : UnitRecord).generation = _
      split <;> rfl
    · rw [State.order, State.handleOf, book]
      exact hreturned i ⟨o, ho, hs⟩
    · rw [State.order, State.handleOf, book, ← ho]
      refine hkept i fun ⟨o', ho', hs'⟩ => hs ?_
      obtain rfl := Option.some.inj (ho.symm.trans ho')
      exact hs'
    · rw [State.order, State.handleOf, book, ← hi]
      refine hkept i fun ⟨o', ho', _⟩ => ?_
      rw [State.without_order, hi] at ho'
      cases ho'
    · rw [State.line, book]
      exact hline n
    · rw [artworks]
      exact hart a
    · rw [book]; exact hseq
    · rw [book]; exact hactive
    · rw [blocks]; rfl
    · rw [blocks]; rfl
    · rw [blocks]; rfl
    · rw [blocks]; rfl
    · rw [blocks]; rfl
    · rw [blocks]; rfl
    · rw [blocks]; rfl
    · rw [blocks]; rfl
    · rw [port, if_pos rfl, State.without_port]
      split
      · next hp => subst hp; rw [if_pos rfl]; rfl
      · next hp => rw [if_neg fun e => hp e.symm]; rfl
    · rw [port, if_neg hq, State.without_port]
      split
      · next hp => subst hp; rfl
      · rfl
    · rw [blocks]; rfl
  · obtain ⟨hplan, hwaiting, hband, hsweeps, hnext, hvalves, htraverse, hpending⟩ := b.stop_cases w
    refine ⟨hplan, hwaiting, hband, hsweeps, hnext, fun z => ?_, htraverse, hpending, b.stop_settings w, fun hs => ?_,
      fun hs => ?_, fun hs hd => ?_, fun hs hd => ?_⟩
    · rw [hvalves]; simp [closedValves]
    · rcases hs with hs | hs | hs <;> simp [Bar.stop, hs]
    · simp [Bar.stop, hs, Bar.moveTo]
    · simp [Bar.stop, hs, hd, Bar.moveTo]
    · simp [Bar.stop, hs, hd]

end Sys2Proof.Machine
end

section
/-! O22: the arrivals of the three stations. -/

namespace Sys2Proof.Machine

section
variable {s : State} {a : Arrival} {u : UnitNo} {sh : Shirt}

theorem pretreatArrival_empty (ha : s.ring.arrivals.pretreat = some a) (hu : (tget s.ring.platens a.platen).unit = none) :
    pretreatArrival s = pretreatRelease (takeArrival .pretreat s) := by
  have platen : (tget (takeArrival .pretreat s).ring.platens a.platen).unit = none := hu
  simp only [pretreatArrival, ha, platen]

/-- A unit that arrives at the Pretreat station is released where it is bypassed, and otherwise tested. -/
theorem pretreatArrival_unit (ha : s.ring.arrivals.pretreat = some a)
    (hu : (tget s.ring.platens a.platen).unit = some u) (hsh : s.shirt u = some sh) :
    pretreatArrival s =
      if sh.flags.bypassed then pretreatRelease (takeArrival .pretreat s)
      else startTestFor u sh (takeArrival .pretreat s) := by
  have platen : (tget (takeArrival .pretreat s).ring.platens a.platen).unit = some u := hu
  have shirt : (takeArrival .pretreat s).shirt u = some sh := hsh
  simp only [pretreatArrival, ha, platen, shirt]

theorem printArrival_empty (ha : s.ring.arrivals.print = some a) (hu : (tget s.ring.platens a.platen).unit = none) :
    printArrival s = releaseHold .print (takeArrival .print s) := by
  have platen : (tget (takeArrival .print s).ring.platens a.platen).unit = none := hu
  simp only [printArrival, ha, platen]

/-- A unit that the pretreatment test leaves unprinted is released, NO PRETREAT its fault where it has no other. -/
theorem printArrival_notPrinted (ha : s.ring.arrivals.print = some a)
    (hu : (tget s.ring.platens a.platen).unit = some u) (hsh : s.shirt u = some sh) (hn : sh.notPrinted = true) :
    printArrival s = releaseHold .print
      (putShirt u (some { sh with fault := sh.fault.orElse fun _ => some .noPretreat }) (takeArrival .print s)) := by
  have platen : (tget (takeArrival .print s).ring.platens a.platen).unit = some u := hu
  have shirt : (takeArrival .print s).shirt u = some sh := hsh
  simp only [printArrival, ha, platen, shirt, hn, if_true]
  rw [noteFault, modifyShirt_some _ shirt]

theorem tunnelArrival_empty (ha : s.ring.arrivals.tunnel = some a) (hu : (tget s.ring.platens a.platen).unit = none) :
    tunnelArrival s = releaseHold .tunnel (takeArrival .tunnel s) := by
  have platen : (tget (takeArrival .tunnel s).ring.platens a.platen).unit = none := hu
  simp only [tunnelArrival, ha, platen]

theorem tunnelArrival_unit (ha : s.ring.arrivals.tunnel = some a) (hu : (tget s.ring.platens a.platen).unit = some u) :
    tunnelArrival s = tunnelHold u (takeArrival .tunnel s) := by
  have platen : (tget (takeArrival .tunnel s).ring.platens a.platen).unit = some u := hu
  simp only [tunnelArrival, ha, platen]

end

theorem putShirt_self {u : UnitNo} {s : State} {sh : Shirt} (h : s.shirt u = some sh) : putShirt u (some sh) s = s := by
  unfold putShirt
  rw [← h]
  change s.setUnits (tset s.units u (tget s.units u)) = s
  rw [tset_tget]
  rfl

/-- Settles O22. -/
theorem stationsTakeArrivals : Obligations.StationsTakeArrivals := by
  intro s a u sh
  refine ⟨fun ha => ⟨fun hu => congrArg _ (pretreatArrival_empty ha hu), fun hu hsh hb => ?_, fun hu hsh hb => ?_⟩,
    fun ha => ⟨fun hu => congrArg _ (printArrival_empty ha hu), fun hu hsh hd hf => ?_, fun hu hsh hd hf hst hb => ?_⟩,
    fun ha => ⟨fun hu => congrArg _ (tunnelArrival_empty ha hu), fun hu => congrArg _ (tunnelArrival_unit ha hu)⟩⟩
  · exact congrArg Host.Outcome.next ((pretreatArrival_unit ha hu hsh).trans (by rw [hb]; rfl))
  · exact congrArg Host.Outcome.next ((pretreatArrival_unit ha hu hsh).trans (by rw [hb]; rfl))
  · have left : sh.notPrinted = true := by simp [Shirt.notPrinted, Shirt.unpretreated, hd, hf]
    refine congrArg Host.Outcome.next ((printArrival_notPrinted ha hu hsh left).trans ?_)
    have kept : ({ sh with fault := sh.fault.orElse fun _ => some .noPretreat } : Shirt) = sh := by
      rw [hf]; cases sh; cases hf; rfl
    have shirt : (takeArrival .print s).shirt u = some sh := hsh
    rw [kept, putShirt_self shirt]
  · have left : sh.notPrinted = true := by simp [Shirt.notPrinted, Shirt.unpretreated, hd, hst, hb]
    refine congrArg Host.Outcome.next ((printArrival_notPrinted ha hu hsh left).trans ?_)
    rw [hf]
    rfl

end Sys2Proof.Machine
end

section
/-! O23 to O25: SUBMIT, HOLD, RELEASE and CANCEL ORDER, check by check. -/

namespace Sys2Proof.Machine

/-! ### SUBMIT ORDER -/

section
variable {s : State} (p : Port) {body : List Byte} {x : Submission} {i : OrderNo} {k : Nat}

theorem submitOrder_badField (hx : submissionOf body = none) : submitOrder p body s = (.refused .badField [], s) := by
  simp only [submitOrder, hx]
  rfl

theorem submitOrder_artwork (hx : submissionOf body = some x) (he : emptyArtworkAt s x.entries = some k) :
    submitOrder p body s = (.refused .artwork (bytes1 k), s) := by
  simp only [submitOrder, hx, he]

theorem submitOrder_duplicate (hx : submissionOf body = some x) (he : emptyArtworkAt s x.entries = none)
    (hw : webNumberInUse s x.webNumber = true) : submitOrder p body s = (.refused .duplicate [], s) := by
  simp only [submitOrder, hx, he, hw]
  rfl

theorem submitOrder_full (hx : submissionOf body = some x) (he : emptyArtworkAt s x.entries = none)
    (hw : webNumberInUse s x.webNumber = false) (hf : lowestFreeOrder s = none ∨ freeLines s < x.entries.length) :
    submitOrder p body s = (.refused .full [], s) := by
  simp only [submitOrder, hx, he, hw, Bool.false_eq_true, if_false]
  cases hl : lowestFreeOrder s with
  | none => rfl
  | some i =>
    rw [hl] at hf
    have full : freeLines s < x.entries.length := hf.resolve_left (by simp)
    simp only [full, if_true]
    rfl

theorem submitOrder_taken (hx : submissionOf body = some x) (he : emptyArtworkAt s x.entries = none)
    (hw : webNumberInUse s x.webNumber = false) (hi : lowestFreeOrder s = some i) (hl : x.entries.length ≤ freeLines s) :
    submitOrder p body s =
      (shelfReply (orphanUptake i (acceptOrder i x s)).2 (handleBytes (s.handleOf i) ++ bytes4 s.book.sequence
        ++ bytes1 (orphanUptake i (acceptOrder i x s)).2), (orphanUptake i (acceptOrder i x s)).1) := by
  simp only [submitOrder, hx, he, hw, hi, Bool.false_eq_true, if_false, Nat.not_lt.mpr hl]

end

theorem submissionOf_bad {w3 w2 w1 w0 pr al n : Byte} {more : List Byte}
    (h : 3 < pr.toNat ∨ 2 < al.toNat ∨ n = 0 ∨ 8 < n.toNat
      ∨ ∃ (k : Nat) (a fb c z q : Byte), (more.drop (5 * k)).take 5 = [a, fb, c, z, q]
        ∧ (63 < a.toNat ∨ 7 < fb.toNat ∨ 63 < c.toNat ∨ 7 < z.toNat ∨ q = 0 ∨ 48 < q.toNat)) :
    submissionOf (w3 :: w2 :: w1 :: w0 :: pr :: al :: n :: more) = none := by
  rw [byte_eq_zero_iff n] at h
  unfold submissionOf
  dsimp only
  split
  · rfl
  · next hr =>
    rcases h with h | h | h | h | ⟨k, a, fb, c, z, q, hk, hb⟩
    · exact absurd (.inl h) hr
    · exact absurd (.inr (.inl h)) hr
    · exact absurd (.inr (.inr (.inl h))) hr
    · exact absurd (.inr (.inr (.inr h))) hr
    · rw [lineEntriesOf_bad k more hk hb]; rfl

/-- The lowest position that names an EMPTY artwork. -/
theorem emptyArtworkAt_some {s : State} {es : List LineEntry} {k : Nat} {e : LineEntry} (hk : es[k]? = some e)
    (he : (tget s.artworks e.artwork).design = none)
    (hb : ∀ (j : Nat) (e' : LineEntry), j < k → es[j]? = some e' → (tget s.artworks e'.artwork).design.isSome = true) :
    emptyArtworkAt s es = some k := by
  obtain ⟨hlt, hget⟩ := List.getElem?_eq_some_iff.mp hk
  unfold emptyArtworkAt
  rw [List.findIdx?_eq_some_iff_getElem]
  refine ⟨hlt, by rw [hget, he]; rfl, fun j hj => ?_⟩
  have := hb j es[j] hj (List.getElem?_eq_getElem (hj.trans hlt))
  rw [Option.isNone_eq_false_iff.mpr this]
  simp

theorem webNumberInUse_iff (s : State) (w : Word32) :
    webNumberInUse s w = true ↔ ∃ j o, s.order j = some o ∧ o.webNumber = w := by
  unfold webNumberInUse
  rw [List.any_eq_true]
  constructor
  · rintro ⟨j, _, hj⟩
    cases ho : s.order j with
    | none => simp [ho] at hj
    | some o => exact ⟨j, o, ho, by simpa [ho] using hj⟩
  · rintro ⟨j, o, ho, hw⟩
    exact ⟨j, List.mem_finRange j, by simp [ho, hw]⟩

/-- An empty shelf gives an order nothing. -/
theorem orphanUptake_shelfless {s : State} (i : OrderNo) (h : s.pack.age = []) : orphanUptake i s = (s, 0) := by
  cases ho : s.order i with
  | none => unfold orphanUptake; simp only [ho]
  | some o =>
    refine orphanUptake_unmet ho fun n _ l _ _ sl hsl => ?_
    rw [h] at hsl
    cases hsl

theorem joinActive_handleOf (i j : OrderNo) (s : State) : (joinActive i s).handleOf j = s.handleOf j := by
  unfold joinActive
  split <;> rfl

theorem joinActive_line (i : OrderNo) (n : LineNo) (s : State) : (joinActive i s).line n = s.line n := by
  unfold joinActive
  split <;> rfl

theorem mem_joinActive {i : OrderNo} {s : State} {o : Order} (h : s.order i = some o) : i ∈ (joinActive i s).book.active := by
  unfold joinActive
  simp only [h]
  exact mem_insertActive s i o _

theorem joinActive_sequence (i : OrderNo) (s : State) : (joinActive i s).book.sequence = s.book.sequence := by
  unfold joinActive
  split <;> rfl

theorem joinActive_eq (i : OrderNo) (s : State) : joinActive i s = { s with book := (joinActive i s).book } := by
  unfold joinActive
  split <;> rfl

theorem Submission.placed_eq {x : Submission} (h : x.entries.length ≤ 8) :
    x.placed.length = x.entries.length
      ∧ (∀ (k : Fin 8) (e : LineEntry), x.entries[k.val]? = some e → x.placed[k.val]? = some (e, k))
      ∧ x.placed.map Prod.fst = x.entries := by
  have whole : x.entries.take 8 = x.entries := List.take_of_length_le h
  unfold Submission.placed
  rw [whole]
  refine ⟨by rw [List.length_zip, List.length_finRange]; omega, fun k e hk => ?_, ?_⟩
  · rw [List.getElem?_zip_eq_some]
    exact ⟨hk, by simp⟩
  · exact List.map_fst_zip (by rw [List.length_finRange]; exact h)

theorem shelfReply_eq (taken : Nat) (results : List Byte) :
    shelfReply taken (results ++ bytes1 taken) =
      if taken = 0 then .done (results ++ [0]) else .condition .shelfUsed (results ++ bytes1 taken) := by
  unfold shelfReply
  split
  · next h => subst h; rfl
  · rfl

/-- What an accepted order leaves before the uptake. -/
theorem acceptOrder_spec (i : OrderNo) {x : Submission} {s : State} (hlen : x.entries.length ≤ 8)
    (hl : x.entries.length ≤ freeLines s) :
    ∃ ls : List LineNo, (acceptOrder i x s).order i = some (newOrder x s ls)
      ∧ (acceptOrder i x s).handleOf i = s.handleOf i ∧ (∀ j : OrderNo, j ≠ i → (acceptOrder i x s).order j = s.order j)
      ∧ ls.length = x.entries.length ∧ ls.Nodup ∧ (∀ n ∈ ls, s.line n = none)
      ∧ (∀ n : LineNo, n ∉ ls → (acceptOrder i x s).line n = s.line n)
      ∧ (∀ (k : Fin 8) (e : LineEntry) (n : LineNo), x.entries[k.val]? = some e → ls[k.val]? = some n →
          (acceptOrder i x s).line n = some (newLine i k e))
      ∧ (∀ a : ArtworkNo, tget (acceptOrder i x s).artworks a =
          { tget s.artworks a with
            refs := (tget s.artworks a).refs + (x.entries.filter fun e => decide (e.artwork = a)).length })
      ∧ i ∈ (acceptOrder i x s).book.active ∧ (acceptOrder i x s).book.sequence = nextSequence s.book.sequence
      ∧ acceptOrder i x s = { s with book := (acceptOrder i x s).book, artworks := (acceptOrder i x s).artworks } := by
  obtain ⟨hplaced, hposition, hentries⟩ := Submission.placed_eq hlen
  obtain ⟨ls, t, e, hlength, hnodup, hfree, horder, hother, hhandle, hline, hnew, hrefs, hseq, _, hrest⟩ :=
    acceptOrder_cases i hl
  have filtered : ∀ a, (x.placed.filter fun y => decide (y.1.artwork = a)).length
      = (x.entries.filter fun e => decide (e.artwork = a)).length := fun a => by
    rw [← hentries, List.filter_map, List.length_map]
    rfl
  rw [e]
  refine ⟨ls, (joinActive_order _ _ _).trans horder, (joinActive_handleOf _ _ _).trans (hhandle i),
    fun j hj => (joinActive_order _ _ _).trans (hother j hj), hlength.trans hplaced, hnodup, hfree,
    fun n hn => (joinActive_line _ _ _).trans (hline n hn),
    fun k e n hk hn => (joinActive_line _ _ _).trans (hnew k.val e k n (hposition k e hk) hn), fun a => ?_,
    mem_joinActive horder, (joinActive_sequence _ _).trans hseq, ?_⟩
  · rw [joinActive_artworks, hrefs, filtered]
  · rw [joinActive_artworks]
    conv_lhs => rw [joinActive_eq]
    generalize (joinActive i t).book = b
    rw [hrest]

/-- Settles O23. -/
theorem submitOrderAccepted : Obligations.SubmitOrderAccepted := by
  refine ⟨fun s p f rest hoff => ⟨fun w3 w2 w1 w0 pr al n more hbody hbad => ?_, fun x hx hbody => ?_⟩,
    fun s p f rest x i hoff hx hbody hart hweb hfree hlow hlines => ?_⟩
  · refine exec_offered hoff (r := .submitOrder) ?_
    rw [hbody]
    exact submitOrder_badField p (submissionOf_bad hbad)
  · have parsed : submissionOf f.body = some x := by rw [hbody]; exact submissionOf_bytes x hx
    refine ⟨fun k e hk he hb => exec_offered hoff (r := .submitOrder) (submitOrder_artwork p parsed ?_),
      fun hart => ⟨fun hweb => exec_offered hoff (r := .submitOrder) (submitOrder_duplicate p parsed ?_ ?_),
        fun hweb hfull => exec_offered hoff (r := .submitOrder) (submitOrder_full p parsed ?_ ?_ ?_)⟩⟩
    · exact emptyArtworkAt_some (s := s.without p rest) hk he hb
    · exact (emptyArtworkAt_none _ _).mpr hart
    · exact (webNumberInUse_iff _ _).mpr hweb
    · exact (emptyArtworkAt_none _ _).mpr hart
    · rw [Bool.eq_false_iff, Ne, webNumberInUse_iff]
      rintro ⟨j, o, ho, hw⟩
      exact hweb j o ho hw
    · refine hfull.imp_left fun h => lowest_eq_none.mpr fun j => ?_
      simpa [State.order] using h j
  · have parsed : submissionOf f.body = some x := by rw [hbody]; exact submissionOf_bytes x hx
    have unused : webNumberInUse (s.without p rest) x.webNumber = false := by
      rw [Bool.eq_false_iff, Ne, webNumberInUse_iff]
      rintro ⟨j, o, ho, hw⟩
      exact hweb j o ho hw
    have lowest : lowestFreeOrder (s.without p rest) = some i := by
      refine lowest_eq_some ?_ fun j hj => ?_
      · simpa [State.order] using hfree
      · simpa [State.order] using hlow j hj
    obtain ⟨_, _, _, hlen, _⟩ := id hx
    obtain ⟨ls, horder, hhandle, hother, hlength, hnodup, hnone, hline, hnew, hrefs, hactive, hseq, hrest⟩ :=
      acceptOrder_spec i (s := s.without p rest) hlen hlines
    have taken := submitOrder_taken p parsed ((emptyArtworkAt_none (s.without p rest) _).mpr hart) unused lowest hlines
    generalize acceptOrder i x (s.without p rest) = t at *
    refine ⟨t, (orphanUptake i t).1, ls, (orphanUptake i t).2, rfl,
      exec_offered hoff (r := .submitOrder) (taken.trans (by rw [shelfReply_eq]; rfl)), fun hage => ?_, horder, hhandle,
      hother, hlength, hnodup, hnone, hline, hnew, hrefs, hactive, hseq, hrest⟩
    rw [orphanUptake_shelfless i (by rw [hrest]; exact hage)]
    exact ⟨rfl, rfl⟩

/-! ### HOLD ORDER and RELEASE ORDER -/

theorem hasAuthority_eq {p : Port} {level : Nat} (h : authorityLevel p = some level) (o : Order) :
    hasAuthority p o = decide (level ≤ o.alterLevel) := by
  simp only [hasAuthority, h]

section
variable {s : State} {p : Port} {i : OrderNo} {o : Order} {level : Nat}

/-- HOLD ORDER on an order's own handle, check by check. -/
theorem holdOrder_own (hg : (s.handleOf i).generation ≤ 255) (ho : s.order i = some o)
    (hp : authorityLevel p = some level) :
    holdOrder p (handleBytes (s.handleOf i)) s =
      if o.alterLevel < level then (.refused .level [], s)
      else if o.state ≠ .active then (.refused .state [], s)
      else (.done [], post .order (.orderHeldOrdered (s.handleOf i) o.webNumber level)
        (leaveActive i (putOrder i (some { o with state := .held, holdReason := some .ordered }) s))) := by
  unfold holdOrder handleBytes bytes2
  dsimp only
  rw [withHandle_own hg ho, hasAuthority_eq hp, hp]
  by_cases hl : o.alterLevel < level
  · rw [if_pos hl, if_pos (by simpa using hl)]; rfl
  · rw [if_neg hl, if_neg (by simpa using hl)]; rfl

/-- RELEASE ORDER on an order's own handle, check by check. -/
theorem releaseOrder_own (hg : (s.handleOf i).generation ≤ 255) (ho : s.order i = some o)
    (hp : authorityLevel p = some level) {t : State}
    (ht : t = joinActive i (putOrder i (some { o with state := .active, holdReason := none }) s)) :
    releaseOrder p (handleBytes (s.handleOf i)) s =
      if o.alterLevel < level then (.refused .level [], s)
      else if o.state ≠ .held then (.refused .state [], s)
      else (shelfReply (orphanUptake i t).2 (bytes1 (orphanUptake i t).2), (orphanUptake i t).1) := by
  unfold releaseOrder handleBytes bytes2
  dsimp only
  rw [withHandle_own hg ho, hasAuthority_eq hp, ht]
  by_cases hl : o.alterLevel < level
  · rw [if_pos hl, if_pos (by simpa using hl)]; rfl
  · rw [if_neg hl, if_neg (by simpa using hl)]; rfl

end

/-- Settles O24. -/
theorem holdAndReleaseOrder : Obligations.HoldAndReleaseOrder := by
  intro s p f rest i o level hbody hg ho hp
  have hold := holdOrder_own (s := s.without p rest) hg ho hp
  have release := releaseOrder_own (s := s.without p rest) hg ho hp rfl
  rw [State.without_handleOf, ← hbody] at hold release
  refine ⟨fun hoff => ⟨fun hl => ?_, fun hl hs => ?_, fun hl hs => ?_⟩,
    fun hoff => ⟨fun hl => ?_, fun hl hs => ?_, fun hl hs t ht => ?_⟩⟩
  · exact exec_offered hoff (r := .holdOrder) (hold.trans (if_pos hl))
  · exact exec_offered hoff (r := .holdOrder) (hold.trans (by rw [if_neg (by omega), if_pos hs]))
  · exact exec_offered hoff (r := .holdOrder) (hold.trans (by rw [if_neg (by omega), if_neg (not_not_intro hs)]))
  · exact exec_offered hoff (r := .releaseOrder) (release.trans (if_pos hl))
  · exact exec_offered hoff (r := .releaseOrder) (release.trans (by rw [if_neg (by omega), if_pos hs]))
  · rw [if_neg (by omega), if_neg (not_not_intro hs), ← ht] at release
    have taken : ∀ (u : State) (taken : Nat), orphanUptake i t = (u, taken) →
        exec (.releaseOrder p) s = answer u p f (if taken = 0 then .done [0] else .condition .shelfUsed (bytes1 taken)) := by
      intro u taken hu
      rw [hu] at release
      exact exec_offered hoff (r := .releaseOrder) (release.trans (by rw [← List.nil_append (bytes1 taken), shelfReply_eq]; rfl))
    refine ⟨fun hage => ?_, taken⟩
    have shelfless : t.pack.age = [] := by rw [ht, joinActive_pack]; exact hage
    exact taken t 0 (orphanUptake_shelfless i shelfless)

/-! ### CANCEL ORDER -/

section
variable {s : State} {p : Port} {i : OrderNo} {o : Order}

/-- CANCEL ORDER on an order's own handle, by the order's state. -/
theorem cancelOrder_own (hg : (s.handleOf i).generation ≤ 255) (ho : s.order i = some o) :
    (o.state = .complete → cancelOrder p (handleBytes (s.handleOf i)) s = (.refused .state [], s))
      ∧ (o.state = .cancelling → cancelOrder p (handleBytes (s.handleOf i)) s
          = (.condition .already ([4] ++ bytes2 (totalInFlight s o)), s))
      ∧ (o.state = .active ∨ o.state = .held → cancelOrder p (handleBytes (s.handleOf i)) s
          = (.done (cancelResults (((cancelLive i o s).order i).map (·.state)) (totalInFlight s o)), cancelLive i o s)) := by
  unfold cancelOrder handleBytes bytes2
  dsimp only
  rw [withHandle_own hg ho]
  refine ⟨fun hs => ?_, fun hs => ?_, fun hs => ?_⟩
  · simp only [hs]; rfl
  · simp only [hs]; rfl
  · rcases hs with hs | hs <;> simp only [hs]

end

theorem freeOrder_none (i : OrderNo) (s : State) (c : FreedCause) : (freeOrder i c s).order i = none := by
  unfold freeOrder
  split
  · assumption
  · exact returnDescriptor_order i s

theorem emptyBin_none {i : OrderNo} {s : State} {o : Order} (ho : s.order i = some o) (hb : o.bin = none) :
    emptyBin i s = s := by
  unfold emptyBin
  simp only [ho, hb]

theorem putOrder_putOrder (i : OrderNo) (x y : Option Order) (s : State) :
    putOrder i x (leaveActive i (putOrder i y s)) = leaveActive i (putOrder i x s) := by
  have same : tset (tset s.book.orders i { tget s.book.orders i with order := y }) i
      { tget (tset s.book.orders i { tget s.book.orders i with order := y }) i with order := x }
      = tset s.book.orders i { tget s.book.orders i with order := x } := by
    rw [tget_tset_same, tset_tset]
  exact congrArg (fun v => State.setBook s
    { s.book with orders := v, active := s.book.active.filter fun j => decide (j ≠ i) }) same

/-- A cancelled order returns to FREE with no shirt in flight, and otherwise becomes CANCELLING. -/
theorem cancelLive_eq (s : State) (i : OrderNo) (o : Order) :
    (totalInFlight s o = 0 → cancelLive i o s = freeOrder i .cancelled (withdrawOrder i o s))
      ∧ (0 < totalInFlight s o → cancelLive i o s
          = putOrder i (some { o with state := .cancelling, holdReason := none, bin := none }) (withdrawOrder i o s)) := by
  have order : (withdrawOrder i o s).order i = some { o with holdReason := none, bin := none } :=
    emptyBin_order (o := { o with holdReason := none }) (putOrder_order_same i _ s)
  refine ⟨fun h => ?_, fun h => ?_⟩
  · unfold cancelLive
    rw [if_pos h]
  · unfold cancelLive
    rw [if_neg (by omega), modifyOrder_some _ order]

/-- Settles O25. -/
theorem cancelOrderByState : Obligations.CancelOrderByState := by
  intro s p f rest i o hoff hbody hg ho
  obtain ⟨hcomplete, hcancelling, hlive⟩ := cancelOrder_own (s := s.without p rest) (p := p) hg ho
  rw [State.without_handleOf, ← hbody] at hcomplete hcancelling hlive
  obtain ⟨hfreed, hkept⟩ := cancelLive_eq (s.without p rest) i o
  have freed : o.state = .active ∨ o.state = .held → totalInFlight s o = 0 →
      exec (.cancelOrder p) s
        = answer (freeOrder i .cancelled (withdrawOrder i o (s.without p rest))) p f (.done [0, 0, 0]) := fun hs h0 => by
    refine exec_offered hoff (r := .cancelOrder) ((hlive hs).trans ?_)
    have none_left := hfreed h0
    rw [none_left, freeOrder_none, show totalInFlight (s.without p rest) o = 0 from h0]
    rfl
  have cancelling : o.state = .active ∨ o.state = .held → 0 < totalInFlight s o →
      exec (.cancelOrder p) s = answer
        (putOrder i (some { o with state := .cancelling, holdReason := none, bin := none })
          (withdrawOrder i o (s.without p rest))) p f (.done ([4] ++ bytes2 (totalInFlight s o))) := fun hs h0 => by
    refine exec_offered hoff (r := .cancelOrder) ((hlive hs).trans ?_)
    have left := hkept h0
    rw [left, putOrder_order_same]
    rfl
  have binless : o.bin = none → withdrawOrder i o (s.without p rest)
      = leaveActive i (putOrder i (some { o with holdReason := none }) (s.without p rest)) := fun hb =>
    emptyBin_none (o := { o with holdReason := none }) (putOrder_order_same i _ _) hb
  refine ⟨fun hs => exec_offered hoff (r := .cancelOrder) (hcomplete hs),
    fun hs => exec_offered hoff (r := .cancelOrder) (hcancelling hs), fun hs hb h0 => ?_, fun hs hb h0 => ?_,
    fun hs hb t ht => ⟨fun h0 => ?_, fun h0 => ?_⟩⟩
  · rw [freed hs h0, binless hb]
  · rw [cancelling hs h0, binless hb, putOrder_putOrder, hb]
  · rw [freed hs h0, ht]
    rfl
  · rw [cancelling hs h0, ht]
    rfl

end Sys2Proof.Machine
end

section
/-! O27: the freeing of a unit, and the checks its order's book makes. -/

namespace Sys2Proof.Machine

/-! ### The freeing of a unit -/

theorem lineNoOf_leavePlace (u : UnitNo) (s : State) (i : OrderNo) (k : Fin 8) :
    lineNoOf (leavePlace u s) i k = lineNoOf s i k := by
  unfold lineNoOf State.order
  rw [leavePlace_book]

theorem mem_of_lineNoOf {s : State} {i : OrderNo} {o : Order} {k : Fin 8} {n : LineNo} (ho : s.order i = some o)
    (h : lineNoOf s i k = some n) : n ∈ o.lines := by
  unfold lineNoOf at h
  rw [ho] at h
  exact List.mem_of_getElem? h

theorem leavePlaten_generation (u v : UnitNo) (s : State) : (leavePlaten u s).generation v = s.generation v := by
  unfold leavePlaten
  split
  · exact modifyShirt_generation _ _ _ _
  · rfl

theorem freeUnit_generation {d : Disposition} {u : UnitNo} {s : State} {sh : Shirt} (h : s.shirt u = some sh) :
    (freeUnit d u s).generation u = (if s.generation u = 1023 then 1 else s.generation u + 1)
      ∧ ∀ v, v ≠ u → (freeUnit d u s).generation v = s.generation v := by
  have inner : ∀ v, (bookFreed sh.order sh.line d (leavePlace u s)).generation v = s.generation v := fun v => by
    rw [State.generation, bookFreed_units, leavePlace, leaveExits_units, leaveQueue_units]
    exact leavePlaten_generation u v s
  unfold freeUnit
  simp only [h]
  refine ⟨?_, fun v hv => ?_⟩
  · rw [clearUnit_generation_same, inner]
  · rw [clearUnit_generation_ne _ hv, inner]

theorem freeUnit_queue {d : Disposition} {u : UnitNo} {s : State} {sh : Shirt} (h : s.shirt u = some sh) :
    (freeUnit d u s).tunnel.queue = s.tunnel.queue.filter fun r => decide (r.unit ≠ u) := by
  unfold freeUnit
  simp only [h]
  change (bookFreed _ _ _ _).tunnel.queue = _
  rw [bookFreed_tunnel]
  simp only [leavePlace, leaveExits_queue, leaveQueue_queue, leavePlaten_tunnel]

/-- The state in which a freed unit's line has been adjusted. -/
def adjustedLine (d : Disposition) (u : UnitNo) (n : LineNo) (l : Line) (s : State) : State :=
  putLine n (some (l.adjusted d)) (leavePlace u s)

section
variable {d : Disposition} {u : UnitNo} {s : State} {sh : Shirt} {n : LineNo} {l : Line} {i : OrderNo} {o : Order}

theorem freeUnit_eq (hsh : s.shirt u = some sh) (hn : lineNoOf s sh.order.index sh.line = some n)
    (hl : s.line n = some l) :
    freeUnit d u s =
      clearUnit u (afterAdjust sh.order.index sh.line d l (l.adjusted d) (adjustedLine d u n l s)) := by
  have number := (lineNoOf_leavePlace u s sh.order.index sh.line).trans hn
  have line : (leavePlace u s).line n = some l := by rw [State.line, leavePlace_book]; exact hl
  unfold freeUnit bookFreed
  simp only [hsh, number, line]
  rfl

theorem adjustedLine_order : (adjustedLine d u n l s).order i = s.order i := by
  change (leavePlace u s).order i = _
  rw [State.order, leavePlace_book]
  rfl

theorem adjustedLine_handleOf : (adjustedLine d u n l s).handleOf i = s.handleOf i := by
  change (leavePlace u s).handleOf i = _
  rw [State.handleOf, leavePlace_book]
  rfl

theorem adjustedLine_line_same : (adjustedLine d u n l s).line n = some (l.adjusted d) := putLine_line_same _ _ _

theorem adjustedLine_line_ne {k : LineNo} (h : k ≠ n) : (adjustedLine d u n l s).line k = s.line k := by
  refine (putLine_line_ne _ _ h).trans ?_
  rw [State.line, leavePlace_book]
  rfl

theorem scrapLimitCheck_line (k : Fin 8) (b a : Nat) (m : LineNo) : (scrapLimitCheck i k b a s).line m = s.line m := by
  unfold scrapLimitCheck
  split
  · rfl
  · split <;> rfl

theorem returnCheck_live (ho : s.order i = some o) (hs : o.state ≠ .cancelling) : returnCheck i s = s := by
  unfold returnCheck
  simp only [ho, hs, false_and, if_false]

/-- What follows the adjustment of a line of an order that is not CANCELLING leaves every line. -/
theorem afterAdjust_line (ho : s.order i = some o) (hs : o.state ≠ .cancelling) (k : Fin 8) (before after : Line)
    (m : LineNo) : (afterAdjust i k d before after s).line m = s.line m := by
  unfold afterAdjust
  cases d with
  | binned => exact completionCheck_line i s m
  | scrapped => simp only [ho, hs, if_false]; exact scrapLimitCheck_line k _ _ m
  | lineReset => rfl
  | _ => dsimp only; rw [returnCheck_live ho hs]

/-- A unit of a CANCELLING order, freed other than by BINNED or LINE RESET, is followed by the return check. -/
theorem afterAdjust_cancelling (ho : s.order i = some o) (hs : o.state = .cancelling)
    (hd : d ∈ [Disposition.unloaded, .scrapped, .orphaned, .lost]) (k : Fin 8) (before after : Line) :
    afterAdjust i k d before after s = returnCheck i s := by
  unfold afterAdjust
  cases d with
  | binned => simp at hd
  | lineReset => simp at hd
  | scrapped => simp only [ho, hs, if_true]
  | _ => rfl

theorem Line.adjusted_inFlight : (l.adjusted d).inFlight = l.inFlight - 1 := by cases d <;> rfl

/-- An order has another shirt in flight exactly where one of its lines has, the freed unit's counted out. -/
theorem adjustedLine_total (hn : n ∈ o.lines) :
    0 < totalInFlight (adjustedLine d u n l s) o ↔
      1 < l.inFlight ∨ ∃ k ∈ o.lines, k ≠ n ∧ ∃ l', s.line k = some l' ∧ 0 < l'.inFlight := by
  rw [totalInFlight_pos]
  constructor
  · rintro ⟨k, hk, l', hl', h0⟩
    by_cases e : k = n
    · subst e
      rw [adjustedLine_line_same] at hl'
      obtain rfl := Option.some.inj hl'
      rw [Line.adjusted_inFlight] at h0
      exact .inl (by omega)
    · rw [adjustedLine_line_ne e] at hl'
      exact .inr ⟨k, hk, e, l', hl', h0⟩
  · rintro (h1 | ⟨k, hk, e, l', hl', h0⟩)
    · exact ⟨n, hn, _, adjustedLine_line_same, by rw [Line.adjusted_inFlight]; omega⟩
    · exact ⟨k, hk, l', (adjustedLine_line_ne e).trans hl', h0⟩

end

/-! ### The checks of the book -/

theorem allGood_iff (s : State) (o : Order) : allGood s o = true ↔ ∀ l ∈ linesOf s o, l.good = l.quantity := by
  simp [allGood]

/-- What the return of a descriptor leaves, with its notice. -/
theorem freeOrder_spec {s : State} {i : OrderNo} {o : Order} (cause : FreedCause) (ho : s.order i = some o) :
    ∃ t, freeOrder i cause s = post .order (.orderFreed (s.handleOf i) o.webNumber cause) t
      ∧ t.order i = none
      ∧ (t.handleOf i).generation = (if (s.handleOf i).generation = 255 then 1 else (s.handleOf i).generation + 1)
      ∧ (∀ n ∈ o.lines, t.line n = none) ∧ (∀ n : LineNo, n ∉ o.lines → t.line n = s.line n)
      ∧ (∀ a : ArtworkNo, tget t.artworks a =
          { tget s.artworks a with
            refs := (tget s.artworks a).refs - ((s.linesNaming a).filter o.lines.contains).length })
      ∧ (∀ j : OrderNo, j ≠ i → t.order j = s.order j ∧ t.handleOf j = s.handleOf j)
      ∧ t = { s with book := t.book, artworks := t.artworks } := by
  obtain ⟨hnone, hgen, hother, _, _, hline, hrefs, hrest⟩ := returnDescriptor_cases ho
  exact ⟨_, freeOrder_eq cause ho, hnone, hgen, fun n hn => (hline n).trans (if_pos hn),
    fun n hn => (hline n).trans (if_neg hn), hrefs, hother, hrest⟩

/-- Settles O27. -/
theorem freedUnitAndItsOrder : Obligations.FreedUnitAndItsOrder := by
  refine ⟨?_, fun s i o k before after ho => ⟨fun hs hb ha => ?_, fun h => ?_⟩, fun s i o ho => ⟨fun h => ?_, ?_⟩,
    fun s i o cause ho => freeOrder_spec cause ho⟩
  · rintro d u s sh n l m o i hsh rfl ho hn hl hm
    obtain rfl : m = l.adjusted d := hm.trans (by cases d <;> rfl)
    obtain ⟨hgen, hgens⟩ := freeUnit_generation (d := d) hsh
    have mem := mem_of_lineNoOf ho hn
    have freed := freeUnit_eq (d := d) hsh hn hl
    have order : (adjustedLine d u n l s).order sh.order.index = some o := adjustedLine_order.trans ho
    refine ⟨_, rfl, freeUnit_shirt d u s, hgen, fun v hv => ⟨freeUnit_shirt_ne d s hv, hgens v hv⟩, fun pl hpl => ?_,
      freeUnit_queue hsh, (freeUnit_lists (by rw [hsh]; rfl)).2, fun hs => ?_, fun hs hd => ⟨fun hmore => ?_, fun h1 hothers => ?_⟩⟩
    · rw [freeUnit_ring, leavePlaten_unit, hsh]
      exact if_pos hpl
    · have line := afterAdjust_line (d := d) order hs sh.line l (l.adjusted d)
      rw [freed]
      exact ⟨(line n).trans adjustedLine_line_same, fun k hk => (line k).trans (adjustedLine_line_ne hk)⟩
    · have stays : returnCheck sh.order.index (adjustedLine d u n l s) = adjustedLine d u n l s := by
        have more := (adjustedLine_total (d := d) (u := u) mem).mpr hmore
        unfold returnCheck
        simp only [order]
        rw [if_neg (by omega)]
      rw [freed, afterAdjust_cancelling order hs hd, stays]
      exact ⟨order, adjustedLine_line_same, fun k hk => adjustedLine_line_ne hk⟩
    · have none_left : totalInFlight (adjustedLine d u n l s) o = 0 := by
        refine Nat.eq_zero_of_not_pos fun hpos => ?_
        rcases (adjustedLine_total mem).mp hpos with h | ⟨k, hk, e, l', hl', h0⟩
        · omega
        · rw [hothers k hk e l' hl'] at h0
          exact absurd h0 (Nat.lt_irrefl 0)
      have returns : returnCheck sh.order.index (adjustedLine d u n l s)
          = freeOrder sh.order.index .cancelled (adjustedLine d u n l s) := by
        unfold returnCheck
        simp only [order, hs, none_left, and_self, if_true]
      obtain ⟨t, e, hnone, _, hlines, hkept, _, _, hrest⟩ := freeOrder_spec .cancelled order
      rw [freed, afterAdjust_cancelling order hs hd, returns]
      refine ⟨rfl, ?_, fun k hk => ?_, fun k hk => ?_, t.port .order, ?_⟩
      · rw [e]; exact hnone
      · rw [e]; exact hlines k hk
      · rw [e]
        exact (hkept k hk).trans (adjustedLine_line_ne fun h => hk (h ▸ mem))
      · have time : t.time = s.time := by
          rw [hrest]
          exact leavePlace_time u s
        have posted := post_port .order .order (.orderFreed (s.handleOf sh.order.index) o.webNumber .cancelled) t
        rw [if_pos rfl, time] at posted
        rw [e, adjustedLine_handleOf]
        exact posted
  · unfold scrapLimitCheck
    simp only [ho]
    rw [if_pos ⟨hs, hb, ha⟩]
  · unfold scrapLimitCheck
    simp only [ho]
    refine if_neg fun ⟨hs, hb, ha⟩ => ?_
    rcases h with ⟨h1, h2⟩ | h | h
    · exact hs.elim h1 h2
    · omega
    · omega
  · unfold completionCheck
    simp only [ho]
    rw [if_pos ((allGood_iff s o).mpr h)]
  · rintro ⟨l, hl, hne⟩
    unfold completionCheck
    simp only [ho]
    exact if_neg fun h => hne ((allGood_iff s o).mp h l hl)

end Sys2Proof.Machine
end

section
/-! O28: the artwork requests. -/

namespace Sys2Proof.Machine

/-! ### The four requests on an artwork's own number -/

section
variable (p : Port) (s : State) (a : ArtworkNo)

theorem removeArtwork_own :
    removeArtwork p (bytes1 a.val) s =
      if (tget s.artworks a).design.isNone then (.refused .state [], s)
      else if 0 < (tget s.artworks a).refs then (.refused .inUse [], s)
      else (.done [], if (tget s.artworks a).staged then post .engine (.artworkRemoved a) (putArtwork a .empty s)
        else putArtwork a .empty s) := by
  unfold removeArtwork bytes1
  dsimp only
  rw [recordNo_ofNat a (by omega)]
  rfl

theorem artworkStaged_own :
    artworkStaged p (bytes1 a.val) s =
      if (tget s.artworks a).design.isNone then (.refused .state [], s)
      else if (tget s.artworks a).staged then (.condition .already [], s)
      else if 16 ≤ stagedCount s then (.refused .full [], s)
      else (.done [], if awaitsArtwork s a then printStartTest (putArtwork a { tget s.artworks a with staged := true } s)
        else putArtwork a { tget s.artworks a with staged := true } s) := by
  unfold artworkStaged bytes1
  dsimp only
  rw [recordNo_ofNat a (by omega)]
  rfl

theorem artworkEvicted_own :
    artworkEvicted p (bytes1 a.val) s =
      if (tget s.artworks a).design.isNone then (.refused .state [], s)
      else if !(tget s.artworks a).staged then (.condition .already [], s)
      else if Machine.engaged s a then (.refused .inUse [], s)
      else (.done [], putArtwork a { tget s.artworks a with staged := false } s) := by
  unfold artworkEvicted bytes1
  dsimp only
  rw [recordNo_ofNat a (by omega)]
  rfl

theorem coverageOf_bytes {cs : List Coverage} (h : ∀ c ∈ cs, c.white ≤ 255 ∧ c.colour ≤ 255) :
    coverageOf (cs.flatMap coverageBytes) = cs := by
  induction cs with
  | nil => rfl
  | cons c cs ih =>
    obtain ⟨hw, hc⟩ := h c (by simp)
    have white : (BitVec.ofNat 8 c.white).toNat = c.white := by rw [BitVec.toNat_ofNat]; omega
    have colour : (BitVec.ofNat 8 c.colour).toNat = c.colour := by rw [BitVec.toNat_ofNat]; omega
    rw [List.flatMap_cons]
    change { white := (BitVec.ofNat 8 c.white).toNat, colour := (BitVec.ofNat 8 c.colour).toNat }
      :: coverageOf (cs.flatMap coverageBytes) = _
    rw [white, colour, ih fun x hx => h x (by simp [hx])]

theorem defineArtwork_own {d : Design} (hd : d.inRange) :
    defineArtwork p (d.bytes a) s =
      if (tget s.artworks a).design.isSome then (.refused .inUse [], s)
      else (.done [], putArtwork a { design := some d, refs := 0, staged := false } s) := by
  obtain ⟨hb1, hb2, hmask, hw1, hw2, hc1, hc2, hcov⟩ := hd
  have bands : (BitVec.ofNat 8 d.coverage.length).toNat = d.coverage.length := by rw [BitVec.toNat_ofNat]; omega
  have white : (BitVec.ofNat 8 d.whitePasses).toNat = d.whitePasses := by rw [BitVec.toNat_ofNat]; omega
  have colour : (BitVec.ofNat 8 d.colourPasses).toNat = d.colourPasses := by rw [BitVec.toNat_ofNat]; omega
  unfold defineArtwork Design.bytes bytes1
  simp only [List.cons_append, List.nil_append]
  rw [recordNo_ofNat a (by omega)]
  simp only [bands, white, colour, coverageOf_bytes hcov]
  rw [if_neg (by simp only [hmask, false_or]; omega)]
  rfl

end

theorem defineArtwork_badField (p : Port) (s : State) {num bands mask white colour : Byte} {more : List Byte}
    (h : 63 < num.toNat ∨ bands = 0 ∨ 24 < bands.toNat ∨ mask = 0 ∨ white = 0 ∨ 2 < white.toNat ∨ colour = 0
      ∨ 4 < colour.toNat) :
    defineArtwork p (num :: bands :: mask :: white :: colour :: more) s = (.refused .badField [], s) := by
  rw [byte_eq_zero_iff bands, byte_eq_zero_iff white, byte_eq_zero_iff colour] at h
  unfold defineArtwork
  dsimp only
  split
  · rfl
  · next a ha =>
    have small : ¬63 < num.toNat := fun hn => by rw [recordNo_none (by omega)] at ha; cases ha
    rw [if_pos (h.resolve_left small)]
    rfl

/-- A one-byte request refuses an artwork number above 63. -/
theorem artworkRequests_badField {r : Request} (hr : r ∈ [Request.removeArtwork, .artworkStaged, .artworkEvicted])
    (p : Port) (s : State) {num : Byte} (h : 63 < num.toNat) : handlerOf r p [num] s = (.refused .badField [], s) := by
  have none_named : recordNo 64 num = none := recordNo_none (by omega)
  simp only [List.mem_cons, List.not_mem_nil, or_false] at hr
  rcases hr with rfl | rfl | rfl
  · simp only [handlerOf, removeArtwork, none_named]; rfl
  · simp only [handlerOf, artworkStaged, none_named]; rfl
  · simp only [handlerOf, artworkEvicted, none_named]; rfl

theorem working_iff (st : PrintState) :
    st.working = true ↔ st ∈ [PrintState.registering, .passing, .aborting, .parking] := by
  cases st <;> simp [PrintState.working]

theorem engaged_iff (s : State) (a : ArtworkNo) :
    Machine.engaged s a = true
      ↔ s.print.state ∈ [PrintState.registering, .passing, .aborting, .parking] ∧ heldArtwork s = some a := by
  rw [Machine.engaged, Bool.and_eq_true, working_iff, decide_eq_true_eq]

theorem awaitsArtwork_iff (s : State) (a : ArtworkNo) :
    awaitsArtwork s a = true ↔ s.print.state = .waitArtwork ∧ heldArtwork s = some a := by
  simp [awaitsArtwork]

/-- Settles O28. -/
theorem artworkRequests : Obligations.ArtworkRequests := by
  refine ⟨fun s p f rest a => ⟨fun d hoff hd hbody => ?_, fun hoff hbody => ?_⟩,
    fun s p f rest a hbody hdes => ⟨fun hoff => ?_, fun hoff => ?_⟩,
    fun s p f rest => ⟨fun num bands mask white colour more hoff hbody hbad => ?_,
      fun r num hr hoff hbody hbad => ?_, fun r a hr hoff hbody hdes => ?_⟩⟩
  · have row := defineArtwork_own p (s.without p rest) a hd
    rw [← hbody] at row
    refine ⟨fun h => exec_offered hoff (r := .defineArtwork) (row.trans (if_neg ?_)),
      fun h => exec_offered hoff (r := .defineArtwork) (row.trans (if_pos h))⟩
    rw [State.without_artworks, h]
    simp
  · have row := removeArtwork_own p (s.without p rest) a
    rw [← hbody] at row
    refine ⟨fun h => exec_offered hoff (r := .removeArtwork) (row.trans (if_pos ?_)), fun h hr => ?_, fun h hr hst => ?_,
      fun h hr hst => ?_⟩
    · rw [State.without_artworks, h]; rfl
    all_goals
      rw [State.without_artworks, Option.isNone_eq_false_iff.mpr h, if_neg Bool.false_ne_true] at row
    · exact exec_offered hoff (r := .removeArtwork) (row.trans (if_pos hr))
    · rw [hr, hst] at row
      exact exec_offered hoff (r := .removeArtwork) row
    · rw [hr, hst] at row
      exact exec_offered hoff (r := .removeArtwork) row
  · have row := artworkStaged_own p (s.without p rest) a
    rw [← hbody, State.without_artworks, Option.isNone_eq_false_iff.mpr hdes, if_neg Bool.false_ne_true] at row
    have waits : awaitsArtwork (s.without p rest) a = true ↔ _ := awaitsArtwork_iff s a
    refine ⟨fun h => exec_offered hoff (r := .artworkStaged) (row.trans (if_pos h)), fun h hc => ?_, fun h hc hw => ?_,
      fun h hc hst hh => ?_⟩
    all_goals rw [h, if_neg Bool.false_ne_true] at row
    · exact exec_offered hoff (r := .artworkStaged) (row.trans (if_pos hc))
    · rw [if_neg (show ¬16 ≤ stagedCount (s.without p rest) from Nat.not_le.mpr hc), if_neg (mt waits.mp hw)] at row
      exact exec_offered hoff (r := .artworkStaged) row
    · rw [if_neg (show ¬16 ≤ stagedCount (s.without p rest) from Nat.not_le.mpr hc), if_pos (waits.mpr ⟨hst, hh⟩)] at row
      exact exec_offered hoff (r := .artworkStaged) row
  · have row := artworkEvicted_own p (s.without p rest) a
    rw [← hbody, State.without_artworks, Option.isNone_eq_false_iff.mpr hdes, if_neg Bool.false_ne_true] at row
    have engages : Machine.engaged (s.without p rest) a = true ↔ _ := engaged_iff s a
    refine ⟨fun h => ?_, fun h hs hh => ?_, fun h hn => ?_⟩
    all_goals rw [h] at row
    · exact exec_offered hoff (r := .artworkEvicted) row
    · exact exec_offered hoff (r := .artworkEvicted) (row.trans (if_pos (engages.mpr ⟨hs, hh⟩)))
    · exact exec_offered hoff (r := .artworkEvicted) (row.trans (if_neg (mt engages.mp hn)))
  · refine exec_offered hoff (r := .defineArtwork) ?_
    rw [hbody]
    exact defineArtwork_badField p _ hbad
  · refine exec_offered hoff ?_
    rw [hbody]
    exact artworkRequests_badField hr p _ hbad
  · refine exec_offered hoff ?_
    have empty : (tget (s.without p rest).artworks a).design.isNone = true := by rw [State.without_artworks, hdes]; rfl
    simp only [List.mem_cons, List.not_mem_nil, or_false] at hr
    rw [hbody]
    rcases hr with rfl | rfl
    · exact (artworkStaged_own p (s.without p rest) a).trans (if_pos empty)
    · exact (artworkEvicted_own p (s.without p rest) a).trans (if_pos empty)

end Sys2Proof.Machine
end

section
/-! O29 to O32: the candidate search, LOAD, UNLOAD and BYPASS PRETREAT, and the table writes of chapters 3 and 4. -/

namespace Sys2Proof.Machine

/-! ### The candidate search -/

/-- What the candidate search takes of one line of an order. -/
def wantedLine (s : State) (k : Sku) (i : OrderNo) (n : LineNo) : Option (OrderNo × LineNo × Line) :=
  (s.line n).bind fun l => if l.sku = k ∧ 0 < l.need then some (i, n, l) else none

theorem candidateIn_eq (s : State) (k : Sku) (i : OrderNo) :
    candidateIn s k i = (s.order i).bind fun o => o.lines.findSome? (wantedLine s k i) := by
  have each : ∀ n, wantedLine s k i n = (s.line n).bind fun l =>
      if l.sku = k ∧ 0 < l.need then some (i, n, l) else none := fun _ => rfl
  unfold candidateIn
  congr 1
  funext o
  congr 1
  funext n
  rw [each]
  cases s.line n <;> rfl

theorem wantedLine_eq_some {s : State} {k : Sku} {i j : OrderNo} {n m : LineNo} {l : Line}
    (h : wantedLine s k i n = some (j, m, l)) : i = j ∧ n = m ∧ s.line n = some l ∧ l.sku = k ∧ 0 < l.need := by
  obtain ⟨l', hl, hw⟩ := Option.bind_eq_some_iff.mp h
  split at hw
  · next wanted =>
    obtain ⟨hi, hn, rfl⟩ : i = j ∧ n = m ∧ l' = l := by simpa using hw
    exact ⟨hi, hn, hl, wanted⟩
  · cases hw

theorem wantedLine_eq_none {s : State} {k : Sku} {i : OrderNo} {n : LineNo} (h : wantedLine s k i n = none) {l : Line}
    (hl : s.line n = some l) : ¬(l.sku = k ∧ 0 < l.need) := fun wanted => by
  rw [wantedLine, hl, Option.bind_some, if_pos wanted] at h
  cases h

theorem candidateIn_eq_some {s : State} {k : Sku} {i j : OrderNo} {n : LineNo} {l : Line}
    (h : candidateIn s k j = some (i, n, l)) :
    j = i ∧ s.line n = some l ∧ l.sku = k ∧ 0 < l.need
      ∧ ∃ (o : Order) (first last : List LineNo), s.order j = some o ∧ o.lines = first ++ n :: last
        ∧ ∀ m ∈ first, wantedLine s k j m = none := by
  rw [candidateIn_eq] at h
  obtain ⟨o, ho, hf⟩ := Option.bind_eq_some_iff.mp h
  obtain ⟨first, m, last, hlines, hm, hfirst⟩ := List.findSome?_eq_some_iff.mp hf
  obtain ⟨hi, rfl, hl, hk, hneed⟩ := wantedLine_eq_some hm
  exact ⟨hi, hl, hk, hneed, o, first, last, ho, hlines, hfirst⟩

theorem candidateIn_eq_none {s : State} {k : Sku} {i : OrderNo} (h : candidateIn s k i = none) {o : Order}
    (ho : s.order i = some o) {n : LineNo} (hn : n ∈ o.lines) : wantedLine s k i n = none := by
  rw [candidateIn_eq, ho, Option.bind_some] at h
  exact List.findSome?_eq_none_iff.mp h n hn

/-- Settles O29. -/
theorem candidateIsFirst : Obligations.CandidateIsFirst := by
  refine fun s k => ⟨fun i n l h => ?_, fun h i hi o ho n hn l hl => ?_⟩
  · obtain ⟨before, j, after, hactive, hj, hbefore⟩ := List.findSome?_eq_some_iff.mp h
    obtain ⟨rfl, hl, hk, hneed, o, first, last, ho, hlines, hfirst⟩ := candidateIn_eq_some hj
    exact ⟨hl, hk, hneed, before, after, o, first, last, hactive, ho, hlines, hbefore,
      fun m hm l' hl' => wantedLine_eq_none (hfirst m hm) hl'⟩
  · have inOrder := List.findSome?_eq_none_iff.mp h i hi
    exact wantedLine_eq_none (candidateIn_eq_none inOrder ho hn) hl

/-! ### LOAD -/

theorem skuOf_bytes (k : Sku) :
    skuOf (BitVec.ofNat 8 k.fabric.val) (BitVec.ofNat 8 k.colour.val) (BitVec.ofNat 8 k.size.val) = some k := by
  unfold skuOf
  rw [recordNo_ofNat k.fabric (by omega), recordNo_ofNat k.colour (by omega), recordNo_ofNat k.size (by omega)]
  rfl

theorem skuOf_eq_none {fb c z : Byte} (h : 7 < fb.toNat ∨ 63 < c.toNat ∨ 7 < z.toNat) : skuOf fb c z = none := by
  unfold skuOf
  by_cases fabric : 7 < fb.toNat
  · rw [recordNo_none (n := 8) (by omega)]; rfl
  rw [recordNo_val (n := 8) (i := ⟨fb.toNat, by omega⟩) rfl]
  by_cases colour : 63 < c.toNat
  · rw [recordNo_none (n := 64) (by omega)]; rfl
  rw [recordNo_val (n := 64) (i := ⟨c.toNat, by omega⟩) rfl, recordNo_none (n := 8) (by omega)]
  rfl

section
variable (p : Port) (s : State)

theorem load_three (a b c : Byte) :
    load p [a, b, c] s =
      if s.ring.state = .moving then (.refused .moving [], s)
      else if s.load.quiesce ≠ .running then (.refused .quiesced [], s)
      else ((platenAt s loadPosition).map fun pl => loadOn pl a b c s).getD (.refused .platen [], s) := by
  unfold load
  cases platenAt s loadPosition <;> rfl

variable {s}

theorem load_ready {pl : PlatenNo} {a b c : Byte} (hm : s.ring.state = .still) (hq : s.load.quiesce = .running)
    (hp : platenAt s 0 = some pl) : load p [a, b, c] s = loadOn pl a b c s := by
  have named : platenAt s loadPosition = some pl := hp
  rw [load_three, hm, hq, named]
  rfl

end

section
variable {s : State} {pl : PlatenNo}

theorem loadOn_disabled (a b c : Byte) (h : (tget s.ring.platens pl).enabled = false) :
    loadOn pl a b c s = (.refused .platen [], s) := by
  unfold loadOn
  dsimp only
  rw [h]
  rfl

theorem loadOn_occupied (a b c : Byte) (he : (tget s.ring.platens pl).enabled = true)
    (hu : (tget s.ring.platens pl).unit.isSome = true) : loadOn pl a b c s = (.refused .occupied [], s) := by
  unfold loadOn
  dsimp only
  rw [he, hu]
  rfl

theorem loadOn_badField {a b c : Byte} (he : (tget s.ring.platens pl).enabled = true)
    (hu : (tget s.ring.platens pl).unit = none) (h : 7 < a.toNat ∨ 63 < b.toNat ∨ 7 < c.toNat) :
    loadOn pl a b c s = (.refused .badField [], s) := by
  unfold loadOn
  dsimp only
  rw [he, hu, skuOf_eq_none h]
  rfl

variable {k : Sku} (p : Port) (hm : s.ring.state = .still) (hq : s.load.quiesce = .running)
  (hp : platenAt s 0 = some pl) (he : (tget s.ring.platens pl).enabled = true)
  (hu : (tget s.ring.platens pl).unit = none)
include hm hq hp he hu

theorem load_noDemand (h : candidate s k = none) : load p (skuBytes k) s = (.refused .noDemand [], s) := by
  refine (load_ready p hm hq hp).trans ?_
  unfold loadOn
  dsimp only
  rw [he, hu, skuOf_bytes]
  dsimp only
  rw [h]
  rfl

theorem load_candidate {i : OrderNo} {n : LineNo} {l : Line} (h : candidate s k = some (i, n, l)) :
    load p (skuBytes k) s = loadCandidate pl i n l s := by
  refine (load_ready p hm hq hp).trans ?_
  unfold loadOn
  dsimp only
  rw [he, hu, skuOf_bytes]
  dsimp only
  rw [h]
  rfl

end

section
variable {s : State} {pl : PlatenNo} (i : OrderNo) (n : LineNo) {l : Line} {d : Design}
  (hd : (tget s.artworks l.artwork).design = some d)
include hd

theorem loadCandidate_class (h : (tget s.ring.platens pl).sizeClass ≠ tget s.load.sizeMap l.sku.size) :
    loadCandidate pl i n l s =
      (.refused .platenClass ([0] ++ bytes1 (tget s.load.sizeMap l.sku.size).code
        ++ bytes1 (tget s.ring.platens pl).sizeClass.code ++ bytes1 d.coverage.length
        ++ handleBytes (s.handleOf i) ++ bytes1 l.position.val), s) := by
  unfold loadCandidate
  dsimp only
  rw [if_pos h, hd]
  rfl

theorem loadCandidate_capacity (h : (tget s.ring.platens pl).sizeClass = tget s.load.sizeMap l.sku.size)
    (hc : (tget s.load.sizeMap l.sku.size).capacity < d.coverage.length) :
    loadCandidate pl i n l s =
      (.refused .platenClass ([1] ++ bytes1 (tget s.load.sizeMap l.sku.size).code
        ++ bytes1 (tget s.ring.platens pl).sizeClass.code ++ bytes1 d.coverage.length
        ++ handleBytes (s.handleOf i) ++ bytes1 l.position.val), s) := by
  unfold loadCandidate
  dsimp only
  rw [if_neg (not_not.mpr h), hd]
  exact if_pos hc

theorem loadCandidate_accepted {o : Order} {u : UnitNo}
    (h : (tget s.ring.platens pl).sizeClass = tget s.load.sizeMap l.sku.size)
    (hc : d.coverage.length ≤ (tget s.load.sizeMap l.sku.size).capacity) (ho : s.order i = some o)
    (hu : s.shirt u = none) (hlow : ∀ v : UnitNo, v < u → (s.shirt v).isSome = true) :
    loadCandidate pl i n l s = (.done (loadResults u i o l s), acceptLoad u pl i n l s) := by
  have free : lowestFreeUnit s = some u :=
    lowest_eq_some (Option.isNone_iff_eq_none.mpr hu) fun v hv => Option.isNone_eq_false_iff.mpr (hlow v hv)
  unfold loadCandidate
  dsimp only
  rw [if_neg (not_not.mpr h), hd, free, ho]
  exact if_neg (Nat.not_lt.mpr hc)

end

/-- Settles O30. -/
theorem loadByItsChecks : Obligations.LoadByItsChecks := by
  refine ⟨fun s p f rest pl hoff => ?_, fun s p f rest k pl i n l o u d hoff hbody hm hq hp he hu hc ho hd hcls hcap hfree hlow => ?_⟩
  · have length : f.body.length = 3 := by simpa [Request.lengthOk] using hoff.2.2.2.2
    obtain ⟨a, b, c, three⟩ := List.length_eq_three.mp length
    have row := load_three p (s.without p rest) a b c
    have ready := load_ready (s := s.without p rest) (pl := pl) (a := a) (b := b) (c := c) p
    rw [← three] at row ready
    refine ⟨fun hm => exec_offered hoff (r := .load) (row.trans (if_pos hm)), fun hm hq => ?_, fun hm hq hp =>
      ⟨fun he => ?_, fun he hu => ?_, fun fb c z hbody hbad he hu => ?_, fun k hbody he hu => ⟨fun hc => ?_,
        fun i n l d hc hd => ?_⟩⟩⟩
    · rw [State.without_ring, hm, if_neg (by decide)] at row
      exact exec_offered hoff (r := .load) (row.trans (if_pos hq))
    · exact exec_offered hoff (r := .load) ((ready hm hq hp).trans (loadOn_disabled a b _ he))
    · exact exec_offered hoff (r := .load) ((ready hm hq hp).trans (loadOn_occupied a b _ he hu))
    · refine exec_offered hoff (r := .load) ?_
      rw [hbody]
      exact (load_ready (s := s.without p rest) p hm hq hp).trans (loadOn_badField he hu hbad)
    · refine exec_offered hoff (r := .load) ?_
      rw [hbody]
      exact load_noDemand (s := s.without p rest) p hm hq hp he hu hc
    · have sku : l.sku = k := (candidateIsFirst s k).1 i n l hc |>.2.1
      have row : handlerOf .load p f.body (s.without p rest) = loadCandidate pl i n l (s.without p rest) := by
        rw [hbody]
        exact load_candidate (s := s.without p rest) p hm hq hp he hu hc
      subst sku
      exact ⟨fun h => exec_offered hoff (row.trans (loadCandidate_class i n hd h)),
        fun h hcap => exec_offered hoff (row.trans (loadCandidate_capacity i n hd h hcap))⟩
  · have sku : l.sku = k := (candidateIsFirst s k).1 i n l hc |>.2.1
    refine exec_offered hoff (r := .load) ?_
    rw [hbody]
    subst sku
    exact (load_candidate (s := s.without p rest) p hm hq hp he hu hc).trans (loadCandidate_accepted (s := s.without p rest) i n hd hcls hcap ho hfree hlow)

/-! ### UNLOAD and BYPASS PRETREAT -/

section
variable (p : Port) {s : State} {u : UnitNo} {sh : Shirt} (hg : s.generation u ≤ 1023) (h : s.shirt u = some sh)
include h

theorem setBypassed_eq :
    setBypassed u s = putShirt u (some { sh with flags := { sh.flags with bypassed := true } }) s :=
  modifyShirt_some _ h

include hg

theorem unload_own :
    unload p (tagBytes (s.tagOf u)) s =
      if s.ring.state = .moving then (.refused .moving [], s)
      else if sh.state ≠ .loaded ∨ positionOf s sh ≠ some loadPosition then (.refused .state [], s)
      else (.done (unloadResults s sh), freeUnit .unloaded u s) := by
  unfold unload tagBytes bytes2
  dsimp only
  rw [withTag_own hg h]
  rfl

theorem bypassPretreat_own :
    bypassPretreat p (tagBytes (s.tagOf u)) s =
      if sh.state ≠ .loaded then (.refused .state [], s)
      else if sh.flags.bypassed then (.condition .already [], s)
      else ((positionOf s sh).map fun pos =>
        if 3 < pos.val then (.refused .state [], s)
        else (.done [], if pretreatHolds s u then
            pretreatRelease (putShirt u (some { sh with flags := { sh.flags with bypassed := true } }) s)
          else putShirt u (some { sh with flags := { sh.flags with bypassed := true } }) s)).getD (.refused .state [], s) := by
  unfold bypassPretreat tagBytes bytes2
  dsimp only
  rw [withTag_own hg h, setBypassed_eq h]
  cases positionOf s sh with
  | none => rfl
  | some pos => cases pretreatHolds s u <;> rfl

end

theorem positionOf_platen {s : State} {sh : Shirt} {pl : PlatenNo} (h : sh.platen = some pl) :
    positionOf s sh = some (tget s.ring.platens pl).position := by
  rw [positionOf, h]
  rfl

theorem positionOf_none {s : State} {sh : Shirt} (h : sh.platen = none) : positionOf s sh = none := by
  rw [positionOf, h]
  rfl

theorem unloadResults_eq {s : State} {sh : Shirt} {l : Line} (h : lineOf s sh = some l) :
    unloadResults s sh = handleBytes sh.order ++ bytes1 sh.line.val ++ bytes1 (l.quantity - l.good - (l.inFlight - 1)) := by
  rw [unloadResults, lineAfter, h]
  rfl

/-- Settles O31. -/
theorem unloadAndBypass : Obligations.UnloadAndBypass := by
  intro s p f rest u sh hbody hg hsh
  have unloaded := unload_own (s := s.without p rest) p hg hsh
  have bypassed := bypassPretreat_own (s := s.without p rest) p hg hsh
  rw [State.without_tagOf, ← hbody] at unloaded bypassed
  refine ⟨fun pl hpl => ⟨fun hoff => ⟨fun hm => ?_, fun hm hn => ?_, fun hm hst hpos l hl => ?_⟩, fun hoff => ?_⟩,
    fun hpl => ⟨fun hoff => ⟨fun hm => ?_, fun hm => ?_⟩, fun hoff => ?_⟩⟩
  · exact exec_offered hoff (r := .unload) (unloaded.trans (if_pos hm))
  · rw [State.without_ring, hm, if_neg (by decide), positionOf_platen hpl] at unloaded
    exact exec_offered hoff (r := .unload) (unloaded.trans (if_pos (hn.imp_right fun hp e => hp (Option.some.inj e))))
  · have row : lineOf (s.without p rest) sh = some l := hl
    rw [State.without_ring, hm, if_neg (by decide), positionOf_platen hpl, State.without_ring, hpos, hst,
      if_neg (by decide), unloadResults_eq row] at unloaded
    exact exec_offered hoff (r := .unload) unloaded
  · rw [positionOf_platen hpl, State.without_ring] at bypassed
    have holds : pretreatHolds (s.without p rest) u = pretreatHolds s u := rfl
    refine ⟨fun hst => exec_offered hoff (r := .bypassPretreat) (bypassed.trans (if_pos hst)), fun hst hf => ?_,
      fun hst hf hpos => ?_, fun hst hf hpos => ⟨fun hh => ?_, fun hh => ?_⟩⟩
    all_goals rw [if_neg (not_not.mpr hst), hf] at bypassed
    · exact exec_offered hoff (r := .bypassPretreat) bypassed
    · exact exec_offered hoff (r := .bypassPretreat) (bypassed.trans (if_pos hpos))
    all_goals
      rw [if_neg Bool.false_ne_true, Option.map_some, Option.getD_some, if_neg (Nat.not_lt.mpr hpos), holds, hh] at bypassed
      exact exec_offered hoff (r := .bypassPretreat) bypassed
  · exact exec_offered hoff (r := .unload) (unloaded.trans (if_pos hm))
  · rw [State.without_ring, hm, if_neg (by decide), positionOf_none hpl] at unloaded
    exact exec_offered hoff (r := .unload) (unloaded.trans (if_pos (.inr (by simp))))
  · rw [positionOf_none hpl] at bypassed
    refine ⟨fun hst => exec_offered hoff (r := .bypassPretreat) (bypassed.trans (if_pos hst)), fun hst hf => ?_,
      fun hst hf => ?_⟩
    all_goals
      rw [if_neg (not_not.mpr hst), hf] at bypassed
      exact exec_offered hoff (r := .bypassPretreat) bypassed

/-! ### The table writes -/

section
variable (p : Port) (s : State)

theorem writeColourTable_own (first : Byte) (vals : List Byte) :
    writeColourTable p (first :: vals) s =
      if 63 < first.toNat ∨ vals = [] ∨ 64 < first.toNat + vals.length then (.refused .badField [], s)
      else if s.load.quiesce ≠ .quiesced then (.refused .notQuiesced [], s)
      else (.done [], s.setLoad
        { s.load with colours := writeRun s.load.colours first.toNat (vals.map BitVec.toNat) }) := rfl

theorem writeSizeMap_own {b c : Byte} {z : Fin 8} {cls : SizeClass} (hb : b.toNat = z.val) (hc : c.toNat = cls.code) :
    writeSizeMap p [b, c] s =
      if s.load.quiesce ≠ .quiesced then (.refused .notQuiesced [], s)
      else (.done [], s.setLoad { s.load with sizeMap := tset s.load.sizeMap z cls }) := by
  unfold writeSizeMap
  dsimp only
  rw [recordNo_val hb, sizeClassOf_eq_some hc]
  rfl

theorem writeSizeMap_badField {b c : Byte} (h : 7 < b.toNat ∨ 2 < c.toNat) :
    writeSizeMap p [b, c] s = (.refused .badField [], s) := by
  unfold writeSizeMap
  dsimp only
  obtain hb | hc := h
  · rw [recordNo_none (by omega)]
    rfl
  · rw [sizeClassOf_eq_none hc]
    cases recordNo 8 b <;> rfl

theorem writeDarkThreshold_own (b : Byte) :
    writeDarkThreshold p [b] s =
      if s.load.quiesce ≠ .quiesced then (.refused .notQuiesced [], s)
      else (.done [], s.setLoad { s.load with darkThreshold := b.toNat }) := rfl

theorem writeScrapLimit_own (b : Byte) :
    writeScrapLimit p [b] s =
      if 7 < b.toNat then (.refused .badField [], s)
      else if s.load.quiesce ≠ .quiesced then (.refused .notQuiesced [], s)
      else (.done [], s.setLoad { s.load with scrapLimit := b.toNat }) := rfl

theorem numbers2_bytes2 {ns : List Nat} (h : ∀ n ∈ ns, n < 65536) : numbers2 (ns.flatMap bytes2) = ns := by
  induction ns with
  | nil => rfl
  | cons n ns ih =>
    obtain ⟨hn, hns⟩ := List.forall_mem_cons.mp h
    change number2 (BitVec.ofNat 8 (n / 256)) (BitVec.ofNat 8 n) :: numbers2 (ns.flatMap bytes2) = n :: ns
    rw [number2_bytes2 hn, ih hns]

theorem writeDoseTable_own (first : Byte) {ds : List Nat} (h : ∀ d ∈ ds, d < 65536) :
    writeDoseTable p (first :: ds.flatMap bytes2) s =
      if 7 < first.toNat ∨ ds = [] ∨ 8 < first.toNat + ds.length ∨ ∃ d ∈ ds, 400 < d then (.refused .badField [], s)
      else if s.pretreat.quiesce ≠ .quiesced then (.refused .notQuiesced [], s)
      else (.done [], s.setPretreat { s.pretreat with doses := writeRun s.pretreat.doses first.toNat ds }) := by
  unfold writeDoseTable
  dsimp only
  rw [numbers2_bytes2 h]
  simp only [List.any_eq_true, decide_eq_true_eq]
  rfl

end

/-- A run of values stands in the entries from `first` onward, and the others are kept. -/
theorem tget_writeRun_run {n : Nat} (v : Vector Nat n) (first : Nat) (vals : List Nat) (i : Fin n) :
    tget (writeRun v first vals) i =
      if first ≤ i.val ∧ i.val < first + vals.length then vals.getD (i.val - first) 0 else tget v i := by
  rw [tget_writeRun]
  by_cases hf : first ≤ i.val
  · by_cases hl : i.val < first + vals.length
    · have inside : i.val - first < vals.length := by omega
      rw [if_pos hf, if_pos ⟨hf, hl⟩, List.getD_eq_getElem?_getD, List.getElem?_eq_getElem inside]
      rfl
    · have outside : vals.length ≤ i.val - first := by omega
      rw [if_pos hf, if_neg fun both => hl both.2, List.getElem?_eq_none outside]
      rfl
  · rw [if_neg hf, if_neg fun both => hf both.1]

/-- Settles O32. -/
theorem loadAndDoseTableWrites : Obligations.LoadAndDoseTableWrites := by
  rintro s p f rest s0 rfl
  refine ⟨fun first vals hoff hbody => ?_, fun b c hoff hbody => ⟨fun hbad => ?_, fun z cls hb hc => ?_⟩,
    fun b hoff hbody => ?_, fun b hoff hbody => ?_, fun first ds hoff hbody hds => ?_⟩
  · have row := writeColourTable_own p (s.without p rest) first vals
    rw [← hbody] at row
    refine ⟨fun hbad => exec_offered hoff (r := .writeColourTable) (row.trans (if_pos hbad)), fun hv hl hq => ?_,
      fun hv hl hq => ⟨writeRun s.load.colours first.toNat (vals.map BitVec.toNat), ?_, fun c => ?_⟩⟩
    · have some_named : 0 < vals.length := List.length_pos_iff.mpr hv
      rw [if_neg (by simp only [hv, false_or]; omega)] at row
      exact exec_offered hoff (r := .writeColourTable) (row.trans (if_pos hq))
    · have some_named : 0 < vals.length := List.length_pos_iff.mpr hv
      rw [if_neg (by simp only [hv, false_or]; omega)] at row
      exact exec_offered hoff (r := .writeColourTable) (row.trans (if_neg (not_not.mpr hq)))
    · rw [tget_writeRun_run, List.length_map]
      exact congrArg (ite _ · _) (List.getD_map vals (0 : Byte) BitVec.toNat)
  · refine exec_offered hoff (r := .writeSizeMap) ?_
    rw [hbody]
    exact writeSizeMap_badField p _ hbad
  · have row := writeSizeMap_own p (s.without p rest) hb hc
    rw [← hbody] at row
    exact ⟨fun hq => exec_offered hoff (r := .writeSizeMap) (row.trans (if_pos hq)),
      fun hq => exec_offered hoff (r := .writeSizeMap) (row.trans (if_neg (not_not.mpr hq)))⟩
  · have row := writeDarkThreshold_own p (s.without p rest) b
    rw [← hbody] at row
    exact ⟨fun hq => exec_offered hoff (r := .writeDarkThreshold) (row.trans (if_pos hq)),
      fun hq => exec_offered hoff (r := .writeDarkThreshold) (row.trans (if_neg (not_not.mpr hq)))⟩
  · have row := writeScrapLimit_own p (s.without p rest) b
    rw [← hbody] at row
    refine ⟨fun hbad => exec_offered hoff (r := .writeScrapLimit) (row.trans (if_pos hbad)), fun hb hq => ?_, fun hb hq => ?_⟩
    all_goals rw [if_neg (Nat.not_lt.mpr hb)] at row
    · exact exec_offered hoff (r := .writeScrapLimit) (row.trans (if_pos hq))
    · exact exec_offered hoff (r := .writeScrapLimit) (row.trans (if_neg (not_not.mpr hq)))
  · have row := writeDoseTable_own p (s.without p rest) first hds
    rw [← hbody] at row
    refine ⟨fun hbad => exec_offered hoff (r := .writeDoseTable) (row.trans (if_pos hbad)), fun hv hl hr hq => ?_,
      fun hv hl hr hq => ⟨writeRun s.pretreat.doses first.toNat ds, ?_, fun c => tget_writeRun_run _ _ _ c⟩⟩
    all_goals
      have some_named : 0 < ds.length := List.length_pos_iff.mpr hv
      have in_range : ¬∃ d ∈ ds, 400 < d := fun ⟨d, hd, big⟩ => absurd (hr d hd) (Nat.not_le.mpr big)
      rw [if_neg (by simp only [hv, in_range, or_false, false_or]; omega)] at row
    · exact exec_offered hoff (r := .writeDoseTable) (row.trans (if_pos hq))
    · exact exec_offered hoff (r := .writeDoseTable) (row.trans (if_neg (not_not.mpr hq)))

end Sys2Proof.Machine
end

section
/-! O33 and O34: the dose arithmetic, a unit's spray plan, the Pretreat station's start test and the handing over of
a plan. -/

namespace Sys2Proof.Machine

/-! ### The stages of R64 -/

theorem bandDose_eq (i : DoseInputs) (c : Coverage) :
    bandDose i c =
      if effectiveCoverage i.dark c = 0
        ∨ rawDose i.base (darknessScale i.darkness) (coverageScale (effectiveCoverage i.dark c)) = 0 then 0
      else max (rawDose i.base (darknessScale i.darkness) (coverageScale (effectiveCoverage i.dark c))) i.minDose := by
  unfold bandDose
  dsimp only
  by_cases he : effectiveCoverage i.dark c = 0
  · rw [if_pos he, if_pos (Or.inl he)]
  generalize rawDose i.base (darknessScale i.darkness) (coverageScale (effectiveCoverage i.dark c)) = raw
  by_cases hr : raw = 0
  · rw [if_neg he, if_pos hr, if_pos (Or.inr hr)]
  rw [if_neg he, if_neg hr, if_neg (not_or.mpr ⟨he, hr⟩)]
  split <;> omega

/-- The raw dose of inputs in their ranges. -/
theorem rawDose_le {base darkness e : Nat} (hb : base ≤ 400) (hd : darkness ≤ 255) (he : e ≤ 255) :
    rawDose base (darknessScale darkness) (coverageScale e) ≤ 397 := by
  have scale : darknessScale darkness ≤ 255 := by unfold darknessScale; omega
  have coverage : coverageScale e ≤ 255 := by unfold coverageScale; omega
  have product : base * darknessScale darkness * coverageScale e ≤ 400 * 255 * 255 :=
    Nat.mul_le_mul (Nat.mul_le_mul hb scale) coverage
  unfold rawDose
  omega

theorem bandDose_le {i : DoseInputs} {c : Coverage} (hb : i.base ≤ 400) (hd : i.darkness ≤ 255) (hm : i.minDose ≤ 100)
    (hw : c.white ≤ 255) (hc : c.colour ≤ 255) : bandDose i c ≤ 397 := by
  have covered : effectiveCoverage i.dark c ≤ 255 := by unfold effectiveCoverage; split <;> assumption
  have raw := rawDose_le hb hd covered
  rw [bandDose_eq]
  split <;> omega

/-! ### The sweep count of R65 -/

theorem sweepsFor_le_iff {d p n : Nat} (hp : 0 < p) : sweepsFor d p ≤ n ↔ d ≤ n * p := by
  rw [sweepsFor, ← Nat.lt_succ_iff, Nat.div_lt_iff_lt_mul hp, Nat.succ_mul]
  omega

theorem lt_sweepsFor_iff {d p n : Nat} (hp : 0 < p) : n < sweepsFor d p ↔ n * p < d := by
  rw [← not_le, sweepsFor_le_iff hp, not_le]

theorem bandSaturated_iff {i : DoseInputs} (c : Coverage) (hp : 0 < i.passCapacity) :
    bandSaturated i c = true ↔ 3 * i.passCapacity < bandDose i c := by
  rw [bandSaturated, decide_eq_true_eq]
  exact lt_sweepsFor_iff hp

theorem bandSaturated_eq_false {i : DoseInputs} {c : Coverage} (h : bandDose i c = 0) : bandSaturated i c = false := by
  have small : (0 + i.passCapacity - 1) / i.passCapacity < 4 := by
    obtain hp | hp := Nat.eq_zero_or_pos i.passCapacity
    · rw [hp]; decide
    · rw [Nat.div_eq_of_lt (by omega)]; decide
  rw [bandSaturated, h, sweepsFor, decide_eq_false_iff_not]
  exact Nat.not_lt.mpr (Nat.lt_succ_iff.mp small)

/-! ### A band's plan -/

theorem bandPlan_dry {i : DoseInputs} {c : Coverage} (h : bandDose i c = 0) :
    bandPlan i c = { sweeps := 0, duty := 0, delivered := 0, fluid := 0 } := if_pos h

/-- A sprayed band takes the sweeps its dose wants, at most 3, and the dose those deliver at full duty at most. -/
theorem bandPlan_sprayed {i : DoseInputs} {c : Coverage} (hp : 0 < i.passCapacity) (hd : 0 < bandDose i c) :
    bandPlan i c = sprayedBand i (min (sweepsFor (bandDose i c) i.passCapacity) 3)
      (min (bandDose i c) (3 * i.passCapacity)) := by
  unfold bandPlan
  dsimp only
  rw [if_neg (by omega)]
  by_cases hs : 3 * i.passCapacity < bandDose i c
  · have sweeps : 3 < sweepsFor (bandDose i c) i.passCapacity := (lt_sweepsFor_iff hp).mpr hs
    rw [if_pos ((bandSaturated_iff c hp).mpr hs), min_eq_right sweeps.le, min_eq_right hs.le]
    rfl
  · have sweeps : sweepsFor (bandDose i c) i.passCapacity ≤ 3 := (sweepsFor_le_iff hp).mpr (Nat.not_lt.mp hs)
    rw [if_neg (mt (bandSaturated_iff c hp).mp hs), min_eq_left sweeps, min_eq_left (Nat.not_lt.mp hs)]

/-- What a dose and the sweeps that carry it are to each other: 1 to 3 sweeps, one fewer carrying less. -/
theorem sweeps_carry_dose {d p : Nat} (hp : 0 < p) (hd : 0 < d) :
    0 < min (sweepsFor d p) 3 ∧ min d (3 * p) ≤ min (sweepsFor d p) 3 * p
      ∧ (min (sweepsFor d p) 3 - 1) * p < min d (3 * p) := by
  have least : 0 < sweepsFor d p := (lt_sweepsFor_iff hp).mpr (by omega)
  by_cases hs : 3 < sweepsFor d p
  · have := (lt_sweepsFor_iff hp).mp hs
    rw [min_eq_right hs.le, min_eq_right this.le]
    omega
  · have reach : d ≤ sweepsFor d p * p := (sweepsFor_le_iff hp).mp le_rfl
    have below : (sweepsFor d p - 1) * p < d := (lt_sweepsFor_iff hp).mp (by omega)
    have three : d ≤ 3 * p := (sweepsFor_le_iff hp).mp (by omega)
    rw [min_eq_left (by omega), min_eq_left three]
    exact ⟨least, reach, below⟩

theorem valveDuty_le {d capacity : Nat} (hc : 0 < capacity) (h : d ≤ capacity) : valveDuty d capacity ≤ 255 := by
  rw [valveDuty, ← Nat.lt_succ_iff, Nat.div_lt_iff_lt_mul hc]
  omega

theorem valveDuty_pos {d capacity : Nat} (hc : 0 < capacity) (h : capacity ≤ d * 255) : 0 < valveDuty d capacity :=
  Nat.div_pos (h.trans (Nat.le_add_right ..)) hc

theorem valveDuty_full {d : Nat} (h : 0 < d) : valveDuty d d = 255 := by
  rw [valveDuty, Nat.mul_add_div h, Nat.div_eq_of_lt (by omega)]

/-- A dose that one sweep fewer does not carry opens the valves. -/
theorem capacity_le_dose {d n p : Nat} (hn : n ≤ 3) (hp : p ≤ 200) (h : (n - 1) * p < d) : n * p ≤ d * 255 := by
  interval_cases n <;> omega

/-- The dose arithmetic for inputs in their ranges. -/
theorem bandPlan_inRange (i : DoseInputs) (c : Coverage) (hb : i.base ≤ 400) (hd : i.darkness ≤ 255)
    (hp : 20 ≤ i.passCapacity) (hp' : i.passCapacity ≤ 200) (hm : i.minDose ≤ 100) (hz : i.zones ≤ 8)
    (hw : c.white ≤ 255) (hc : c.colour ≤ 255) :
    ∃ b, bandPlan i c = b ∧ bandDose i c ≤ 397 ∧ b.sweeps ≤ 3 ∧ b.duty ≤ 255 ∧ (0 < b.sweeps ↔ 1 ≤ b.duty)
      ∧ b.delivered ≤ 3 * i.passCapacity ∧ b.delivered ≤ 397 ∧ b.delivered ≤ b.sweeps * i.passCapacity
      ∧ b.fluid = b.delivered * i.zones ∧ b.fluid ≤ 3176
      ∧ (b.sweeps = 0 → b.duty = 0 ∧ b.delivered = 0 ∧ b.fluid = 0) := by
  have dose := bandDose_le hb hd hm hw hc
  obtain dry | wet := Nat.eq_zero_or_pos (bandDose i c)
  · exact ⟨_, bandPlan_dry dry, by simp [dose]⟩
  · obtain ⟨some_sweep, reach, below⟩ := sweeps_carry_dose (p := i.passCapacity) (by omega) wet
    refine ⟨_, bandPlan_sprayed (by omega) wet, dose, ?_⟩
    have three : min (sweepsFor (bandDose i c) i.passCapacity) 3 ≤ 3 := Nat.min_le_right ..
    have most : min (bandDose i c) (3 * i.passCapacity) ≤ 397 := (Nat.min_le_left ..).trans dose
    have thrice : min (bandDose i c) (3 * i.passCapacity) ≤ 3 * i.passCapacity := Nat.min_le_right ..
    generalize min (sweepsFor (bandDose i c) i.passCapacity) 3 = n at *
    generalize min (bandDose i c) (3 * i.passCapacity) = d at *
    have capacity : 0 < n * i.passCapacity := Nat.mul_pos some_sweep (by omega)
    have opened : 0 < valveDuty d (n * i.passCapacity) := valveDuty_pos capacity (capacity_le_dose three hp' below)
    have delivered : deliveredDose d (valveDuty d (n * i.passCapacity)) (n * i.passCapacity) ≤ d := Nat.min_le_left ..
    refine ⟨three, valveDuty_le capacity reach, ⟨fun _ => opened, fun _ => some_sweep⟩, delivered.trans thrice,
      delivered.trans most, delivered.trans reach, rfl, ?_, fun none => absurd none (Nat.ne_of_gt some_sweep)⟩
    exact Nat.mul_le_mul (delivered.trans most) hz

/-- Settles O33. -/
theorem doseArithmetic : Obligations.DoseArithmetic := by
  refine ⟨bandPlan_inRange, fun i c hp hd => ⟨fun hs => ?_, fun hs => ?_⟩, ?_,
    fun i c h => ⟨bandPlan_dry h, bandSaturated_eq_false h⟩, ?_⟩
  · have sweeps : sweepsFor (bandDose i c) i.passCapacity ≤ 3 := (sweepsFor_le_iff hp).mpr hs
    rw [bandPlan_sprayed hp hd, min_eq_left sweeps]
    exact ⟨Bool.eq_false_iff.mpr (mt (bandSaturated_iff c hp).mp (Nat.not_lt.mpr hs)),
      (sweepsFor_le_iff hp).mp le_rfl, fun n => (sweepsFor_le_iff hp).mpr⟩
  · have sweeps : 3 < sweepsFor (bandDose i c) i.passCapacity := (lt_sweepsFor_iff hp).mpr hs
    rw [bandPlan_sprayed hp hd, min_eq_right sweeps.le, min_eq_right hs.le]
    exact ⟨(bandSaturated_iff c hp).mpr hs, rfl, valveDuty_full (by omega)⟩
  · rintro i c s e q raw rfl rfl rfl rfl
    rw [bandDose_eq]
    exact ⟨fun h => if_pos h, fun he hr => if_neg (not_or.mpr ⟨Nat.ne_of_gt he, Nat.ne_of_gt hr⟩)⟩
  · rintro i c dose capacity b hp hd rfl rfl rfl
    obtain ⟨some_sweep, _, _⟩ := sweeps_carry_dose hp hd
    rw [bandPlan_sprayed hp hd]
    exact ⟨some_sweep, rfl, rfl, rfl⟩

/-! ### The bands of a plan -/

theorem nextBand_eq (plan : SprayPlan) (first : Nat) :
    plan.nextBand first = (List.range plan.bands.length).find? fun b => decide (first ≤ b ∧ 0 < plan.sweepsOf b) := by
  unfold SprayPlan.nextBand SprayPlan.sweepsOf
  congr 1
  funext b
  rw [Bool.decide_and]
  cases plan.bands[b]? <;> rfl

theorem sweepsOf_pos_lt {plan : SprayPlan} {k : Nat} (h : 0 < plan.sweepsOf k) : k < plan.bands.length := by
  by_contra outside
  rw [SprayPlan.sweepsOf, List.getElem?_eq_none (Nat.not_lt.mp outside)] at h
  exact absurd h (Nat.lt_irrefl 0)

theorem nextBand_some {plan : SprayPlan} {first k : Nat} (h : plan.nextBand first = some k) :
    first ≤ k ∧ 0 < plan.sweepsOf k ∧ ∀ m, first ≤ m → m < k → plan.sweepsOf m = 0 := by
  rw [nextBand_eq, List.find?_range_eq_some] at h
  obtain ⟨hk, _, below⟩ := h
  obtain ⟨hfirst, hsweeps⟩ := of_decide_eq_true hk
  refine ⟨hfirst, hsweeps, fun m hm hmk => ?_⟩
  have skipped := below m hmk
  rw [Bool.not_eq_true', decide_eq_false_iff_not] at skipped
  exact Nat.eq_zero_of_not_pos fun sprayed => skipped ⟨hm, sprayed⟩

theorem nextBand_none {plan : SprayPlan} {first : Nat} (h : plan.nextBand first = none) {m : Nat} (hm : first ≤ m) :
    plan.sweepsOf m = 0 := by
  rw [nextBand_eq, List.find?_range_eq_none] at h
  refine Nat.eq_zero_of_not_pos fun sprayed => ?_
  have skipped := h m (sweepsOf_pos_lt sprayed)
  rw [Bool.not_eq_true', decide_eq_false_iff_not] at skipped
  exact skipped ⟨hm, sprayed⟩

theorem nextBand_of_sweepCount {plan : SprayPlan} (h : 0 < plan.sweepCount) : ∃ k, plan.nextBand 0 = some k := by
  refine Option.ne_none_iff_exists'.mp fun dry => Nat.ne_of_gt h (List.sum_eq_zero fun n hn => ?_)
  obtain ⟨b, hb, rfl⟩ := List.mem_map.mp hn
  obtain ⟨k, hk⟩ := List.mem_iff_getElem?.mp hb
  have none := nextBand_none dry (Nat.zero_le k)
  rwa [SprayPlan.sweepsOf, hk] at none

/-! ### The handing over of a plan -/

theorem firstMove_eq {b : Bar} {plan : SprayPlan} {k : Nat} (hp : b.plan = some plan) (hk : plan.nextBand 0 = some k) :
    b.firstMove = { b with state := .moving, target := some (.band k), band := some k, planWaiting := false } := by
  have first : (b.plan.bind fun p => p.nextBand 0) = some k := by rw [hp, Option.bind_some, hk]
  unfold Bar.firstMove
  rw [first]
  rfl

theorem takePlan_parked {b : Bar} {plan : SprayPlan} {k : Nat} (hb : b.state = .parked) (hk : plan.nextBand 0 = some k) :
    b.takePlan plan = { b with
      state := .moving, target := some (.band k), plan := some plan, planWaiting := false, band := some k
      sweepsDone := 0, nextDirection := .forward } := by
  unfold Bar.takePlan
  rw [hb]
  exact firstMove_eq rfl hk

theorem takePlan_waits {b : Bar} (plan : SprayPlan) (hb : b.state = .moving ∨ b.state = .centring) :
    b.takePlan plan = { b with plan := some plan, planWaiting := true, sweepsDone := 0, nextDirection := .forward } := by
  unfold Bar.takePlan
  obtain hb | hb := hb <;> rw [hb]

/-! ### The start test -/

theorem postPretreated_eq {s : State} {u : UnitNo} {sh : Shirt} {d : DoseRecord} (h : s.shirt u = some sh)
    (hd : sh.dose = some d) :
    postPretreated u s = post .load (.pretreated (s.tagOf u) d.fluid d.sweeps sh.flags.saturated) s := by
  unfold postPretreated
  rw [h]
  dsimp only
  rw [hd]
  rfl

theorem passUnsprayed_eq {s : State} {u : UnitNo} {sh : Shirt} (h : s.shirt u = some sh) :
    passUnsprayed u s =
      post .load (.pretreated (s.tagOf u) 0 0 sh.flags.saturated)
        (releaseHold .pretreat
          ((putShirt u (some { sh with state := .pretreated, dose := some { sweeps := 0, fluid := 0 } }) s).setPretreat
            { s.pretreat with state := .idle, plan := none })) := by
  unfold passUnsprayed
  dsimp only
  rw [modifyShirt_some _ h]
  generalize hx : ({ sh with state := .pretreated, dose := some { sweeps := 0, fluid := 0 } } : Shirt) = x
  have there : (pretreatRelease (putShirt u (some x) s)).shirt u = some x := putShirt_shirt_same u (some x) s
  have tag : (pretreatRelease (putShirt u (some x) s)).tagOf u = s.tagOf u := putShirt_tagOf u u (some x) s
  rw [postPretreated_eq (d := { sweeps := 0, fluid := 0 }) there (by rw [← hx]), tag, ← hx]
  rfl

section
variable {s : State} {u : UnitNo} {sh : Shirt} (hq : s.pretreat.quiesce = .running)
include hq

theorem startTestFor_running :
    startTestFor u sh s =
      if (sprayPlanOf s u sh).sweepCount = 0 then passUnsprayed u s
      else if !s.bar.available then setPretreatState .barFault (some (sprayPlanOf s u sh)) s
      else if s.pretreat.reservoir < (sprayPlanOf s u sh).fluidTotal then enterLowFluid (sprayPlanOf s u sh) s
      else startSequence u (sprayPlanOf s u sh) s := if_neg (not_not.mpr hq)

theorem startTestFor_faulted (hs : 0 < (sprayPlanOf s u sh).sweepCount) (hb : s.bar.state = .faulted) :
    startTestFor u sh s = s.setPretreat { s.pretreat with state := .barFault, plan := some (sprayPlanOf s u sh) } := by
  rw [startTestFor_running hq, if_neg (Nat.ne_of_gt hs), Bar.available, hb]
  rfl

theorem startTestFor_available (hs : 0 < (sprayPlanOf s u sh).sweepCount) (hb : s.bar.state ≠ .faulted) :
    startTestFor u sh s =
      if s.pretreat.reservoir < (sprayPlanOf s u sh).fluidTotal then enterLowFluid (sprayPlanOf s u sh) s
      else startSequence u (sprayPlanOf s u sh) s := by
  rw [startTestFor_running hq, if_neg (Nat.ne_of_gt hs), Bar.available, decide_eq_true hb]
  rfl

end

theorem sprayPlanOf_tag (s : State) (u : UnitNo) (sh : Shirt) : (sprayPlanOf s u sh).tag = s.tagOf u := by
  unfold sprayPlanOf
  cases designOf s sh <;> rfl

theorem startSequence_eq {s : State} {u : UnitNo} {sh : Shirt} (plan : SprayPlan) (h : s.shirt u = some sh) :
    startSequence u plan s =
      ((putShirt u (some { sh with
          state := .pretreating, dose := some { sweeps := plan.sweepCount, fluid := plan.fluidTotal }
          flags := { sh.flags with saturated := sh.flags.saturated || plan.saturated } }) s).setPretreat
        { s.pretreat with
          reservoir := s.pretreat.reservoir - plan.fluidTotal, state := .spraying, plan := some plan }).setBar
        (s.bar.takePlan plan) := by
  have there : (s.setPretreat { s.pretreat with
    reservoir := s.pretreat.reservoir - plan.fluidTotal, state := .spraying, plan := some plan }).shirt u = some sh := h
  unfold startSequence
  dsimp only
  rw [modifyShirt_some _ there]
  rfl

/-! ### The unit at position 3 -/

theorem unitAt_of_only {s : State} {pos : Position} {pl : PlatenNo}
    (h : ∀ q : PlatenNo, (tget s.ring.platens q).position = pos ↔ q = pl) :
    unitAt s pos = (tget s.ring.platens pl).unit := by
  have there : platenAt s pos = some pl :=
    lowest_eq_some (decide_eq_true ((h pl).mpr rfl)) fun q hq => decide_eq_false (mt (h q).mp (ne_of_lt hq))
  rw [unitAt, there]
  rfl

theorem unitAt_eq_none {s : State} {pos : Position}
    (h : ∀ q : PlatenNo, (tget s.ring.platens q).position = pos → (tget s.ring.platens q).unit = none) :
    unitAt s pos = none :=
  Option.bind_eq_none_iff.mpr fun q hq => h q (of_decide_eq_true (lowest_some hq).1)

theorem pretreatStartTest_unit {s : State} {u : UnitNo} {sh : Shirt} (hu : unitAt s 3 = some u) (h : s.shirt u = some sh) :
    pretreatStartTest s = startTestFor u sh s := by
  have there : unitAt s Holder.pretreat.position = some u := hu
  unfold pretreatStartTest
  rw [there]
  dsimp only
  rw [h]

theorem pretreatStartTest_none {s : State} (hu : unitAt s 3 = none) : pretreatStartTest s = s := by
  have there : unitAt s Holder.pretreat.position = none := hu
  unfold pretreatStartTest
  rw [there]

/-! ### The plan of a unit -/

theorem sprayPlanOf_design {s : State} {u : UnitNo} {sh : Shirt} {d : Design}
    (h : (tget s.artworks sh.artwork).design = some d) :
    sprayPlanOf s u sh =
      { tag := s.tagOf u, zoneMask := d.zoneMask
        saturated := d.coverage.any (bandSaturated (doseInputs s sh d))
        bands := d.coverage.map (bandPlan (doseInputs s sh d)) } := by
  have design : designOf s sh = some d := h
  unfold sprayPlanOf
  rw [design]

/-- Settles O34. -/
theorem pretreatStartAndHandover : Obligations.PretreatStartAndHandover := by
  refine ⟨?_, fun b plan hs => ⟨fun hb => ?_, takePlan_waits plan⟩, ?_,
    fun s pl u sh hpl hu hsh => pretreatStartTest_unit ((unitAt_of_only hpl).trans hu) hsh,
    fun s h => pretreatStartTest_none (unitAt_eq_none h)⟩
  · rintro s u sh plan hsh rfl
    refine ⟨fun hq => if_pos hq, fun hq => ⟨fun hs => ?_, startTestFor_faulted hq, fun hs hb hr hl => ?_,
      fun hs hb hr hl => ?_, fun hs hb hr => ?_⟩⟩
    · exact (startTestFor_running hq).trans ((if_pos hs).trans (passUnsprayed_eq hsh))
    · rw [startTestFor_available hq hs hb, if_pos hr, ← sprayPlanOf_tag s u sh]
      exact if_neg hl
    · rw [startTestFor_available hq hs hb, if_pos hr]
      exact if_pos hl
    · rw [startTestFor_available hq hs hb, if_neg (Nat.not_lt.mpr hr), startSequence_eq _ hsh]
  · obtain ⟨k, hk⟩ := nextBand_of_sweepCount hs
    obtain ⟨_, sprayed, below⟩ := nextBand_some hk
    exact ⟨k, takePlan_parked hb hk, sprayed, fun j hj => below j (Nat.zero_le j) hj⟩
  · rintro s u sh d plan i hd rfl rfl
    rw [sprayPlanOf_design hd]
    refine ⟨rfl, rfl, List.length_map .., fun k c hc => ?_, ?_, ?_, ?_⟩
    · have band : (d.coverage.map (bandPlan (doseInputs s sh d)))[k]? = some (bandPlan (doseInputs s sh d) c) := by
        rw [List.getElem?_map, hc]
        rfl
      refine ⟨band, ?_, ?_, rfl⟩
      · rw [SprayPlan.sweepsOf, band]; rfl
      · rw [SprayPlan.dutyOf, band]; rfl
    · rw [SprayPlan.fluidTotal, List.map_map]; rfl
    · rw [SprayPlan.sweepCount, List.map_map]; rfl
    · exact List.any_eq_true

end Sys2Proof.Machine
end

section
/-! O36 to O40: the spray settings and the spray bar's events. -/

namespace Sys2Proof.Machine

/-! ### WRITE SPRAY SETTINGS -/

theorem settingsOf_bytes {x : SpraySettings} (ht : x.sweepTime < 65536) (ha : x.amplitude < 256)
    (hh : x.halfPeriod < 65536) (hp : x.passCapacity < 256) (hd : x.minDose < 256) :
    settingsOf (bytes2 x.sweepTime ++ bytes1 x.amplitude ++ bytes2 x.halfPeriod ++ bytes1 x.passCapacity
      ++ bytes1 x.minDose) = some x := by
  have amplitude : (BitVec.ofNat 8 x.amplitude).toNat = x.amplitude := by rw [BitVec.toNat_ofNat]; omega
  have passCapacity : (BitVec.ofNat 8 x.passCapacity).toNat = x.passCapacity := by rw [BitVec.toNat_ofNat]; omega
  have minDose : (BitVec.ofNat 8 x.minDose).toNat = x.minDose := by rw [BitVec.toNat_ofNat]; omega
  change some { sweepTime := number2 (BitVec.ofNat 8 (x.sweepTime / 256)) (BitVec.ofNat 8 x.sweepTime)
                amplitude := (BitVec.ofNat 8 x.amplitude).toNat
                halfPeriod := number2 (BitVec.ofNat 8 (x.halfPeriod / 256)) (BitVec.ofNat 8 x.halfPeriod)
                passCapacity := (BitVec.ofNat 8 x.passCapacity).toNat
                minDose := (BitVec.ofNat 8 x.minDose).toNat } = some x
  rw [number2_bytes2 ht, number2_bytes2 hh, amplitude, passCapacity, minDose]

theorem ditherOffWrite_iff (inForce x : SpraySettings) :
    ditherOffWrite inForce x = true ↔ x = { inForce with amplitude := 0 } := by
  obtain ⟨t, a, h, p, d⟩ := x
  simp [ditherOffWrite, and_assoc, and_left_comm]

theorem writeSpraySettings_eq (p : Port) (s : State) {body : List Byte} {x : SpraySettings}
    (h : settingsOf body = some x) :
    writeSpraySettings p body s =
      if !x.inRange then (.refused .badField [], s)
      else if ditherOffWrite s.bar.settings x then
        (.done [], s.setBar (s.bar.ditherOff (s.time.now - s.bar.sweepStart).toNat))
      else if s.pretreat.quiesce ≠ .quiesced then (.refused .notQuiesced [], s)
      else (.done [], s.setBar { s.bar with settings := x }) := by
  unfold writeSpraySettings
  rw [h]
  rfl

/-- Settles O36. -/
theorem writeSpraySettingsTable : Obligations.WriteSpraySettingsTable := by
  intro s p f rest x hoff hbody ht ha hh hp hd
  have row := writeSpraySettings_eq p (s.without p rest) (settingsOf_bytes ht ha hh hp hd)
  rw [← hbody] at row
  have off : ditherOffWrite (s.without p rest).bar.settings x = true ↔ x = { s.bar.settings with amplitude := 0 } :=
    ditherOffWrite_iff _ _
  refine ⟨fun hr => ?_, fun hr hx hn => ?_, fun hr hx hst hdi hw => ?_, fun w hr hx hst hdi hw => ?_, fun hr hx hq => ?_,
    fun hr hx hq => ?_⟩
  all_goals rw [hr] at row
  · exact exec_offered hoff (r := .writeSpraySettings) row
  · rw [Bool.not_true, if_neg Bool.false_ne_true, if_pos (off.mpr hx), State.without_bar, Bar.ditherOff, if_neg hn, ← hx]
      at row
    exact exec_offered hoff (r := .writeSpraySettings) row
  · rw [Bool.not_true, if_neg Bool.false_ne_true, if_pos (off.mpr hx), State.without_bar, Bar.ditherOff,
      if_pos ⟨hst, hdi⟩, ← hx, hw] at row
    exact exec_offered hoff (r := .writeSpraySettings) row
  · rw [Bool.not_true, if_neg Bool.false_ne_true, if_pos (off.mpr hx), State.without_bar, Bar.ditherOff,
      if_pos ⟨hst, hdi⟩, ← hx, hw] at row
    refine (exec_offered hoff (r := .writeSpraySettings) row).trans ?_
    rw [Option.orElse_some, ← hw]
  · rw [Bool.not_true, if_neg Bool.false_ne_true, if_neg (mt off.mp hx)] at row
    exact exec_offered hoff (r := .writeSpraySettings) (row.trans (if_pos hq))
  · rw [Bool.not_true, if_neg Bool.false_ne_true, if_neg (mt off.mp hx)] at row
    exact exec_offered hoff (r := .writeSpraySettings) (row.trans (if_neg (not_not.mpr hq)))

/-! ### BAR IN POSITION -/

theorem startSweep_eq {b : Bar} {plan : SprayPlan} {k : Nat} (now : Word32) (hp : b.plan = some plan)
    (hk : b.band = some k) :
    b.startSweep now = { b with
      state := .sweeping, target := none, sweepStart := now, sweepTime := b.settings.sweepTime
      sweepHalf := b.settings.halfPeriod, dithering := decide (0 < b.settings.amplitude)
      ditherOffAt := none, stopAt := none, traverse := some b.nextDirection
      nextDirection := b.nextDirection.other
      valves := openValves plan.zoneMask (plan.dutyOf k)
      dither :=
        if 0 < b.settings.amplitude then
          some { amplitude := b.settings.amplitude, halfPeriod := b.settings.halfPeriod }
        else none } := by
  have duty : (do let p ← b.plan; let k ← b.band; pure (p.dutyOf k)).getD 0 = plan.dutyOf k := by rw [hp, hk]; rfl
  have mask : (b.plan.map (·.zoneMask)).getD 0 = plan.zoneMask := by rw [hp]; rfl
  unfold Bar.startSweep
  simp only [duty, mask, decide_eq_true_eq]

theorem tget_openValves (mask : BitVec 8) (duty : Nat) (z : Fin 8) :
    tget (openValves mask duty) z = if mask.getLsbD z.val = true then duty else 0 := by
  simp [openValves]

theorem sequenceParked_eq {s : State} {plan : SprayPlan} {sh : Shirt} {d : DoseRecord}
    (hsh : s.shirt plan.tag.unit = some sh) (hd : sh.dose = some d) :
    sequenceParked plan s = completeQuiesce .pretreat
      (post .load (.pretreated (s.tagOf plan.tag.unit) d.fluid d.sweeps sh.flags.saturated)
        (releaseHold .pretreat
          (((putShirt plan.tag.unit (some { sh with state := .pretreated }) s).setBar
            { s.bar with state := .parked, target := none, plan := none }).setPretreat
            { s.pretreat with state := .idle, plan := none }))) := by
  have there : (s.setBar { s.bar.park with plan := none }).shirt plan.tag.unit = some sh := hsh
  unfold sequenceParked SprayPlan.unit setUnitState
  dsimp only
  rw [modifyShirt_some _ there]
  generalize hx : ({ sh with state := .pretreated } : Shirt) = x
  generalize ht : putShirt plan.tag.unit (some x) (s.setBar { s.bar.park with plan := none }) = t
  have record : (pretreatRelease t).shirt plan.tag.unit = some x := by rw [← ht]; exact putShirt_shirt_same ..
  have tag : (pretreatRelease t).tagOf plan.tag.unit = s.tagOf plan.tag.unit := by rw [← ht]; exact putShirt_tagOf ..
  rw [postPretreated_eq (d := d) record (by rw [← hx]; exact hd), tag, ← ht, ← hx]
  rfl

section
variable {s : State} (hm : s.bar.state = .moving)
include hm

theorem barInPosition_band {k : Nat} (ht : s.bar.target = some (.band k)) :
    barInPosition s = s.setBar (s.bar.startSweep s.time.now) := by
  unfold barInPosition
  rw [hm]
  dsimp only
  rw [ht]

theorem barInPosition_parked {plan : SprayPlan} (ht : s.bar.target = some .home) (hp : s.bar.plan = some plan)
    (hw : s.bar.planWaiting = false) : barInPosition s = sequenceParked plan s := by
  unfold barInPosition
  rw [hm]
  dsimp only
  rw [ht]
  dsimp only
  rw [hp]
  dsimp only
  rw [hw]
  rfl

theorem barInPosition_noPlan (ht : s.bar.target = some .home) (hp : s.bar.plan = none) :
    barInPosition s = s.setBar s.bar.parkAndGo := by
  unfold barInPosition
  rw [hm]
  dsimp only
  rw [ht]
  dsimp only
  rw [hp]

theorem barInPosition_waiting {plan : SprayPlan} (ht : s.bar.target = some .home) (hp : s.bar.plan = some plan)
    (hw : s.bar.planWaiting = true) : barInPosition s = s.setBar s.bar.park.firstMove := by
  unfold barInPosition
  rw [hm]
  dsimp only
  rw [ht]
  dsimp only
  rw [hp]
  dsimp only
  rw [if_pos hw, Bar.parkAndGo, if_pos hw]

end

theorem barInPosition_cleared {s : State} (hf : s.bar.state = .faulted) (hc : s.bar.clearPending = true) :
    barInPosition s =
      if s.pretreat.state = .barFault then
        pretreatStartTest (s.setBar { s.bar with state := .parked, target := none, clearPending := false })
      else s.setBar { s.bar with state := .parked, target := none, clearPending := false } := by
  unfold barInPosition
  rw [hf]
  dsimp only
  rw [if_pos hc]
  rfl

theorem barInPosition_unmoved_bar {s : State}
    (h : s.bar.state = .parked ∨ s.bar.state = .sweeping ∨ s.bar.state = .centring
      ∨ (s.bar.state = .faulted ∧ s.bar.clearPending = false)) : barInPosition s = s := by
  unfold barInPosition
  obtain h | h | h | ⟨h, hc⟩ := h
  all_goals rw [h]
  dsimp only
  rw [hc]
  rfl

/-- Settles O37. -/
theorem barInPositionTable : Obligations.BarInPositionTable := by
  intro s
  refine ⟨fun k plan hm ht hp hk => ?_, fun plan sh d hm ht hp hw hsh hd => ?_, fun hm ht hp hw => ?_,
    fun plan k hm ht hp hw hk => ?_, fun hf hc hn => ?_, fun hf hc hn => ?_, fun h => ?_, tget_openValves⟩
  · refine congrArg Host.Outcome.next ((barInPosition_band hm ht).trans ?_)
    rw [startSweep_eq _ hp hk]
    cases s.bar.nextDirection <;> rfl
  · exact congrArg Host.Outcome.next ((barInPosition_parked hm ht hp hw).trans (sequenceParked_eq hsh hd))
  · refine congrArg Host.Outcome.next ((barInPosition_noPlan hm ht hp).trans ?_)
    rw [Bar.parkAndGo, hw]
    rfl
  · refine congrArg Host.Outcome.next ((barInPosition_waiting hm ht hp hw).trans ?_)
    rw [firstMove_eq (b := s.bar.park) hp hk]
    rfl
  · exact congrArg Host.Outcome.next ((barInPosition_cleared hf hc).trans (if_neg hn))
  · exact congrArg Host.Outcome.next ((barInPosition_cleared hf hc).trans (if_pos hn))
  · exact congrArg Host.Outcome.next (barInPosition_unmoved_bar h)

/-! ### The end of a sweep and of the centring -/

/-- The first crossing at or after an elapse: the least multiple of the half period from there. -/
theorem crossingFrom_spec {half : Nat} (t : Nat) (h : 0 < half) :
    half ∣ crossingFrom half t ∧ t ≤ crossingFrom half t ∧ crossingFrom half t < t + half := by
  have parts := Nat.div_add_mod' (t + half - 1) half
  have rest := Nat.mod_lt (t + half - 1) h
  refine ⟨Nat.dvd_mul_left .., ?_⟩
  unfold crossingFrom
  omega

/-- The first crossing that follows an instant: the least multiple of the half period above it. -/
theorem crossingAfter_spec {half : Nat} (w : Nat) (h : 0 < half) :
    half ∣ crossingAfter half w ∧ w < crossingAfter half w ∧ crossingAfter half w ≤ w + half := by
  have parts := Nat.div_add_mod' w half
  have rest := Nat.mod_lt w h
  refine ⟨Nat.dvd_mul_left .., ?_⟩
  unfold crossingAfter
  rw [Nat.add_mul]
  omega

theorem crossingAfter_eq {half w n : Nat} (h : w < n * half) (hn : n * half ≤ w + half) : crossingAfter half w = n * half := by
  cases n with
  | zero => omega
  | succ n =>
    rw [Nat.add_mul, Nat.one_mul] at hn
    rw [crossingAfter, Nat.div_eq_of_lt_le (by omega) h]

theorem sweepLength_dithered {b : Bar} (hd : b.dithering = true) (hw : b.ditherOffAt = none) :
    b.sweepLength = crossingFrom b.sweepHalf b.sweepTime := by
  rw [Bar.sweepLength, if_pos hd, hw]

theorem sweepLength_off {b : Bar} {w : Nat} (hd : b.dithering = true) (hw : b.ditherOffAt = some w) :
    b.sweepLength = crossingAfter b.sweepHalf w := by
  rw [Bar.sweepLength, if_pos hd, hw]

theorem sweepDue_iff (s : State) :
    sweepDue s = true ↔ s.bar.state = .sweeping ∧ s.bar.sweepLength ≤ (s.time.now - s.bar.sweepStart).toNat := by
  rw [sweepDue, Bool.and_eq_true, decide_eq_true_eq, decide_eq_true_eq, elapsedSince]

theorem centringDue_iff {s : State} {w : Nat} (hw : s.bar.stopAt = some w) :
    centringDue s = true ↔ s.bar.state = .centring
      ∧ crossingAfter s.bar.sweepHalf w ≤ (s.time.now - s.bar.sweepStart).toNat := by
  rw [centringDue, Bool.and_eq_true, decide_eq_true_eq, decide_eq_true_eq, elapsedSince, hw, Option.getD_some]

section
variable {b : Bar} {plan : SprayPlan} {k : Nat} (now : Word32) (hp : b.plan = some plan) (hk : b.band = some k)
include hp hk

theorem endSweep_again (h : b.sweepsDone + 1 < plan.sweepsOf k) :
    b.endSweep now = { b with
      state := .sweeping, target := none, sweepStart := now, sweepTime := b.settings.sweepTime
      sweepHalf := b.settings.halfPeriod, dithering := decide (0 < b.settings.amplitude)
      ditherOffAt := none, stopAt := none, sweepsDone := b.sweepsDone + 1, traverse := some b.nextDirection
      nextDirection := b.nextDirection.other
      valves := openValves plan.zoneMask (plan.dutyOf k)
      dither :=
        if 0 < b.settings.amplitude then
          some { amplitude := b.settings.amplitude, halfPeriod := b.settings.halfPeriod }
        else none } := by
  cases b
  dsimp only at hp hk
  subst hp hk
  exact (if_pos h).trans (startSweep_eq now rfl rfl)

theorem endSweep_next {j : Nat} (h : plan.sweepsOf k ≤ b.sweepsDone + 1) (hj : plan.nextBand (k + 1) = some j) :
    b.endSweep now = { b.quiet with
      dithering := false, ditherOffAt := none, sweepsDone := 0, state := .moving, target := some (.band j)
      band := some j } := by
  unfold Bar.endSweep
  have plan_kept : b.quiet.plan = some plan := hp
  have band_kept : b.quiet.band = some k := hk
  dsimp only
  rw [plan_kept, band_kept]
  dsimp only
  rw [if_neg (Nat.not_lt.mpr h), hj]
  rfl

theorem endSweep_home (h : plan.sweepsOf k ≤ b.sweepsDone + 1) (hj : plan.nextBand (k + 1) = none) :
    b.endSweep now = { b.quiet with
      dithering := false, ditherOffAt := none, sweepsDone := b.sweepsDone + 1, state := .moving, target := some .home
      band := none } := by
  unfold Bar.endSweep
  have plan_kept : b.quiet.plan = some plan := hp
  have band_kept : b.quiet.band = some k := hk
  dsimp only
  rw [plan_kept, band_kept]
  dsimp only
  rw [if_neg (Nat.not_lt.mpr h), hj]
  rfl

end

theorem tget_closedValves (z : Fin 8) : tget closedValves z = 0 := by simp [tget, closedValves]

theorem Direction.other_ne (d : Direction) : d.other ≠ d := by cases d <;> simp [Direction.other]

/-- Settles O38. -/
theorem sweepTimesAndEnds : Obligations.SweepTimesAndEnds := by
  refine ⟨fun s hs hh => ⟨fun hd => ?_, fun hd hw => ?_, fun w hd hw => ?_, fun early => ?_⟩,
    fun s plan k hs hp hk due => ⟨s.bar.endSweep s.time.now, ?_, ?_⟩, fun s w n hs hw hh hlt hle => ⟨fun due => ?_, fun early => ?_⟩⟩
  · rw [Bar.sweepLength, hd]; rfl
  · rw [sweepLength_dithered hd hw]
    exact crossingFrom_spec _ hh
  · rw [sweepLength_off hd hw]
    exact crossingAfter_spec _ hh
  · exact congrArg Host.Outcome.next (if_neg fun due => Nat.not_le.mpr early ((sweepDue_iff s).mp due).2)
  · exact congrArg Host.Outcome.next (if_pos ((sweepDue_iff s).mpr ⟨hs, due⟩))
  · obtain more | last := Nat.lt_or_ge (s.bar.sweepsDone + 1) (plan.sweepsOf k)
    · rw [endSweep_again _ hp hk more]
      exact ⟨hp, rfl, fun _ => ⟨rfl, hk, rfl, rfl, Direction.other_ne _, rfl, rfl, tget_openValves _ _, rfl, rfl,
        decide_eq_true_iff, rfl, fun h => if_neg (by omega), fun h => if_pos h⟩, fun h => absurd more (Nat.not_lt.mpr h)⟩
    · cases hj : plan.nextBand (k + 1) with
      | some j =>
        obtain ⟨above, sprayed, between⟩ := nextBand_some hj
        rw [endSweep_next _ hp hk last hj]
        refine ⟨hp, rfl, fun h => absurd h (Nat.not_lt.mpr last), fun _ => ⟨rfl, rfl, rfl, rfl, tget_closedValves, rfl,
          fun i hi => ?_, nofun⟩⟩
        obtain rfl := Option.some.inj hi
        exact ⟨rfl, rfl, rfl, above, sprayed, between⟩
      | none =>
        rw [endSweep_home _ hp hk last hj]
        exact ⟨hp, rfl, fun h => absurd h (Nat.not_lt.mpr last), fun _ => ⟨rfl, rfl, rfl, rfl, tget_closedValves, rfl,
          nofun, fun _ => ⟨rfl, rfl, fun m hm => nextBand_none hj hm⟩⟩⟩
  · refine congrArg Host.Outcome.next (if_pos ((centringDue_iff hw).mpr ⟨hs, ?_⟩))
    rwa [crossingAfter_eq hlt hle]
  · refine congrArg Host.Outcome.next (if_neg fun due => Nat.not_le.mpr early ?_)
    rw [← crossingAfter_eq hlt hle]
    exact ((centringDue_iff hw).mp due).2

/-! ### BAR FAULT and BAR CLEAR -/

theorem putShirt_putShirt (u : UnitNo) (x y : Option Shirt) (s : State) : putShirt u y (putShirt u x s) = putShirt u y s := by
  simp [putShirt, State.setUnits, tset_tset]

section
variable {s : State}

theorem sequenceFaulted_eq {plan : SprayPlan} {sh : Shirt} (hsh : s.shirt plan.tag.unit = some sh) :
    sequenceFaulted plan s = post .load
      (.barFault (some plan.tag) s.bar.state (if s.bar.planWaiting then none else s.bar.band)
        (if s.bar.planWaiting then none else some s.bar.sweepsDone))
      (completeQuiesce .pretreat (releaseHold .pretreat
        (((putShirt plan.tag.unit
            (some { sh with
              state := .pretreated, fault := sh.fault.orElse fun _ => some .pretreatFault }) s).setBar
          s.bar.fail).setPretreat { s.pretreat with state := .idle, plan := none }))) := by
  have there : (s.setBar s.bar.fail).shirt plan.tag.unit = some sh := hsh
  unfold sequenceFaulted SprayPlan.unit setUnitState noteFault
  dsimp only
  rw [modifyShirt_some _ there, modifyShirt_some _ (putShirt_shirt_same ..), putShirt_putShirt]
  rfl

theorem bareFault_eq :
    bareFault s = post .load (.barFault none s.bar.state none none)
      (if s.pretreat.state = .lowFluid then
        (s.setBar s.bar.fail).setPretreat { s.pretreat with state := .barFault }
      else s.setBar s.bar.fail) := rfl

theorem barFault_sequence {plan : SprayPlan}
    (hb : s.bar.state = .moving ∨ s.bar.state = .sweeping ∨ s.bar.state = .centring) (hp : s.bar.plan = some plan) :
    barFault s = sequenceFaulted plan s := by
  unfold barFault
  obtain hb | hb | hb := hb
  all_goals
    rw [hb]
    dsimp only
    rw [hp]

theorem barFault_bare
    (h : s.bar.state = .parked ∨ ((s.bar.state = .moving ∨ s.bar.state = .centring) ∧ s.bar.plan = none)) :
    barFault s = bareFault s := by
  unfold barFault
  obtain hb | ⟨hb | hb, hp⟩ := h
  · rw [hb]
  all_goals
    rw [hb]
    dsimp only
    rw [hp]

theorem barFault_faulted (hb : s.bar.state = .faulted) :
    barFault s =
      if s.bar.clearPending then
        post .load (.barFault none .faulted none none) (s.setBar { s.bar with clearPending := false, target := none })
      else s := by
  unfold barFault
  rw [hb]
  rfl

theorem barClear_faulted (p : Port) (body : List Byte) (hb : s.bar.state = .faulted) :
    barClear p body s =
      if s.bar.clearPending then (.condition .already [], s)
      else (.done [], s.setBar { s.bar with clearPending := true, target := some .home }) := by
  unfold barClear
  rw [hb]

theorem barClear_notFaulted (p : Port) (body : List Byte) (hb : s.bar.state ≠ .faulted) :
    barClear p body s = (.refused .state [], s) := by
  unfold barClear
  cases h : s.bar.state with
  | faulted => exact absurd h hb
  | parked | moving | sweeping | centring => rfl

end

/-- Every step keeps clear pending off outside FAULTED. -/
theorem step_keeps_clearSound {s t : State} (hs : s.bar.clearSound) (h : step s = .next t) : t.bar.clearSound := by
  refine step_of_quiet (I := fun s => s.bar.clearSound) (fun _ _ => id) (fun hq => hq.clear) (fun r s t hw hs => ?_)
    (fun s t hl hs => by rw [hl.eq]; exact hs) (fun s hs => ?_) powered_clearSound (fun _ _ => id)
    (fun s hm hs => by rw [indexDone_moving hm]; exact hs) hs h
  · cases hw with
    | ditherOff w =>
      change (s.bar.ditherOff w).clearSound
      unfold Bar.ditherOff
      dsimp only
      split <;> exact hs
    | _ => exact hs
  · rw [clearLine_eq]
    exact Bar.stop_clearSound _ hs

theorem clearSound_iff (b : Bar) : b.clearSound ↔ (b.state ≠ .faulted → b.clearPending = false) := by
  rw [Bar.clearSound, ← not_imp_not, Bool.not_eq_true]

/-- Settles O39. -/
theorem barFaultTable : Obligations.BarFaultTable := by
  refine ⟨fun s => ⟨fun plan sh hb hp hsh => ?_, fun hb => ⟨fun hl => ?_, fun hl => ?_⟩, fun hb hc => ?_, fun hb hc => ?_,
    rfl, rfl, rfl, rfl, rfl, rfl, rfl, rfl, tget_closedValves, rfl, id, rfl⟩, fun s t hs h => ?_⟩
  · exact congrArg Host.Outcome.next ((barFault_sequence hb hp).trans (sequenceFaulted_eq hsh))
  · refine congrArg Host.Outcome.next ((barFault_bare hb).trans ?_)
    rw [bareFault_eq, if_neg hl]
  · refine congrArg Host.Outcome.next ((barFault_bare hb).trans ?_)
    rw [bareFault_eq, if_pos hl]
  · exact congrArg Host.Outcome.next ((barFault_faulted hb).trans (if_pos hc))
  · exact congrArg Host.Outcome.next ((barFault_faulted hb).trans (if_neg (Bool.eq_false_iff.mp hc)))
  · exact (clearSound_iff t.bar).mp (step_keeps_clearSound ((clearSound_iff s.bar).mpr hs) h)

/-- Settles O40. -/
theorem barClearTable : Obligations.BarClearTable := by
  intro s p f rest hoff
  refine ⟨fun hb hc => ?_, fun hb hc => ?_, fun hb => ?_⟩
  · exact exec_offered hoff (r := .barClear)
      ((barClear_faulted (s := s.without p rest) p f.body hb).trans (if_neg (Bool.eq_false_iff.mp hc)))
  · exact exec_offered hoff (r := .barClear) ((barClear_faulted (s := s.without p rest) p f.body hb).trans (if_pos hc))
  · exact exec_offered hoff (r := .barClear) (barClear_notFaulted (s := s.without p rest) p f.body hb)

end Sys2Proof.Machine
end

section
/-! O41 to O43 and O48: the Print station's start test, registration, the plan cursor and the print error record. -/

namespace Sys2Proof.Machine

/-! ### The start test -/

section
variable {s : State} {u : UnitNo} {sh : Shirt}

theorem printStartTest_held (hh : s.print.held = some (s.tagOf u)) (hsh : s.shirt u = some sh) :
    printStartTest s = printStartTestFor u sh s := by
  have record : s.shirt (s.tagOf u).unit = some sh := hsh
  unfold printStartTest
  rw [hh]
  dsimp only
  rw [record]
  rfl

theorem printStartTest_none (hh : s.print.held = none) : printStartTest s = s := by
  unfold printStartTest
  rw [hh]

theorem printStartTestFor_running (hq : s.print.quiesce = .running) :
    printStartTestFor u sh s =
      if (tget s.artworks sh.artwork).staged then beginRegistration u sh s else waitArtwork u sh s :=
  if_neg (not_not.mpr hq)

theorem beginRegistration_eq {d : Design} (hd : (tget s.artworks sh.artwork).design = some d) :
    beginRegistration u sh s =
      (post .engine (.platenReady (s.tagOf u) sh.artwork d.coverage.length sh.dark) s).setPrint
        { s.print with
          state := .registering, terminated := []
          watchdog := some { start := s.time.now, limit := s.print.watchdogLimit } } := by
  have design : designOf s sh = some d := hd
  unfold beginRegistration
  rw [design]
  rfl

theorem waitArtwork_asked (h : s.print.stageAsked = true) :
    waitArtwork u sh s = s.setPrint { s.print with state := .waitArtwork } := if_pos h

theorem waitArtwork_asks (h : s.print.stageAsked = false) :
    waitArtwork u sh s = post .engine (.stageNeeded sh.artwork (s.tagOf u))
      (s.setPrint { s.print with state := .waitArtwork, stageAsked := true }) := by
  unfold waitArtwork
  rw [h]
  rfl

theorem notPrinted_eq_false (h : sh.dark = false ∨ (sh.state = .pretreated ∧ sh.fault = none)) :
    sh.notPrinted = false := by
  unfold Shirt.notPrinted Shirt.unpretreated
  obtain hd | ⟨hst, hf⟩ := h
  · rw [hd]; rfl
  · simp [hst, hf]

theorem printArrival_taken {a : Arrival} (ha : s.ring.arrivals.print = some a)
    (hu : (tget s.ring.platens a.platen).unit = some u) (hsh : s.shirt u = some sh) (hn : sh.notPrinted = false) :
    printArrival s = printStartTestFor u { sh with state := .printing }
      ((putShirt u (some { sh with state := .printing }) (takeArrival .print s)).setPrint
        { s.print with held := some (s.tagOf u), stageAsked := false }) := by
  have platen : (tget (takeArrival .print s).ring.platens a.platen).unit = some u := hu
  have shirt : (takeArrival .print s).shirt u = some sh := hsh
  simp only [printArrival, ha, platen, shirt, hn, Bool.false_eq_true, if_false, setUnitState]
  generalize hx : (takeArrival .print s).setPrint
    { (takeArrival .print s).print with held := some ((takeArrival .print s).tagOf u), stageAsked := false } = x
  have record : x.shirt u = some sh := by rw [← hx]; exact hsh
  rw [modifyShirt_some _ record, printStartTest_held (u := u) ?_ (putShirt_shirt_same ..), ← hx]
  · rfl
  · rw [putShirt_tagOf, ← hx]; rfl

end

/-- Settles O41. -/
theorem printStartTest_holds : Obligations.PrintStartTest := by
  refine ⟨fun s => printStartTest_none, fun s u sh hsh => ⟨fun hh => printStartTest_held hh hsh, fun hq => if_pos hq,
    fun hq hst ha => ?_, fun hq hst ha => ?_, fun d hq hst hd => ?_, fun a ha hu hp => ?_⟩⟩
  · rw [printStartTestFor_running hq, hst]
    exact waitArtwork_asked ha
  · rw [printStartTestFor_running hq, hst]
    exact waitArtwork_asks ha
  · rw [printStartTestFor_running hq, hst]
    exact beginRegistration_eq hd
  · exact congrArg Host.Outcome.next (printArrival_taken ha hu hsh (notPrinted_eq_false hp))

/-! ### The print error record -/

section
variable {s : State} (cause : PrintCause) (tag : Tag) (place : Option SwathPlace)

theorem writePrintError_empty (h : s.print.errorRecord = none) :
    writePrintError cause tag place s = post .order (.printFault cause tag)
      (s.setPrint { s.print with
        errorRecord := some { cause := cause, tag := tag, place := place, stamp := s.time.now }
        errorCount := 0 }) := by
  unfold writePrintError
  rw [h]

theorem writePrintError_filled (h : s.print.errorRecord.isSome = true) :
    writePrintError cause tag place s = s.setPrint { s.print with
      errorCount := if s.print.errorCount < 255 then s.print.errorCount + 1 else s.print.errorCount } := by
  obtain ⟨e, he⟩ := Option.isSome_iff_exists.mp h
  unfold writePrintError
  rw [he]

end

/-- Settles O48. -/
theorem printErrorRecord : Obligations.PrintErrorRecord := by
  refine fun s cause tag place => ⟨writePrintError_empty cause tag place, writePrintError_filled cause tag place,
    fun p f rest hoff => ⟨fun he => ?_, fun e he => ?_⟩⟩
  all_goals
    refine exec_offered hoff (r := .readErrorRecord) ?_
    change readErrorRecord p f.body (s.without p rest) = _
    unfold readErrorRecord
    dsimp only
    rw [State.without_print, he]
  rfl

/-! ### REGISTERED and REGISTER FAULT -/

section
variable (p : Port) {s : State} {u : UnitNo} {sh : Shirt} (hg : s.generation u ≤ 1023) (hsh : s.shirt u = some sh)

theorem acceptRegistered_eq {d : Design} (hsh : s.shirt u = some sh) (hd : (tget s.artworks sh.artwork).design = some d) :
    acceptRegistered u sh s =
      if d.firstCursor sh.dark = .finished then
        releasePrinted
          ((putShirt u (some { sh with print := some { white := 0, colour := 0, fired := 0, dry := 0 } }) s).setPrint
            { s.print with cursor := some .finished, watchdog := none, state := .passing })
      else
        (putShirt u (some { sh with print := some { white := 0, colour := 0, fired := 0, dry := 0 } }) s).setPrint
          { s.print with cursor := some (d.firstCursor sh.dark), watchdog := none, state := .passing } := by
  have design : designOf s sh = some d := hd
  unfold acceptRegistered
  rw [design, modifyShirt_some _ hsh]
  dsimp only [Option.map_some, Option.getD_some]
  split
  · next done => rw [done]; rfl
  · rfl

theorem acceptRegisterFault_eq (hsh : s.shirt u = some sh) :
    acceptRegisterFault u s = releasePrinted (stopWatchdog (writePrintError .registerFault (s.tagOf u) none
      (putShirt u (some { sh with fault := sh.fault.orElse fun _ => some .registerFault }) s))) := by
  unfold acceptRegisterFault noteFault
  rw [modifyShirt_some _ hsh]

include hg hsh

theorem registered_own :
    registered p (tagBytes (s.tagOf u)) s =
      if s.print.lateTag = some (s.tagOf u) then (.refused .late [], s)
      else if s.print.state = .registering then
        if s.print.held = some (s.tagOf u) then (.done [], acceptRegistered u sh s) else (.refused .sequence [], s)
      else if s.print.state = .passing ∧ s.print.held = some (s.tagOf u) then (.condition .already [], s)
      else (.refused .state [], s) := by
  unfold registered tagBytes bytes2
  dsimp only
  rw [withTag_own hg hsh]
  rfl

theorem registerFault_own :
    registerFault p (tagBytes (s.tagOf u)) s =
      if s.print.lateTag = some (s.tagOf u) then (.refused .late [], s)
      else if s.print.state = .registering then
        if s.print.held = some (s.tagOf u) then (.done [], acceptRegisterFault u s) else (.refused .sequence [], s)
      else (.refused .state [], s) := by
  unfold registerFault tagBytes bytes2
  dsimp only
  rw [withTag_own hg hsh]
  rfl

end

/-- Settles O42. -/
theorem registrationCases : Obligations.RegistrationCases := by
  intro s p f rest u sh d hbody hg hsh hd
  have accepted := registered_own (s := s.without p rest) p hg hsh
  have faulted := registerFault_own (s := s.without p rest) p hg hsh
  rw [State.without_tagOf, ← hbody, State.without_print] at accepted faulted
  refine ⟨fun hoff => ⟨fun hl => exec_offered hoff (r := .registered) (accepted.trans (if_pos hl)), fun hl =>
      ⟨fun hst hh => ?_, fun hst hh => ?_, fun hst hn => ?_, fun hst hh hc => ?_, fun hst hh hc => ?_⟩⟩,
    fun hoff => ⟨fun hl => exec_offered hoff (r := .registerFault) (faulted.trans (if_pos hl)), fun hl =>
      ⟨fun hst => ?_, fun hst hh => ?_, fun hst hh => ?_⟩⟩⟩
  · rw [if_neg hl, if_pos hst, if_neg hh] at accepted
    exact exec_offered hoff (r := .registered) accepted
  · rw [if_neg hl, if_neg (by rw [hst]; decide), if_pos ⟨hst, hh⟩] at accepted
    exact exec_offered hoff (r := .registered) accepted
  · rw [if_neg hl, if_neg hst, if_neg hn] at accepted
    exact exec_offered hoff (r := .registered) accepted
  · rw [if_neg hl, if_pos hst, if_pos hh, acceptRegistered_eq (s := s.without p rest) hsh hd, if_neg hc] at accepted
    exact exec_offered hoff (r := .registered) accepted
  · rw [if_neg hl, if_pos hst, if_pos hh, acceptRegistered_eq (s := s.without p rest) hsh hd, if_pos hc] at accepted
    exact exec_offered hoff (r := .registered) accepted
  · rw [if_neg hl, if_neg hst] at faulted
    exact exec_offered hoff (r := .registerFault) faulted
  · rw [if_neg hl, if_pos hst, if_neg hh] at faulted
    exact exec_offered hoff (r := .registerFault) faulted
  · rw [if_neg hl, if_pos hst, if_pos hh, acceptRegisterFault_eq (s := s.without p rest) hsh] at faulted
    exact exec_offered hoff (r := .registerFault) faulted

/-! ### The plan cursor -/

theorem firstPair_some {d : Design} {l : Layer} {first j : Nat} (h : d.firstPair l first = some j) :
    first ≤ j ∧ d.takesPair l j = true ∧ ∀ k, first ≤ k → k < j → d.takesPair l k = false := by
  obtain ⟨hj, _, below⟩ := List.find?_range_eq_some.mp h
  obtain ⟨hfirst, htakes⟩ := Bool.and_eq_true_iff.mp hj
  refine ⟨of_decide_eq_true hfirst, htakes, fun k hk hkj => ?_⟩
  have skipped := below k hkj
  rwa [decide_eq_true hk, Bool.true_and, Bool.not_eq_true'] at skipped

theorem firstPair_none {d : Design} {l : Layer} {first : Nat} (h : d.firstPair l first = none) {k : Nat} (hf : first ≤ k)
    (hk : k < d.pairs) : d.takesPair l k = false := by
  have skipped := List.find?_range_eq_none.mp h k hk
  rwa [decide_eq_true hf, Bool.true_and, Bool.not_eq_true'] at skipped

/-- A layer is entered at its lowest pair not skipped, or has none. -/
theorem enter_cases (d : Design) (l : Layer) (first : Nat) :
    (∃ j, d.enter l first = some (.at { layer := l, pair := j, rep := 0, half := 0 }) ∧ first ≤ j
        ∧ d.takesPair l j = true ∧ ∀ k, first ≤ k → k < j → d.takesPair l k = false)
      ∨ (d.enter l first = none ∧ ∀ k, first ≤ k → k < d.pairs → d.takesPair l k = false) := by
  unfold Design.enter
  cases h : d.firstPair l first with
  | some j => exact .inl ⟨j, rfl, firstPair_some h⟩
  | none => exact .inr ⟨rfl, fun k hk hp => firstPair_none h hk hp⟩

/-- Where the cursor starts: WHITE's lowest pair for a dark unit, else COLOUR's, else END. -/
theorem firstCursor_cases (d : Design) (dark : Bool) :
    (dark = true ∧ ∃ j, d.firstCursor dark = .at { layer := .white, pair := j, rep := 0, half := 0 }
        ∧ d.takesPair .white j = true ∧ ∀ k, k < j → d.takesPair .white k = false)
      ∨ ((dark = true → ∀ k, k < d.pairs → d.takesPair .white k = false)
        ∧ ((∃ j, d.firstCursor dark = .at { layer := .colour, pair := j, rep := 0, half := 0 }
            ∧ d.takesPair .colour j = true ∧ ∀ k, k < j → d.takesPair .colour k = false)
          ∨ (d.firstCursor dark = .finished ∧ ∀ k, k < d.pairs → d.takesPair .colour k = false))) := by
  have colour : (if dark = true then d.enter .white 0 else none) = none →
      (∃ j, d.firstCursor dark = .at { layer := .colour, pair := j, rep := 0, half := 0 }
          ∧ d.takesPair .colour j = true ∧ ∀ k, k < j → d.takesPair .colour k = false)
        ∨ (d.firstCursor dark = .finished ∧ ∀ k, k < d.pairs → d.takesPair .colour k = false) := fun h => by
    have start : d.firstCursor dark = (d.enter .colour 0).getD .finished := by unfold Design.firstCursor; rw [h]
    rw [start]
    obtain ⟨j, hj, _, htakes, below⟩ | ⟨hn, none_taken⟩ := enter_cases d .colour 0
    · exact .inl ⟨j, by rw [hj]; rfl, htakes, fun k => below k (Nat.zero_le k)⟩
    · exact .inr ⟨by rw [hn]; rfl, fun k => none_taken k (Nat.zero_le k)⟩
  cases dark with
  | false => exact .inr ⟨nofun, colour rfl⟩
  | true =>
    obtain ⟨j, hj, _, htakes, below⟩ | ⟨hn, none_taken⟩ := enter_cases d .white 0
    · exact .inl ⟨rfl, j, by unfold Design.firstCursor; rw [if_pos rfl, hj], htakes, fun k => below k (Nat.zero_le k)⟩
    · exact .inr ⟨fun _ k => none_taken k (Nat.zero_le k), colour (by rw [if_pos rfl, hn])⟩

/-- Where the cursor goes from the last half of a pair's last repeat: the layer's next pair, else COLOUR after WHITE,
else END. -/
theorem nextCursor_cases (d : Design) (t : Traverse) (hh : t.half = 1) (hr : t.rep + 1 = d.passes t.layer) :
    (∃ j, d.nextCursor t = .at { layer := t.layer, pair := j, rep := 0, half := 0 } ∧ t.pair < j
        ∧ d.takesPair t.layer j = true ∧ ∀ k, t.pair < k → k < j → d.takesPair t.layer k = false)
      ∨ ((∀ k, t.pair < k → k < d.pairs → d.takesPair t.layer k = false)
        ∧ ((t.layer = .white ∧ ∃ j, d.nextCursor t = .at { layer := .colour, pair := j, rep := 0, half := 0 }
            ∧ d.takesPair .colour j = true ∧ ∀ k, k < j → d.takesPair .colour k = false)
          ∨ (d.nextCursor t = .finished ∧ (t.layer = .white → ∀ k, k < d.pairs → d.takesPair .colour k = false)))) := by
  unfold Design.nextCursor
  rw [if_neg (by omega), if_neg (by omega)]
  obtain ⟨j, hj, hlt, htakes, below⟩ | ⟨hn, none_taken⟩ := enter_cases d t.layer (t.pair + 1)
  · exact .inl ⟨j, by rw [hj], hlt, htakes, below⟩
  · refine .inr ⟨none_taken, ?_⟩
    rw [hn]
    cases t.layer with
    | colour => exact .inr ⟨rfl, nofun⟩
    | white =>
      obtain ⟨j, hj, _, htakes, below⟩ | ⟨hn, none_taken⟩ := enter_cases d .colour 0
      · exact .inl ⟨rfl, j, by rw [hj]; rfl, htakes, fun k => below k (Nat.zero_le k)⟩
      · exact .inr ⟨by rw [hn]; rfl, fun _ k => none_taken k (Nat.zero_le k)⟩

/-- Settles O43. -/
theorem cursorWalksThePlan : Obligations.CursorWalksThePlan := by
  intro d t hhalf hrep hwhite hcolour
  refine ⟨fun dark t' h => ?_, fun dark h => ?_, fun hh => if_pos hh, fun hh hr => ?_, fun hh hr t' h => ?_,
    fun hh hr h k hk hcase => ?_⟩
  · obtain ⟨hdark, j, hj, htakes, below⟩ | ⟨hwhite, ⟨j, hj, htakes, below⟩ | ⟨hfin, _⟩⟩ := firstCursor_cases d dark
    · obtain rfl := Cursor.at.inj (hj.symm.trans h)
      exact ⟨htakes, rfl, rfl, fun light => absurd (light.symm.trans hdark) Bool.false_ne_true, below, fun _ => nofun⟩
    · obtain rfl := Cursor.at.inj (hj.symm.trans h)
      exact ⟨htakes, rfl, rfl, fun _ => rfl, below, fun hdark _ => hwhite hdark⟩
    · exact nomatch hfin.symm.trans h
  · obtain ⟨_, j, hj, _⟩ | ⟨hwhite, ⟨j, hj, _⟩ | ⟨_, hcolour⟩⟩ := firstCursor_cases d dark
    · exact nomatch hj.symm.trans h
    · exact nomatch hj.symm.trans h
    · exact ⟨hcolour, hwhite⟩
  · unfold Design.nextCursor
    rw [if_neg (by omega), if_pos hr]
  · obtain ⟨j, hj, hlt, htakes, below⟩ | ⟨hlast, ⟨hl, j, hj, htakes, below⟩ | ⟨hfin, _⟩⟩ := nextCursor_cases d t hh hr
    · obtain rfl := Cursor.at.inj (hj.symm.trans h)
      exact ⟨htakes, rfl, rfl, fun _ => ⟨hlt, below⟩, fun hne => absurd rfl hne⟩
    · obtain rfl := Cursor.at.inj (hj.symm.trans h)
      rw [hl] at hlast
      exact ⟨htakes, rfl, rfl, fun he => (nomatch (he.trans hl : Layer.colour = .white)), fun _ => ⟨hl, rfl, hlast, below⟩⟩
    · exact nomatch hfin.symm.trans h
  · obtain ⟨j, hj, _⟩ | ⟨hlast, ⟨_, j, hj, _⟩ | ⟨_, hcolour⟩⟩ := nextCursor_cases d t hh hr
    · exact nomatch hj.symm.trans h
    · exact nomatch hj.symm.trans h
    · exact ⟨fun hlt => hlast k hlt hk, fun hl => hcolour hl k hk⟩

end Sys2Proof.Machine
end

section
/-! O45 and O47: the swath reports and the watchdog's expiry. -/

namespace Sys2Proof.Machine

/-! ### The oldest order leaves the list -/

theorem afterOldest_eq (os : List SwathOrder) (s : State) :
    afterOldest os s = s.setPrint { s.print with
      inFlight := os
      watchdog := if os = [] then none else some { start := s.time.now, limit := s.print.watchdogLimit } } := by
  cases os <;> rfl

theorem parkIfDrained_aborting (s : State) :
    parkIfDrained (setPrintState .aborting s) =
      s.setPrint { s.print with state := if s.print.inFlight = [] then .parking else .aborting } := by
  unfold parkIfDrained
  by_cases h : s.print.inFlight = []
  · rw [if_pos h]
    exact if_pos ⟨rfl, h⟩
  · rw [if_neg h]
    exact if_neg fun both => h both.2

/-- An error record written leaves everything but the record, its count and the notice queues. -/
theorem writePrintError_eq (cause : PrintCause) (tag : Tag) (place : Option SwathPlace) (s : State) :
    writePrintError cause tag place s = { s with
      print := { s.print with
        errorRecord := (writePrintError cause tag place s).print.errorRecord
        errorCount := (writePrintError cause tag place s).print.errorCount }
      ports := (writePrintError cause tag place s).ports } := by
  cases h : s.print.errorRecord with
  | none => rw [writePrintError_empty cause tag place h]; rfl
  | some e =>
    rw [writePrintError_filled cause tag place (by rw [h]; rfl)]
    rfl

/-- What a failed swath does to its unit: in PASSING the fault is given it, where it has none. -/
def abortedShirt (s : State) (f : UnitFault) (sh : Shirt) : Shirt :=
  if s.print.state = .passing then { sh with fault := sh.fault.orElse fun _ => some f } else sh

/-- A failed swath: the unit by the station's state, the record of the failure, ABORTING or PARKING; nothing else of
the station, of the units or of the ring. -/
theorem abortPrint_spec {s : State} {o : SwathOrder} {sh : Shirt} (f : UnitFault) (cause : PrintCause)
    (hsh : s.shirt o.tag.unit = some sh) :
    ∃ (e : Option PrintFault) (n : Nat), (abortPrint o f cause s).print =
        { s.print with
          errorRecord := e, errorCount := n, state := if s.print.inFlight = [] then .parking else .aborting }
      ∧ (s.print.errorRecord = none → n = 0 ∧ e = some
          { cause := cause, tag := o.tag, stamp := s.time.now
            place := some { band := o.band, layer := o.layer, number := o.number } })
      ∧ (s.print.errorRecord.isSome = true → e = s.print.errorRecord)
      ∧ (abortPrint o f cause s).shirt o.tag.unit = some (abortedShirt s f sh)
      ∧ (∀ v : UnitNo, v ≠ o.tag.unit → (abortPrint o f cause s).shirt v = s.shirt v)
      ∧ (abortPrint o f cause s).ring = s.ring := by
  have given : (if s.print.state = .passing then noteFault o.tag.unit f s else s)
      = putShirt o.tag.unit (some (abortedShirt s f sh)) s := by
    unfold abortedShirt
    split
    · exact modifyShirt_some _ hsh
    · exact (putShirt_self hsh).symm
  unfold abortPrint
  rw [given]
  generalize hx : putShirt o.tag.unit (some (abortedShirt s f sh)) s = x
  have print : x.print = s.print := by rw [← hx]; rfl
  have ring : x.ring = s.ring := by rw [← hx]; rfl
  have time : x.time = s.time := by rw [← hx]; rfl
  dsimp only
  rw [parkIfDrained_aborting, writePrintError_eq]
  dsimp only
  refine ⟨_, _, by rw [print]; rfl, fun he => ?_, fun he => ?_, ?_, fun v hv => ?_, ring⟩
  · rw [writePrintError_empty _ _ _ (by rw [print]; exact he), ← time]
    exact ⟨rfl, rfl⟩
  · rw [writePrintError_filled (s := x) _ _ _ (by rw [print]; exact he)]
    change x.print.errorRecord = s.print.errorRecord
    exact congrArg Print.errorRecord print
  · change x.shirt o.tag.unit = _
    rw [← hx]
    exact putShirt_shirt_same ..
  · change x.shirt v = _
    rw [← hx]
    exact putShirt_shirt_ne _ _ hv

/-! ### SWATH DONE -/

section
variable (p : Port) {s : State} {n result : Byte}

theorem swathDone_badField (h : 2 < result.toNat) : swathDone p [n, result] s = (.refused .badField [], s) := if_pos h

theorem swathDone_late (h : result.toNat ≤ 2) (ht : n.toNat ∈ s.print.terminated) :
    swathDone p [n, result] s = (.refused .late [], s) := (if_neg (Nat.not_lt.mpr h)).trans (if_pos ht)

theorem working_state_iff (st : PrintState) : ¬(st ≠ .passing ∧ st ≠ .aborting) ↔ st ∈ [PrintState.passing, .aborting] := by
  cases st <;> decide

theorem swathDone_state (h : result.toNat ≤ 2) (ht : n.toNat ∉ s.print.terminated)
    (hs : s.print.state ∉ [PrintState.passing, .aborting]) : swathDone p [n, result] s = (.refused .state [], s) :=
  (if_neg (Nat.not_lt.mpr h)).trans ((if_neg ht).trans
    (if_pos (not_not.mp (mt (working_state_iff s.print.state).mp hs))))

variable (h : result.toNat ≤ 2) (ht : n.toNat ∉ s.print.terminated)
  (hs : s.print.state ∈ [PrintState.passing, .aborting])
include h ht hs

theorem swathDone_oldest {o : SwathOrder} {os : List SwathOrder} (hi : s.print.inFlight = o :: os) :
    swathDone p [n, result] s =
      if o.number = n.toNat then (.done [], swathReported o os result s) else (.refused .sequence [], s) := by
  unfold swathDone
  dsimp only
  rw [if_neg (Nat.not_lt.mpr h), if_neg ht, if_neg ((working_state_iff s.print.state).mpr hs), hi]
  rfl

theorem swathDone_none (hi : s.print.inFlight = []) : swathDone p [n, result] s = (.refused .sequence [], s) := by
  unfold swathDone
  dsimp only
  rw [if_neg (Nat.not_lt.mpr h), if_neg ht, if_neg ((working_state_iff s.print.state).mpr hs), hi]
  rfl

theorem swathDone_sequence (hi : ∀ o os, s.print.inFlight = o :: os → o.number ≠ n.toNat) :
    swathDone p [n, result] s = (.refused .sequence [], s) := by
  cases hl : s.print.inFlight with
  | nil => exact swathDone_none p h ht hs hl
  | cons o os => exact (swathDone_oldest p h ht hs hl).trans (if_neg (hi o os hl))

end

/-! ### An OK report -/

theorem countSwath_eq (d : Design) (o : SwathOrder) (r : PrintRecord) :
    countSwath o (d.coverageAt o.layer o.band) r =
      { white := r.white + if o.fire = true ∧ o.layer = .white then d.coverageAt .white o.band else 0
        colour := r.colour + if o.fire = true ∧ o.layer = .colour then d.coverageAt .colour o.band else 0
        fired := r.fired + if o.fire = true then 1 else 0
        dry := r.dry + if o.fire = true then 0 else 1 } := by
  unfold countSwath
  cases o.fire <;> cases o.layer <;> rfl

/-- The state once an OK report of the oldest order has been counted. -/
def swathCounted (o : SwathOrder) (os : List SwathOrder) (sh : Shirt) (r : PrintRecord) (d : Design) (s : State) : State :=
  (putShirt o.tag.unit (some { sh with
      print := some
        { white := r.white + if o.fire = true ∧ o.layer = .white then d.coverageAt .white o.band else 0
          colour := r.colour + if o.fire = true ∧ o.layer = .colour then d.coverageAt .colour o.band else 0
          fired := r.fired + if o.fire = true then 1 else 0
          dry := r.dry + if o.fire = true then 0 else 1 } }) s).setPrint
    { s.print with
      inFlight := os
      watchdog := if os = [] then none else some { start := s.time.now, limit := s.print.watchdogLimit } }

section
variable {s : State} {o : SwathOrder} {os : List SwathOrder} {sh : Shirt} {r : PrintRecord} {d : Design}

theorem swathOk_eq (hsh : s.shirt o.tag.unit = some sh) (hr : sh.print = some r) (hd : heldDesign s = some d) :
    swathOk o os s =
      if s.print.state = .passing ∧ s.print.cursor = some .finished ∧ os = [] then
        releasePrinted (swathCounted o os sh r d s)
      else parkIfDrained (swathCounted o os sh r d s) := by
  have counted : afterOldest os (creditSwath o s) = swathCounted o os sh r d s := by
    unfold creditSwath
    rw [afterOldest_eq, hd, modifyShirt_some _ hsh, hr, Option.map_some, Option.map_some, Option.getD_some, countSwath_eq]
    rfl
  unfold swathOk
  rw [counted]
  rfl

theorem parkIfDrained_passing (hs : s.print.state = .passing) :
    parkIfDrained (swathCounted o os sh r d s) = swathCounted o os sh r d s :=
  if_neg fun both => absurd (hs.symm.trans both.1) (by decide)

end

theorem failureOf_some {cause : PrintCause} {code : Byte} (h : failureOf cause = some code) (o : SwathOrder)
    (os : List SwathOrder) (s : State) : code.toNat ≤ 2 ∧ swathReported o os code s = swathFailed o os cause s := by
  cases cause with
  | nozzle => obtain rfl := Option.some.inj h; exact ⟨by decide, rfl⟩
  | strike => obtain rfl := Option.some.inj h; exact ⟨by decide, rfl⟩
  | registerFault | registerTimeout | swathTimeout => nomatch h

/-- Settles O45. -/
theorem swathReports : Obligations.SwathReports := by
  refine ⟨fun s p f rest n result hoff hbody => ⟨fun hr => ?_, fun hr => ⟨fun ht => ?_, fun ht hs => ?_, fun ht hs hi => ?_,
    fun o os sh r d ht hs hi hn hz hh hsh hp hd => ⟨_, rfl, ?_⟩⟩⟩,
    fun s p f rest n cause code o os sh hoff hc hbody ht hs hi hn hsh =>
      ⟨swathFailed o os cause (s.without p rest), ?_, ?_⟩⟩
  · exact exec_offered hoff (r := .swathDone) (by rw [hbody]; exact swathDone_badField p hr)
  · exact exec_offered hoff (r := .swathDone) (by rw [hbody]; exact swathDone_late (s := s.without p rest) p hr ht)
  · exact exec_offered hoff (r := .swathDone) (by rw [hbody]; exact swathDone_state (s := s.without p rest) p hr ht hs)
  · exact exec_offered hoff (r := .swathDone)
      (by rw [hbody]; exact swathDone_sequence (s := s.without p rest) p hr ht hs hi)
  · have row : swathDone p f.body (s.without p rest) = (.done [], swathOk o os (s.without p rest)) := by
      rw [hbody, swathDone_oldest (s := s.without p rest) p hr ht hs hi, if_pos hn, hz]
      rfl
    have ok := swathOk_eq (s := s.without p rest) (os := os) hsh hp hd
    refine ⟨fun hst hcur hos => ?_, fun hst hmore => ?_, fun hst hos => ?_, fun hst hos => ?_⟩
    · rw [ok, if_pos ⟨hst, hcur, hos⟩] at row
      exact exec_offered hoff (r := .swathDone) row
    · rw [ok, if_neg (by tauto), parkIfDrained_passing (s := s.without p rest) hst] at row
      exact exec_offered hoff (r := .swathDone) row
    · rw [ok, if_neg (by tauto), parkIfDrained, if_neg fun both => hos both.2] at row
      exact exec_offered hoff (r := .swathDone) row
    · rw [ok, if_neg (fun both => absurd (hst.symm.trans both.1) (by decide)), parkIfDrained, if_pos ⟨hst, hos⟩] at row
      exact exec_offered hoff (r := .swathDone) row
  · obtain ⟨small, failed⟩ := failureOf_some hc o os (s.without p rest)
    refine exec_offered hoff (r := .swathDone) ?_
    rw [hbody, ← failed]
    exact (swathDone_oldest (s := s.without p rest) p small ht hs hi).trans (if_pos hn)
  · unfold swathFailed
    rw [afterOldest_eq]
    obtain ⟨e, count, hprint, hempty, hfilled, hunit, hothers, hring⟩ := abortPrint_spec (o := o) .printAbort cause
      (s := (s.without p rest).setPrint { (s.without p rest).print with
        inFlight := os
        watchdog := if os = [] then none
          else some { start := (s.without p rest).time.now, limit := (s.without p rest).print.watchdogLimit } }) hsh
    refine ⟨(congrArg Print.inFlight hprint).trans rfl, (congrArg Print.state hprint).trans rfl, (congrArg Print.cursor hprint).trans rfl,
      (congrArg Print.held hprint).trans rfl, (congrArg Print.watchdog hprint).trans rfl, hunit, hothers, hring, fun he => ?_, fun he => ?_⟩
    · rw [hprint]
      exact hempty he
    · rw [hprint]
      exact hfilled he

/-! ### The watchdog's expiry -/

theorem watchdogDue_iff {s : State} {w : Watchdog} (hw : s.print.watchdog = some w) :
    watchdogDue s = true ↔ w.limit ≤ (s.time.now - w.start).toNat := by
  unfold watchdogDue
  rw [hw]
  exact decide_eq_true_iff

theorem watchdogExpiry_registering {s : State} {tag : Tag} (hs : s.print.state = .registering)
    (hh : s.print.held = some tag) : watchdogExpiry s = registrationTimeout tag s := by
  unfold watchdogExpiry
  rw [hs]
  dsimp only
  rw [hh]

theorem registrationTimeout_eq {s : State} {tag : Tag} {sh : Shirt} (hsh : s.shirt tag.unit = some sh) :
    registrationTimeout tag s = releasePrinted (writePrintError .registerTimeout tag none
      ((putShirt tag.unit (some { sh with fault := sh.fault.orElse fun _ => some .registerTimeout }) s).setPrint
        { s.print with lateTag := some tag })) := by
  have record : (s.setPrint { s.print with lateTag := some tag }).shirt tag.unit = some sh := hsh
  unfold registrationTimeout noteFault
  dsimp only
  rw [modifyShirt_some _ record]
  rfl

theorem watchdogExpiry_swath {s : State} {o : SwathOrder} {os : List SwathOrder}
    (hs : s.print.state ∈ [PrintState.passing, .aborting]) (hi : s.print.inFlight = o :: os) :
    watchdogExpiry s = terminateOldest o os s := by
  unfold watchdogExpiry
  simp only [List.mem_cons, List.not_mem_nil, or_false] at hs
  obtain hs | hs := hs
  all_goals
    rw [hs]
    dsimp only
    rw [hi]

/-- Settles O47. -/
theorem watchdogExpires : Obligations.WatchdogExpires := by
  intro s w hw
  refine ⟨fun early => ?_, fun due => ⟨fun tag sh hs hh hsh => ?_, fun o os sh hs hi hsh =>
    ⟨terminateOldest o os s, ?_, ?_⟩⟩⟩
  · exact congrArg Host.Outcome.next (if_neg fun due => Nat.not_le.mpr early ((watchdogDue_iff hw).mp due))
  · exact congrArg Host.Outcome.next
      ((if_pos ((watchdogDue_iff hw).mpr due)).trans
        ((watchdogExpiry_registering hs hh).trans (registrationTimeout_eq hsh)))
  · exact congrArg Host.Outcome.next ((if_pos ((watchdogDue_iff hw).mpr due)).trans (watchdogExpiry_swath hs hi))
  · unfold terminateOldest
    dsimp only
    rw [afterOldest_eq]
    generalize hx : (s.setPrint { s.print with terminated := s.print.terminated ++ [o.number] }).setPrint _ = x
    have record : x.shirt o.tag.unit = some sh := by rw [← hx]; exact hsh
    obtain ⟨e, count, hprint, hempty, _, hunit, hothers, hring⟩ := abortPrint_spec (o := o) .swathTimeout .swathTimeout record
    subst hx
    refine ⟨(congrArg Print.inFlight hprint).trans rfl, (congrArg Print.terminated hprint).trans rfl, (congrArg Print.state hprint).trans rfl,
      (congrArg Print.watchdog hprint).trans rfl, hunit, hothers, hring, fun he => ?_⟩
    rw [hprint]
    exact (hempty he).2

end Sys2Proof.Machine
end

section
/-! O49 and O50: the two profile writes, and the tunnel's entry sensor. -/

namespace Sys2Proof.Machine

/-! ### WRITE ENGINE PROFILE and WRITE CURE PROFILE -/

section
variable (p : Port) (s : State)

theorem writeEngineProfile_own {limit : Nat} (h : limit < 65536) :
    writeEngineProfile p (bytes2 limit) s =
      if limit ∉ [2000, 4000, 8000, 16000] then (.refused .badField [], s)
      else if s.print.quiesce ≠ .quiesced then (.refused .notQuiesced [], s)
      else (.done [], s.setPrint { s.print with watchdogLimit := limit }) := by
  unfold writeEngineProfile bytes2
  dsimp only
  rw [number2_bytes2 h]
  simp only [List.mem_cons, List.not_mem_nil, or_false, not_or]
  rfl

theorem writeCureProfile_eq {body : List Byte} {x : CureProfile} (h : profileOf body = some x) :
    writeCureProfile p body s =
      if !x.inRange then (.refused .badField [], s)
      else if s.tunnel.quiesce ≠ .quiesced then (.refused .notQuiesced [], s)
      else (.done [], acceptProfile x s) := by
  unfold writeCureProfile
  rw [h]
  rfl

end

/-! ### The round trip of a cure profile -/

/-- A table is read back out of a list that holds its entries from `first` onward. -/
theorem tableFrom_toList {n : Nat} (v : Vector Nat n) (before after : List Nat) :
    tableFrom (before ++ v.toList ++ after) before.length = v := by
  refine table_ext fun i => ?_
  have inside : before.length + i.val < (before ++ v.toList).length := by simp
  rw [tableFrom, tget_tableOf, List.getElem?_append_left inside, List.getElem?_append_right (Nat.le_add_right ..),
    Nat.add_sub_cancel_left]
  simp [tget]

theorem setpoints_toList (v : Vector Nat 4) : v.toList = [tget v 0, tget v 1, tget v 2, tget v 3] := by
  rw [toList_eq_tget]
  rfl

theorem toNat_ofNat_of_le {n : Nat} (h : n ≤ 255) : (BitVec.ofNat 8 n).toNat = n := by
  rw [BitVec.toNat_ofNat]
  omega

theorem flatMap_bytes2_length (l : List Nat) : (l.flatMap bytes2).length = 2 * l.length := by
  induction l with
  | nil => rfl
  | cons n l ih => rw [List.flatMap_cons, List.length_append, ih, List.length_cons]; change 2 + _ = _; omega

theorem profileBytes_length (x : CureProfile) : (profileBytes x).length = 48 := by
  unfold profileBytes
  simp only [List.length_append, flatMap_bytes2_length, setpoints_toList, Vector.length_toList]
  rfl

theorem profileOf_bytes {x : CureProfile} (hr : x.inRange = true) (hw : x.whiteWeight ≤ 255) (hc : x.colourWeight ≤ 255)
    (hm : ∀ c : Fin 8, tget x.margin c ≤ 65535) : profileOf (profileBytes x) = some x := by
  simp only [CureProfile.inRange, Bool.and_eq_true, Bool.or_eq_true, beq_iff_eq, decide_eq_true_eq, toList_eq_tget,
    List.all_map, List.all_eq_true, List.mem_finRange, forall_const, Function.comp_apply] at hr
  obtain ⟨⟨⟨⟨⟨⟨⟨⟨⟨⟨⟨hperiod, _⟩, hlength⟩, hwindow⟩, hset⟩, _⟩, hfloor⟩, _⟩, hgain⟩, _⟩, hlimit⟩, hbase⟩ := hr
  have point : ∀ z : Fin 4, (BitVec.ofNat 8 (tget x.setpoints z)).toNat = tget x.setpoints z := fun z =>
    toNat_ofNat_of_le ((hset z).2.trans (by decide))
  have tables : ∀ n ∈ x.base.toList ++ x.margin.toList, n < 65536 := fun n hn => by
    rw [List.mem_append, toList_eq_tget, toList_eq_tget] at hn
    obtain hn | hn := hn
    · obtain ⟨c, _, rfl⟩ := List.mem_map.mp hn
      exact Nat.lt_of_le_of_lt (hbase c) (by decide)
    · obtain ⟨c, _, rfl⟩ := List.mem_map.mp hn
      exact Nat.lt_succ_of_le (hm c)
  have base : tableFrom (x.base.toList ++ x.margin.toList) 0 = x.base := tableFrom_toList x.base [] _
  have margin : tableFrom (x.base.toList ++ x.margin.toList) 8 = x.margin := by
    have := tableFrom_toList x.margin x.base.toList []
    rwa [List.append_nil, Vector.length_toList] at this
  have setpoints : tableFrom [tget x.setpoints 0, tget x.setpoints 1, tget x.setpoints 2, tget x.setpoints 3] 0
      = x.setpoints := by
    rw [← setpoints_toList]
    have := tableFrom_toList x.setpoints [] []
    rwa [List.nil_append, List.append_nil] at this
  unfold profileBytes
  rw [setpoints_toList, List.append_assoc _ (x.base.toList.flatMap bytes2), ← List.flatMap_append]
  change some
    { tickPeriod := number2 (BitVec.ofNat 8 (x.tickPeriod / 256)) (BitVec.ofNat 8 x.tickPeriod)
      length := number2 (BitVec.ofNat 8 (x.length / 256)) (BitVec.ofNat 8 x.length)
      window := number2 (BitVec.ofNat 8 (x.window / 256)) (BitVec.ofNat 8 x.window)
      setpoints := tableFrom [(BitVec.ofNat 8 (tget x.setpoints 0)).toNat, (BitVec.ofNat 8 (tget x.setpoints 1)).toNat,
        (BitVec.ofNat 8 (tget x.setpoints 2)).toNat, (BitVec.ofNat 8 (tget x.setpoints 3)).toNat] 0
      floor := (BitVec.ofNat 8 x.floor).toNat, gain := (BitVec.ofNat 8 x.gain).toNat
      limit := number2 (BitVec.ofNat 8 (x.limit / 256)) (BitVec.ofNat 8 x.limit)
      whiteWeight := (BitVec.ofNat 8 x.whiteWeight).toNat, colourWeight := (BitVec.ofNat 8 x.colourWeight).toNat
      base := tableFrom (numbers2 ((x.base.toList ++ x.margin.toList).flatMap bytes2)) 0
      margin := tableFrom (numbers2 ((x.base.toList ++ x.margin.toList).flatMap bytes2)) 8 : CureProfile } = some x
  rw [numbers2_bytes2 tables, base, margin, point, point, point, point, setpoints, number2_bytes2 (by omega),
    number2_bytes2 (by omega), number2_bytes2 (by omega), number2_bytes2 (by omega), toNat_ofNat_of_le (by omega),
    toNat_ofNat_of_le (by omega), toNat_ofNat_of_le hw, toNat_ofNat_of_le hc]

/-- Settles O49. -/
theorem stationProfiles : Obligations.StationProfiles := by
  refine ⟨fun s p f rest => ⟨fun limit hoff hl hbody => ?_, fun x hoff hx => ?_⟩,
    fun x hr hw hc hm => ⟨profileBytes_length x, profileOf_bytes hr hw hc hm⟩⟩
  · have row := writeEngineProfile_own p (s.without p rest) hl
    rw [← hbody] at row
    refine ⟨fun hn => exec_offered hoff (r := .writeEngineProfile) (row.trans (if_pos hn)), fun hin hq => ?_,
      fun hin hq => ?_⟩
    all_goals rw [if_neg (not_not.mpr hin)] at row
    · exact exec_offered hoff (r := .writeEngineProfile) (row.trans (if_pos hq))
    · exact exec_offered hoff (r := .writeEngineProfile) (row.trans (if_neg (not_not.mpr hq)))
  · have row := writeCureProfile_eq p (s.without p rest) hx
    refine ⟨fun hr => ?_, fun hr hq => ?_, fun hr hq => ?_⟩
    all_goals rw [hr] at row
    · exact exec_offered hoff (r := .writeCureProfile) row
    · exact exec_offered hoff (r := .writeCureProfile) (row.trans (if_pos hq))
    · exact exec_offered hoff (r := .writeCureProfile) (row.trans (if_neg (not_not.mpr hq)))

/-! ### What the moves of a unit leave of the Tunnel station -/

section
variable (u : UnitNo) {s : State}

theorem retest_idle (h : s.tunnel.state = .idle) : retest s = s := by
  unfold retest
  rw [h]

theorem retest_stays_idle (h : s.tunnel.state = .idle) : (retest s).tunnel.state = .idle := by
  rw [retest_idle h]
  exact h

theorem leaveQueue_held (s : State) : (leaveQueue u s).tunnel.held = s.tunnel.held := by
  unfold leaveQueue
  split
  · dsimp only
    rw [retest_held]
    split
    · unfold completeQuiesce
      split <;> rfl
    · rfl
  · rfl

theorem leaveExits_held (s : State) : (leaveExits u s).tunnel.held = s.tunnel.held := by
  unfold leaveExits
  split
  · rw [retest_held]; rfl
  · rfl

theorem leaveQueue_absent (h : ∀ r ∈ s.tunnel.queue, r.unit ≠ u) : leaveQueue u s = s := by
  refine if_neg fun found => ?_
  obtain ⟨r, hr, hu⟩ := List.any_eq_true.mp found
  exact h r hr (of_decide_eq_true hu)

theorem leaveExits_idle (h : s.tunnel.state = .idle) : (leaveExits u s).tunnel.state = .idle := by
  unfold leaveExits
  split
  · exact retest_stays_idle h
  · exact h

theorem leavePlaten_none {sh : Shirt} (hsh : s.shirt u = some sh) (hp : sh.platen = none) : leavePlaten u s = s := by
  unfold leavePlaten
  rw [hsh, Option.bind_some, hp]

theorem freeUnit_tunnel {d : Disposition} {sh : Shirt} (hsh : s.shirt u = some sh) :
    (freeUnit d u s).tunnel = (leavePlace u s).tunnel := by
  unfold freeUnit
  rw [hsh]
  change (bookFreed _ _ _ _).tunnel = _
  rw [bookFreed_tunnel]

theorem loseUnit_eq {sh : Shirt} (reason : LostReason) (hsh : s.shirt u = some sh) :
    loseUnit u reason s = post .pack (.unitLost (s.tagOf u) sh.order sh.line.val reason) (freeUnit .lost u s) := by
  unfold loseUnit
  rw [hsh]

end

/-! ### The entry sensor lifts a unit -/

section
variable {s : State} {u : UnitNo} {sh : Shirt}

theorem liftUnit_tunnel :
    (liftUnit u s).tunnel = if s.tunnel.held = some u then { s.tunnel with state := .idle, held := none } else s.tunnel := by
  unfold liftUnit tunnelRelease
  dsimp only
  split
  · rw [releaseHold_tunnel, leavePlaten_tunnel]
    rfl
  · exact leavePlaten_tunnel u s

theorem liftUnit_ring :
    (liftUnit u s).ring = if s.tunnel.held = some u then (leavePlaten u s).ring.release .tunnel else (leavePlaten u s).ring := by
  unfold liftUnit tunnelRelease
  split <;> rfl

theorem liftUnit_units : (liftUnit u s).units = (leavePlaten u s).units := by
  unfold liftUnit tunnelRelease
  split <;> rfl

theorem liftUnit_pack : (liftUnit u s).pack = s.pack := by
  unfold liftUnit tunnelRelease
  dsimp only
  split
  · rw [releaseHold_pack]; exact leavePlaten_pack u s
  · exact leavePlaten_pack u s

theorem liftUnit_belt : (liftUnit u s).tunnel.belt = s.tunnel.belt := by rw [liftUnit_tunnel]; split <;> rfl
theorem liftUnit_quiesce : (liftUnit u s).tunnel.quiesce = s.tunnel.quiesce := by rw [liftUnit_tunnel]; split <;> rfl
theorem liftUnit_profile : (liftUnit u s).tunnel.profile = s.tunnel.profile := by rw [liftUnit_tunnel]; split <;> rfl

theorem liftUnit_shirt (hsh : s.shirt u = some sh) : (liftUnit u s).shirt u = some { sh with platen := none } := by
  rw [State.shirt, liftUnit_units]
  exact (leavePlaten_shirt_same u s).trans (by rw [hsh]; rfl)

theorem liftUnit_shirt_ne {v : UnitNo} (h : v ≠ u) : (liftUnit u s).shirt v = s.shirt v := by
  rw [State.shirt, liftUnit_units]
  exact leavePlaten_shirt_ne s h

theorem liftUnit_tagOf (v : UnitNo) : (liftUnit u s).tagOf v = s.tagOf v := by
  have generation : (liftUnit u s).generation v = s.generation v := by
    rw [State.generation, liftUnit_units]
    exact leavePlaten_generation u v s
  rw [State.tagOf, generation]
  rfl

theorem liftUnit_platen {pl : PlatenNo} (hsh : s.shirt u = some sh) (hp : sh.platen = some pl) :
    (tget (liftUnit u s).ring.platens pl).unit = none := by
  have left : (tget (leavePlaten u s).ring.platens pl).unit = none := by
    rw [leavePlaten_unit, hsh]
    exact if_pos hp
  rw [liftUnit_ring]
  split
  · rw [Ring.release_platens]; exact left
  · exact left

theorem leavePlaten_holds : (leavePlaten u s).ring.holds = s.ring.holds := by
  unfold leavePlaten
  split
  · rw [modifyShirt_ring]; rfl
  · rfl

/-- By R129's and R130's tables: the queue where it has room and the station is not QUIESCED, forced in or not, else
the exit list, else the unit is lost. -/
theorem tunnelEntry_eq (hu : unitAt s Holder.tunnel.position = some u) :
    tunnelEntry s =
      if s.tunnel.queue.length < 10 ∧ s.tunnel.quiesce ≠ .quiesced then enterQueue u (!entryTest s) (liftUnit u s)
      else if s.pack.exits.length < 16 then forceToExits u (liftUnit u s)
      else loseUnit u .noRoom (liftUnit u s) := by
  unfold tunnelEntry
  rw [hu]
  dsimp only
  cases he : entryTest s with
  | true =>
    obtain ⟨hq, _, hl, _⟩ := (entryTest_iff s).mp he
    rw [if_pos rfl, if_pos ⟨hl, by rw [hq]; decide⟩]
    rfl
  | false =>
    rw [if_neg Bool.false_ne_true, forcedEntry, liftUnit_queue, liftUnit_quiesce, liftUnit_pack]
    rfl

end

/-- The cure record of a transfer, from the exposure the unit needs. -/
theorem entryRecord_eq {pr : CureProfile} {sh : Shirt} {needed : Nat}
    (h : needed = if sh.fault.isSome = true then 0 else requiredExposure pr sh) :
    entryRecord pr sh =
      { required := some needed, exposure := 0, scorch := some (min (needed + tget pr.margin sh.sku.fabric) 65535)
        result := if sh.fault.isSome = true then .notRequired else .pending } := by
  subst h
  rfl

section
variable {u : UnitNo} {s : State} {sh : Shirt}

theorem enterQueue_queue (forced : Bool) :
    (enterQueue u forced s).tunnel.queue = s.tunnel.queue ++ [{ unit := u, entry := s.tunnel.belt }] := by
  rw [enterQueue, joinQueue_queue, modifyShirt_tunnel]

theorem joinQueue_held : (joinQueue u s).tunnel.held = s.tunnel.held := by rw [joinQueue, retest_held]; rfl

theorem joinQueue_idle (h : s.tunnel.state = .idle) : (joinQueue u s).tunnel.state = .idle := by
  exact retest_stays_idle h

theorem joinExits_held : (joinExits u s).tunnel.held = s.tunnel.held := by
  rw [joinExits, retest_held, setUnitState, modifyShirt_tunnel]
  rfl

theorem joinExits_tunnel_idle (h : s.tunnel.state = .idle) : (joinExits u s).tunnel = s.tunnel := by
  have idle : (setUnitState u .exited (s.setPack { s.pack with exits := s.pack.exits ++ [u] })).tunnel = s.tunnel :=
    modifyShirt_tunnel u _ _
  rw [joinExits, retest_idle (by rw [idle]; exact h), idle]

theorem joinExits_queue : (joinExits u s).tunnel.queue = s.tunnel.queue := by
  rw [joinExits, retest_queue, setUnitState, modifyShirt_tunnel]
  rfl

theorem joinExits_pack : (joinExits u s).pack = { s.pack with exits := s.pack.exits ++ [u] } := by
  rw [joinExits, retest_pack, setUnitState, modifyShirt_pack]
  rfl

theorem forceToExits_shirt_ne {v : UnitNo} (h : v ≠ u) : (forceToExits u s).shirt v = s.shirt v := by
  rw [forceToExits, joinExits_shirt_ne _ h, modifyShirt_shirt_ne _ _ h]

end

/-- Where a lifted unit goes, its platen stays empty, and the station's held unit, its IDLE and the holds stay. -/
structure LiftKept (pl : PlatenNo) (s t : State) : Prop where
  platen : (tget s.ring.platens pl).unit = none → (tget t.ring.platens pl).unit = none
  holds : t.ring.holds = s.ring.holds
  held : t.tunnel.held = s.tunnel.held
  idle : s.tunnel.state = .idle → t.tunnel.state = .idle

section
variable {u : UnitNo} {s : State} (pl : PlatenNo)

theorem liftKept_of_ring {t : State} (hr : t.ring = s.ring) (hh : t.tunnel.held = s.tunnel.held)
    (hi : s.tunnel.state = .idle → t.tunnel.state = .idle) : LiftKept pl s t :=
  ⟨fun h => by rw [hr]; exact h, by rw [hr], hh, hi⟩

theorem enterQueue_liftKept (forced : Bool) : LiftKept pl s (enterQueue u forced s) := by
  unfold enterQueue
  refine liftKept_of_ring pl ?_ ?_ fun h => joinQueue_idle ?_
  · rw [joinQueue_ring, modifyShirt_ring]
  · rw [joinQueue_held, modifyShirt_tunnel]
  · rw [modifyShirt_tunnel]; exact h

theorem forceToExits_liftKept : LiftKept pl s (forceToExits u s) := by
  unfold forceToExits
  refine liftKept_of_ring pl ?_ ?_ fun h => ?_
  · rw [joinExits_ring, modifyShirt_ring]
  · rw [joinExits_held, modifyShirt_tunnel]
  · rw [joinExits_tunnel_idle (by rw [modifyShirt_tunnel]; exact h), modifyShirt_tunnel]; exact h

theorem loseUnit_liftKept {sh : Shirt} (reason : LostReason) (hsh : s.shirt u = some sh) (hp : sh.platen = none)
    (hq : ∀ r ∈ s.tunnel.queue, r.unit ≠ u) : LiftKept pl s (loseUnit u reason s) := by
  rw [loseUnit_eq u reason hsh]
  have off : leavePlaten u s = s := leavePlaten_none u hsh hp
  have place : leavePlace u s = leaveExits u s := by rw [leavePlace, off, leaveQueue_absent u hq]
  refine liftKept_of_ring pl ?_ ?_ fun h => ?_
  · rw [post_ring, freeUnit_ring, off]
  · rw [post_tunnel, freeUnit_tunnel u hsh, place, leaveExits_held]
  · rw [post_tunnel, freeUnit_tunnel u hsh, place, leaveExits_idle u h]

end

/-- What stands of the platen, of the station's held unit and of its hold once the lifted unit has gone where it goes. -/
theorem LiftKept.entry {pl : PlatenNo} {u : UnitNo} {s t : State} {sh : Shirt} (h : LiftKept pl (liftUnit u s) t)
    (hsh : s.shirt u = some sh) (hp : sh.platen = some pl) :
    (tget t.ring.platens pl).unit = none
      ∧ (s.tunnel.held = some u → t.tunnel.held = none ∧ t.tunnel.state = .idle ∧ t.ring.holds.get .tunnel = false)
      ∧ (s.tunnel.held ≠ some u → t.tunnel.held = s.tunnel.held ∧ t.ring.holds = s.ring.holds) := by
  refine ⟨h.platen (liftUnit_platen hsh hp), fun held => ?_, fun other => ?_⟩
  · have tunnel := (liftUnit_tunnel (s := s) (u := u)).trans (if_pos held)
    refine ⟨by rw [h.held, tunnel], h.idle (by rw [tunnel]), ?_⟩
    rw [h.holds, liftUnit_ring, if_pos held]
    exact Ring.release_hold ..
  · refine ⟨by rw [h.held, liftUnit_tunnel, if_neg other], ?_⟩
    rw [h.holds, liftUnit_ring, if_neg other, leavePlaten_holds]

/-- Settles O50. -/
theorem tunnelEntryTable : Obligations.TunnelEntryTable := by
  intro s
  refine ⟨fun h => ?_, ?_⟩
  · refine congrArg Host.Outcome.next ?_
    have none_there : unitAt s Holder.tunnel.position = none := unitAt_eq_none h
    unfold tunnelEntry
    rw [none_there]
  · intro pl u sh white colour fluid needed hpl hu hsh hp hq hwhite hcolour hfluid hneeded
    have there : unitAt s Holder.tunnel.position = some u := by
      have at9 : platenAt s Holder.tunnel.position = some pl := hpl
      rw [unitAt, at9]
      exact hu
    have lifted := liftUnit_shirt hsh
    have need : needed = if sh.fault.isSome = true then 0 else requiredExposure s.tunnel.profile sh := by
      subst hwhite hcolour hfluid
      exact hneeded.trans (congrArg (fun n => if sh.fault.isSome = true then 0 else n)
        (requiredExposure_eq s.tunnel.profile sh).symm)
    have row := tunnelEntry_eq there
    have exec_row : exec .tunnelEntrySensor s = .next (tunnelEntry s) := rfl
    by_cases enters : s.tunnel.queue.length < 10 ∧ s.tunnel.quiesce ≠ .quiesced
    · rw [if_pos enters] at row
      obtain ⟨hlen, hquiesce⟩ := enters
      have stays : ¬(10 ≤ s.tunnel.queue.length ∨ s.tunnel.quiesce = .quiesced) :=
        not_or.mpr ⟨Nat.not_le.mpr hlen, hquiesce⟩
      obtain ⟨hplaten, hheld, hother⟩ := (enterQueue_liftKept (u := u) (s := liftUnit u s) pl (!entryTest s)).entry hsh hp
      rw [exec_row, row]
      refine ⟨_, rfl, hplaten, hheld, hother, fun _ _ => ⟨?_, ?_, fun v hv => ?_, ?_⟩, fun h => absurd h stays,
        fun h => absurd h stays⟩
      · rw [enterQueue_queue, liftUnit_queue, liftUnit_belt]
      · rw [enterQueue, joinQueue_pack, modifyShirt_pack, liftUnit_pack]
      · rw [enterQueue_shirt_ne _ _ hv, liftUnit_shirt_ne hv]
      · have admitted : entryTest s = true ↔ s.tunnel.quiesce = .running ∧ s.tunnel.ready = true ∧ s.pack.exits.length < 16 := by
          rw [entryTest_iff]
          simp only [hlen, true_and]
        have flag : (sh.flags.unreadyEntry || !entryTest s) =
            if s.tunnel.quiesce = .running ∧ s.tunnel.ready = true ∧ s.pack.exits.length < 16 then sh.flags.unreadyEntry
            else true := by
          by_cases h : entryTest s = true
          · rw [if_pos (admitted.mp h), h, Bool.not_true, Bool.or_false]
          · rw [if_neg (mt admitted.mpr h), Bool.eq_false_iff.mpr h, Bool.not_false, Bool.or_true]
        rw [enterQueue_shirt _ lifted, liftUnit_profile, entryRecord_eq (sh := { sh with platen := none }) need, flag]
    · rw [if_neg enters] at row
      have full : 10 ≤ s.tunnel.queue.length ∨ s.tunnel.quiesce = .quiesced := by
        rw [not_and_or, not_not] at enters
        exact enters.imp_left Nat.not_lt.mp
      have not_entered : s.tunnel.queue.length < 10 → s.tunnel.quiesce = .quiesced :=
        fun h => full.resolve_left (Nat.not_le.mpr h)
      have shut : s.tunnel.queue.length < 10 →
          ¬((s.tunnel.quiesce = .running ∧ s.tunnel.ready = true ∧ s.pack.exits.length < 16)
            ∨ (s.tunnel.quiesce ≠ .quiesced
              ∧ ¬(s.tunnel.quiesce = .running ∧ s.tunnel.ready = true ∧ s.pack.exits.length < 16))) := fun h => by
        rw [not_entered h]
        simp
      by_cases room : s.pack.exits.length < 16
      · rw [if_pos room] at row
        obtain ⟨hplaten, hheld, hother⟩ := (forceToExits_liftKept (u := u) (s := liftUnit u s) pl).entry hsh hp
        rw [exec_row, row]
        refine ⟨_, rfl, hplaten, hheld, hother, fun h h' => absurd h' (shut h), fun _ _ => ⟨?_, ?_, fun v hv => ?_, ?_⟩,
          fun _ h => absurd room (Nat.not_lt.mpr h)⟩
        · rw [forceToExits, joinExits_queue, modifyShirt_tunnel, liftUnit_queue]
        · rw [forceToExits, joinExits_pack, modifyShirt_pack, liftUnit_pack]
        · rw [forceToExits_shirt_ne hv, liftUnit_shirt_ne hv]
        · exact forceToExits_shirt lifted
      · rw [if_neg room] at row
        have unqueued : ∀ r ∈ (liftUnit u s).tunnel.queue, r.unit ≠ u := by rw [liftUnit_queue]; exact hq
        obtain ⟨hplaten, hheld, hother⟩ := (loseUnit_liftKept pl .noRoom lifted rfl unqueued).entry hsh hp
        rw [exec_row, row]
        refine ⟨_, rfl, hplaten, hheld, hother, fun h h' => absurd h' (shut h), fun _ h => absurd h room, fun _ _ => ?_⟩
        rw [loseUnit_eq u .noRoom lifted, liftUnit_tagOf]
        refine ⟨?_, ?_, _, rfl⟩
        · rw [State.shirt, post_units]
          exact freeUnit_shirt .lost u _
        · rw [post_tunnel, freeUnit_queue lifted, liftUnit_queue]
          exact List.filter_eq_self.mpr fun r hr => decide_eq_true (hq r hr)

end Sys2Proof.Machine
end

section
/-! O51: belt steps with their missing-garment test, and the exit sensor. -/

namespace Sys2Proof.Machine

/-! ### A record leaves the queue -/

section
variable (u : UnitNo) (s : State)

theorem retest_state :
    (retest s).tunnel.state =
      if s.tunnel.state = .idle then .idle else if entryTest s then .transferWait else .inhibited := by
  obtain ⟨hi, he⟩ | ⟨hi, he⟩ := retest_cases s
  · rw [he, if_pos hi, hi]
  · rw [he, if_neg hi]
    rfl

theorem retest_idle_iff : (retest s).tunnel.state = .idle ↔ s.tunnel.state = .idle := by
  rw [retest_state]
  by_cases idle : s.tunnel.state = .idle
  · rw [if_pos idle]
    exact ⟨fun _ => idle, fun _ => rfl⟩
  · rw [if_neg idle]
    cases entryTest s <;> simp [idle]

/-- The completion of the tunnel's quiesce touches the quiesce state and the Order port alone. -/
theorem completeTunnelQuiesce_eq :
    completeQuiesce .tunnel s = { s with
      tunnel := { s.tunnel with quiesce := (completeQuiesce .tunnel s).tunnel.quiesce }
      ports := (completeQuiesce .tunnel s).ports } := by
  obtain ⟨_, he⟩ | ⟨_, he⟩ := completeQuiesce_cases .tunnel s
  · rw [he]
  · rw [he]; rfl

/-- The record's leaving touches the queue, the quiesce state, the station's state and the ports alone. -/
theorem leaveQueue_tunnel :
    (leaveQueue u s).tunnel = { s.tunnel with
      queue := s.tunnel.queue.filter fun r => decide (r.unit ≠ u)
      quiesce := (leaveQueue u s).tunnel.quiesce, state := (leaveQueue u s).tunnel.state } := by
  have queue := leaveQueue_queue u s
  by_cases found : (s.tunnel.queue.any fun r => decide (r.unit = u)) = true
  · have left : ∀ x : State, (retest x).tunnel = { x.tunnel with state := (retest x).tunnel.state } := fun x => by
      obtain ⟨_, he⟩ | ⟨_, he⟩ := retest_cases x
      · rw [he]
      · rw [he]; rfl
    unfold leaveQueue
    rw [if_pos found]
    dsimp only
    rw [left]
    split
    · rw [completeTunnelQuiesce_eq]; rfl
    · rfl
  · have absent : leaveQueue u s = s := if_neg found
    rw [absent] at queue ⊢
    rw [← queue]

theorem leaveQueue_idle_iff : (leaveQueue u s).tunnel.state = .idle ↔ s.tunnel.state = .idle := by
  have completed : ∀ x : State,
      (if x.tunnel.queue.isEmpty = true then completeQuiesce .tunnel x else x).tunnel.state = x.tunnel.state := fun x => by
    split
    · rw [completeTunnelQuiesce_eq]
    · rfl
  unfold leaveQueue
  split
  · dsimp only
    rw [retest_idle_iff, completed]
    exact Iff.rfl
  · exact Iff.rfl

theorem leaveQueue_belt : (leaveQueue u s).tunnel.belt = s.tunnel.belt := by rw [leaveQueue_tunnel]
theorem leaveQueue_profile : (leaveQueue u s).tunnel.profile = s.tunnel.profile := by rw [leaveQueue_tunnel]
theorem leaveQueue_ready : (leaveQueue u s).tunnel.ready = s.tunnel.ready := by rw [leaveQueue_tunnel]

end

/-! ### The missing-garment test -/

section
variable (u : UnitNo) (reason : LostReason) (s : State)

theorem leavePlace_belt : (leavePlace u s).tunnel.belt = s.tunnel.belt := by
  rw [leavePlace, leaveExits_belt, leaveQueue_belt, leavePlaten_tunnel]

theorem leaveExits_profile : (leaveExits u s).tunnel.profile = s.tunnel.profile := by
  unfold leaveExits
  split
  · rw [retest_profile]; rfl
  · rfl

theorem leavePlace_profile : (leavePlace u s).tunnel.profile = s.tunnel.profile := by
  rw [leavePlace, leaveExits_profile, leaveQueue_profile, leavePlaten_tunnel]

theorem loseUnit_belt : (loseUnit u reason s).tunnel.belt = s.tunnel.belt := by
  cases hsh : s.shirt u with
  | none => unfold loseUnit; rw [hsh]; exact leaveQueue_belt u s
  | some sh => rw [loseUnit_eq u reason hsh, post_tunnel, freeUnit_tunnel u hsh, leavePlace_belt]

theorem loseUnit_profile : (loseUnit u reason s).tunnel.profile = s.tunnel.profile := by
  cases hsh : s.shirt u with
  | none => unfold loseUnit; rw [hsh]; exact leaveQueue_profile u s
  | some sh => rw [loseUnit_eq u reason hsh, post_tunnel, freeUnit_tunnel u hsh, leavePlace_profile]

theorem loseUnit_queue :
    (loseUnit u reason s).tunnel.queue = s.tunnel.queue.filter fun r => decide (r.unit ≠ u) := by
  cases hsh : s.shirt u with
  | none => unfold loseUnit; rw [hsh]; exact leaveQueue_queue u s
  | some sh => rw [loseUnit_eq u reason hsh, post_tunnel, freeUnit_queue hsh]

end

/-- The oldest record of the queue is within L + W. -/
def OldestWithin (s : State) : Prop :=
  ∀ r rs, s.tunnel.queue = r :: rs → (s.tunnel.belt - r.entry).toNat ≤ s.tunnel.profile.length + s.tunnel.profile.window

section
variable {s : State}

theorem missingGarments_within (fuel : Nat) (h : OldestWithin s) : missingGarments fuel s = s := by
  cases fuel with
  | zero => rfl
  | succ fuel =>
    unfold missingGarments
    split
    · rfl
    · next r rs hq => exact if_neg (Nat.not_lt.mpr (h r rs hq))

theorem missingGarments_beyond (fuel : Nat) {r : QueueRecord} {rs : List QueueRecord} (hq : s.tunnel.queue = r :: rs)
    (h : s.tunnel.profile.length + s.tunnel.profile.window < (s.tunnel.belt - r.entry).toNat) :
    missingGarments (fuel + 1) s = missingGarments fuel (loseUnit r.unit .missing s) := by
  rw [missingGarments, hq]
  exact if_pos h

/-- With fuel for the whole queue the test leaves an oldest record within L + W, the belt and the profile. -/
theorem missingGarments_spec (fuel : Nat) (hf : s.tunnel.queue.length ≤ fuel) :
    OldestWithin (missingGarments fuel s) ∧ (missingGarments fuel s).tunnel.belt = s.tunnel.belt := by
  induction fuel generalizing s with
  | zero =>
    have empty : s.tunnel.queue = [] := List.length_eq_zero_iff.mp (Nat.le_zero.mp hf)
    exact ⟨fun r rs hq => absurd (empty.symm.trans hq) nofun, rfl⟩
  | succ fuel ih =>
    by_cases within : OldestWithin s
    · rw [missingGarments_within _ within]
      exact ⟨within, rfl⟩
    · unfold OldestWithin at within
      push Not at within
      obtain ⟨r, rs, hq, beyond⟩ := within
      rw [missingGarments_beyond fuel hq beyond, ← loseUnit_belt r.unit .missing s]
      refine ih ?_
      rw [loseUnit_queue, hq, List.filter_cons_of_neg (by simp)]
      rw [hq, List.length_cons] at hf
      exact (List.length_filter_le _ rs).trans (Nat.le_of_succ_le_succ hf)

end

/-! ### The exit sensor -/

section
variable {s : State} {r : QueueRecord} {rs : List QueueRecord} (hq : s.tunnel.queue = r :: rs)
include hq

theorem tunnelExit_eq :
    tunnelExit s =
      if (s.tunnel.belt - r.entry).toNat < s.tunnel.profile.length - s.tunnel.profile.window then
        post .pack (.ghostExit s.tunnel.belt (some (s.tagOf r.unit, s.tunnel.belt - r.entry))) s
      else if s.pack.exits.length < 16 then exitUnit r.unit s
      else loseUnit r.unit .exitFull s := by
  unfold tunnelExit
  rw [hq]
  rfl

theorem leaveQueue_oldest (hrs : ∀ x ∈ rs, x.unit ≠ r.unit) : (leaveQueue r.unit s).tunnel.queue = rs := by
  rw [leaveQueue_queue, hq, List.filter_cons_of_neg (by simp)]
  exact List.filter_eq_self.mpr fun x hx => decide_eq_true (hrs x hx)

/-- The exit that empties the queue of a QUIESCING station completes its quiesce. -/
theorem leaveQueue_last (hrs : rs = []) (hst : s.tunnel.quiesce = .quiescing) :
    (leaveQueue r.unit s).tunnel.quiesce = .quiesced
      ∧ (leaveQueue r.unit s).port .order = (s.port .order).join { notice := .quiesced .tunnel, stamp := s.time.now }
      ∧ ∀ q, q ≠ Port.order → (leaveQueue r.unit s).port q = s.port q := by
  subst hrs
  refine leaveQueue_completes ⟨r, by rw [hq]; exact List.mem_singleton_self r, rfl⟩ (fun x hx => ?_) hst
  rw [hq] at hx
  rw [List.mem_singleton.mp hx]

theorem leaveQueue_notLast (hne : ∀ x ∈ rs, x.unit ≠ r.unit) (h : rs ≠ [] ∨ s.tunnel.quiesce ≠ .quiescing) :
    (leaveQueue r.unit s).tunnel.quiesce = s.tunnel.quiesce ∧ (leaveQueue r.unit s).ports = s.ports := by
  refine leaveQueue_quiesce_stays (h.imp_left fun more => ?_)
  obtain ⟨x, hx⟩ := List.exists_mem_of_ne_nil rs more
  exact ⟨x, by rw [hq]; exact List.mem_cons_of_mem r hx, hne x hx⟩

/-- An exit leaves a station RUNNING exactly where it was. -/
theorem leaveQueue_running (hne : ∀ x ∈ rs, x.unit ≠ r.unit) :
    (leaveQueue r.unit s).tunnel.quiesce = .running ↔ s.tunnel.quiesce = .running := by
  by_cases last : rs = [] ∧ s.tunnel.quiesce = .quiescing
  · rw [(leaveQueue_last hq last.1 last.2).1, last.2]
    decide
  · rw [not_and_or] at last
    rw [(leaveQueue_notLast hq hne last).1]

end

section
variable {s : State} {u : UnitNo}

theorem exitUnit_tunnel : (exitUnit u s).tunnel = (joinExits u (leaveQueue u s)).tunnel := modifyShirt_tunnel ..

theorem exitUnit_ports : (exitUnit u s).ports = (leaveQueue u s).ports :=
  (modifyShirt_ports ..).trans (joinExits_ports u _)

theorem exitUnit_pack : (exitUnit u s).pack = { s.pack with exits := s.pack.exits ++ [u] } := by
  rw [exitUnit, modifyShirt_pack, joinExits_pack, leaveQueue_pack]

theorem exitUnit_shirt {sh : Shirt} (hsh : s.shirt u = some sh) :
    (exitUnit u s).shirt u =
      some { sh with state := .exited, cure := sh.cure.map fun c => { c with result := c.judged } } := by
  have left : (leaveQueue u s).shirt u = some sh := by rw [State.shirt, leaveQueue_units]; exact hsh
  rw [exitUnit, modifyShirt_shirt_same, joinExits_shirt left]
  rfl

theorem exitUnit_shirt_ne {v : UnitNo} (h : v ≠ u) : (exitUnit u s).shirt v = s.shirt v := by
  rw [exitUnit, modifyShirt_shirt_ne _ _ h, joinExits_shirt_ne _ h, State.shirt, leaveQueue_units]
  rfl

theorem joinExits_tunnel (s : State) :
    (joinExits u s).tunnel = { s.tunnel with state := (joinExits u s).tunnel.state } := by
  have joined : (setUnitState u .exited (s.setPack { s.pack with exits := s.pack.exits ++ [u] })).tunnel = s.tunnel :=
    modifyShirt_tunnel ..
  unfold joinExits
  obtain ⟨_, he⟩ | ⟨_, he⟩ := retest_cases (setUnitState u .exited (s.setPack { s.pack with exits := s.pack.exits ++ [u] }))
  · rw [he, joined]
  · rw [he, State.setTunnel_tunnel, joined]

theorem joinExits_state (s : State) :
    (joinExits u s).tunnel.state =
      if s.tunnel.state = .idle then .idle
      else if s.tunnel.quiesce = .running ∧ s.tunnel.ready = true ∧ s.tunnel.queue.length < 10
          ∧ s.pack.exits.length + 1 < 16 then .transferWait
      else .inhibited := by
  generalize hx : setUnitState u .exited (s.setPack { s.pack with exits := s.pack.exits ++ [u] }) = x
  have tunnel : x.tunnel = s.tunnel := by rw [← hx]; exact modifyShirt_tunnel ..
  have exits : x.pack.exits = s.pack.exits ++ [u] := by
    rw [← hx, setUnitState, modifyShirt_pack]
    rfl
  rw [joinExits, hx, retest_state, tunnel]
  simp only [entryTest_iff, tunnel, exits, List.length_append, List.length_singleton]

end

/-- Settles O51. -/
theorem beltStepAndTunnelExit : Obligations.BeltStepAndTunnelExit := by
  refine ⟨fun s => ?_, fun s => ⟨fun hq => ?_, fun r rs hq => ⟨fun early => ?_, fun late => ⟨fun sh hsh full => ?_,
    fun sh c needed scorch hsh hc hneeded hscorch room hne => ⟨exitUnit r.unit s, ?_, ?_⟩⟩⟩⟩⟩
  · have row : exec .beltStep s = .next (missingGarments s.tunnel.queue.length
      (s.setTunnel { s.tunnel with belt := s.tunnel.belt + 1 })) := rfl
    generalize hx : s.setTunnel { s.tunnel with belt := s.tunnel.belt + 1 } = x at row ⊢
    have queue : x.tunnel.queue = s.tunnel.queue := by rw [← hx]; rfl
    have belt : x.tunnel.belt = s.tunnel.belt + 1 := by rw [← hx]; rfl
    have profile : x.tunnel.profile = s.tunnel.profile := by rw [← hx]; rfl
    have tag : ∀ u, x.tagOf u = s.tagOf u := fun u => by rw [← hx]; rfl
    have shirt : ∀ u, x.shirt u = s.shirt u := fun u => by rw [← hx]; rfl
    rw [row]
    refine ⟨⟨_, rfl, ?_⟩, fun within => ?_, fun r rs sh hq hsh beyond within => ?_⟩
    · obtain ⟨oldest, hbelt⟩ := missingGarments_spec (s := x) s.tunnel.queue.length (by rw [queue])
      exact ⟨hbelt.trans belt, oldest⟩
    · refine congrArg Host.Outcome.next (missingGarments_within _ fun r rs hq => ?_)
      rw [belt, profile]
      exact within r rs (queue.symm.trans hq)
    · refine congrArg Host.Outcome.next ?_
      rw [hq, List.length_cons, missingGarments_beyond _ (queue.trans hq) (by rw [belt, profile]; exact beyond),
        missingGarments_within _ fun r' rs' hq' => ?_, loseUnit_eq _ _ ((shirt r.unit).trans hsh), tag]
      rw [loseUnit_queue, queue, hq, List.filter_cons_of_neg (by simp)] at hq'
      rw [loseUnit_belt, loseUnit_profile, belt, profile]
      exact within r' (List.mem_filter.mp (by rw [hq']; exact List.mem_cons_self)).1
  · refine congrArg Host.Outcome.next ?_
    unfold tunnelExit
    rw [hq]
  · exact congrArg Host.Outcome.next ((tunnelExit_eq hq).trans (if_pos early))
  · refine congrArg Host.Outcome.next ((tunnelExit_eq hq).trans ((if_neg (Nat.not_lt.mpr late)).trans
      ((if_neg (Nat.not_lt.mpr full)).trans (loseUnit_eq _ _ hsh))))
  · exact congrArg Host.Outcome.next ((tunnelExit_eq hq).trans ((if_neg (Nat.not_lt.mpr late)).trans (if_pos room)))
  · have left := leaveQueue_oldest hq hne
    have tunnel : (exitUnit r.unit s).tunnel = { (leaveQueue r.unit s).tunnel with
        state := (joinExits r.unit (leaveQueue r.unit s)).tunnel.state } :=
      exitUnit_tunnel.trans (joinExits_tunnel _)
    have ports : ∀ q, (exitUnit r.unit s).port q = (leaveQueue r.unit s).port q := fun q => by
      rw [State.port, exitUnit_ports]
      rfl
    refine ⟨?_, exitUnit_pack, ?_, fun v hv => exitUnit_shirt_ne hv, ?_, ?_, ?_, fun hrs hst => ?_, fun h => ?_, ?_, ?_⟩
    · rw [tunnel]; exact left
    · rw [exitUnit_shirt hsh, hc, Option.map_some, CureRecord.judged, hneeded, hscorch]
      rfl
    · rw [exitUnit, modifyShirt_ring, joinExits_ring, leaveQueue_ring]
    · rw [exitUnit, modifyShirt_book, joinExits_book, leaveQueue_book]
    · rw [tunnel]; exact leaveQueue_profile r.unit s
    · obtain ⟨done, order, others⟩ := leaveQueue_last hq hrs hst
      rw [ports, tunnel]
      exact ⟨done, order, fun q hne => (ports q).trans (others q hne)⟩
    · obtain ⟨stays, same⟩ := leaveQueue_notLast hq hne h
      rw [tunnel]
      exact ⟨stays, fun q => (ports q).trans (by rw [State.port, same]; rfl)⟩
    · rw [tunnel]; exact leaveQueue_held r.unit s
    · rw [exitUnit_tunnel, joinExits_state]
      simp only [leaveQueue_idle_iff, leaveQueue_running hq hne, leaveQueue_ready, left, leaveQueue_pack]

end Sys2Proof.Machine
end

section
/-! O53: the work of a cure tick. -/

namespace Sys2Proof.Machine

/-! ### A zone through a cure tick (R137, R139) -/

/-- The temperature a tick takes: the last valid reading, halved. -/
def Zone.measured (x : Zone) : Nat := (x.lastValid.map (· / 2)).getD x.temperature

/-- The ticks without a reading, as a tick counts them. -/
def Zone.silence (x : Zone) : Nat := if x.heard = true then x.missed else min (x.missed + 1) 3

/-- A zone after the absence stage. -/
def Zone.silenced (x : Zone) : Zone :=
  if x.heard then x
  else if 2 ≤ x.missed ∧ x.state = .live then { x with missed := 3, state := .stale, staleTicks := 0 }
  else { x with missed := min (x.missed + 1) 3 }

/-- A zone after the stale count. -/
def Zone.aged (x : Zone) : Zone :=
  if x.state = .stale then
    if x.staleTicks + 1 < 9 then { x with staleTicks := x.staleTicks + 1 }
    else { x with staleTicks := 9, state := .lapsed, duty := 0, overtemp := false }
  else x

/-- A zone after the duty stage. -/
def Zone.driven (pr : CureProfile) (z : ZoneNo) (x : Zone) : Zone :=
  match x.state with
  | .live => x.revised pr z
  | .stale => x
  | .lapsed => { x with duty := 0 }

/-- A zone after the sensor stages of a tick. -/
def Zone.sensed (x : Zone) : Zone := { x.takeTemperature.silenced with heard := false }.aged

theorem takeTemperature_eq (x : Zone) : x.takeTemperature = { x with temperature := x.measured } := by
  unfold Zone.takeTemperature
  split
  · next r hr =>
    have measured : x.measured = r / 2 := by rw [Zone.measured, hr]; rfl
    rw [measured]
  · next hn =>
    have measured : x.measured = x.temperature := by rw [Zone.measured, hn]; rfl
    rw [measured]

theorem zoneState_cases (st : ZoneState) : st = .live ∨ st = .stale ∨ st = .lapsed := by cases st <;> decide

/-- A zone that does not fall silent at this tick counts its absence and keeps its state. -/
theorem silenced_stays {y : Zone} (h : ¬(y.heard = false ∧ 2 ≤ y.missed ∧ y.state = .live)) :
    y.silenced = { y with missed := y.silence } := by
  unfold Zone.silenced Zone.silence
  by_cases hh : y.heard = true
  · rw [if_pos hh, if_pos hh]
  · rw [if_neg hh, if_neg hh, if_neg fun both => h ⟨Bool.eq_false_iff.mpr hh, both⟩]

section
variable {x : Zone}

theorem sensed_stays (h : ¬(x.heard = false ∧ 2 ≤ x.missed ∧ x.state = .live)) :
    x.sensed = { x with temperature := x.measured, heard := false, missed := x.silence }.aged := by
  have stays : ¬(x.takeTemperature.heard = false ∧ 2 ≤ x.takeTemperature.missed ∧ x.takeTemperature.state = .live) := by
    rw [takeTemperature_eq]
    exact h
  unfold Zone.sensed
  rw [silenced_stays stays, takeTemperature_eq]
  rfl

theorem sensed_of_ne_live (hx : x.state ≠ .live) :
    x.sensed = { x with temperature := x.measured, heard := false, missed := x.silence }.aged :=
  sensed_stays fun all => hx all.2.2

theorem sensed_live (hx : x.state = .live) (h : x.heard = true ∨ x.missed < 2) :
    x.sensed = { x with temperature := x.measured, heard := false, missed := x.silence } := by
  rw [sensed_stays]
  · exact if_neg (by dsimp only; rw [hx]; decide)
  · rintro ⟨hh, hm, _⟩
    exact h.elim (fun heard => absurd (heard.symm.trans hh) (by decide)) (fun few => absurd hm (Nat.not_le.mpr few))

theorem sensed_silent (hx : x.state = .live) (hh : x.heard = false) (hm : 2 ≤ x.missed) :
    x.sensed =
      { x with temperature := x.measured, heard := false, missed := x.silence, state := .stale, staleTicks := 1 } := by
  unfold Zone.sensed Zone.silenced Zone.aged Zone.silence
  rw [takeTemperature_eq]
  simp [hx, hh, hm]

theorem sensed_stale (hx : x.state = .stale) (ht : x.staleTicks < 8) :
    x.sensed =
      { x with temperature := x.measured, heard := false, missed := x.silence, staleTicks := x.staleTicks + 1 } := by
  rw [sensed_of_ne_live (by rw [hx]; decide)]
  exact (if_pos hx).trans (if_pos (Nat.succ_lt_succ ht))

theorem sensed_lapses (hx : x.state = .stale) (ht : 8 ≤ x.staleTicks) :
    x.sensed =
      { x with
        temperature := x.measured, heard := false, missed := x.silence, staleTicks := 9, state := .lapsed, duty := 0
        overtemp := false } := by
  rw [sensed_of_ne_live (by rw [hx]; decide)]
  exact (if_pos hx).trans (if_neg (by dsimp only; omega))

theorem sensed_lapsed (hx : x.state = .lapsed) :
    x.sensed = { x with temperature := x.measured, heard := false, missed := x.silence } := by
  rw [sensed_of_ne_live (by rw [hx]; decide)]
  exact if_neg (by dsimp only; rw [hx]; decide)

/-- What the sensor stages make of any zone. -/
theorem sensed_cases (x : Zone) :
    (x.state = .live ∧ (x.heard = true ∨ x.missed < 2)
        ∧ x.sensed = { x with temperature := x.measured, heard := false, missed := x.silence })
      ∨ (x.state = .live ∧ (x.heard = false ∧ 2 ≤ x.missed) ∧ x.sensed =
          { x with temperature := x.measured, heard := false, missed := x.silence, state := .stale, staleTicks := 1 })
      ∨ (x.state = .stale ∧ x.staleTicks < 8 ∧ x.sensed =
          { x with temperature := x.measured, heard := false, missed := x.silence, staleTicks := x.staleTicks + 1 })
      ∨ (x.state = .stale ∧ 8 ≤ x.staleTicks ∧ x.sensed =
          { x with
            temperature := x.measured, heard := false, missed := x.silence, staleTicks := 9, state := .lapsed, duty := 0
            overtemp := false })
      ∨ (x.state = .lapsed
          ∧ x.sensed = { x with temperature := x.measured, heard := false, missed := x.silence }) := by
  obtain hx | hx | hx := zoneState_cases x.state
  · by_cases h : x.heard = true ∨ x.missed < 2
    · exact .inl ⟨hx, h, sensed_live hx h⟩
    · rw [not_or, Bool.not_eq_true, Nat.not_lt] at h
      exact .inr (.inl ⟨hx, h, sensed_silent hx h.1 h.2⟩)
  · obtain h | h := Nat.lt_or_ge x.staleTicks 8
    · exact .inr (.inr (.inl ⟨hx, h, sensed_stale hx h⟩))
    · exact .inr (.inr (.inr (.inl ⟨hx, h, sensed_lapses hx h⟩)))
  · exact .inr (.inr (.inr (.inr ⟨hx, sensed_lapsed hx⟩)))

end

theorem driven_live {x : Zone} (pr : CureProfile) (z : ZoneNo) (hx : x.state = .live) : x.driven pr z = x.revised pr z := by
  unfold Zone.driven
  rw [hx]

theorem driven_stale {x : Zone} (pr : CureProfile) (z : ZoneNo) (hx : x.state = .stale) : x.driven pr z = x := by
  unfold Zone.driven
  rw [hx]

theorem driven_lapsed {x : Zone} (pr : CureProfile) (z : ZoneNo) (hx : x.state = .lapsed) :
    x.driven pr z = { x with duty := 0 } := by
  unfold Zone.driven
  rw [hx]

/-- The duty stage revises the duty and the OVERTEMP flag alone. -/
theorem driven_eq (pr : CureProfile) (z : ZoneNo) (x : Zone) :
    x.driven pr z = { x with duty := (x.driven pr z).duty, overtemp := (x.driven pr z).overtemp } := by
  obtain hx | hx | hx := zoneState_cases x.state
  · rw [driven_live pr z hx]; rfl
  · rw [driven_stale pr z hx]
  · rw [driven_lapsed pr z hx]

theorem controlLaw_cast (duty setpoint temperature gain : Nat) :
    (controlLaw duty setpoint temperature gain : Int) =
      max 0 (min 255 ((duty : Int) + ((setpoint : Int) - temperature) * gain / 16)) :=
  Int.toNat_of_nonneg (le_max_left ..)

/-- The row of the tick's table for one zone, from the zone before the tick to the zone after it. -/
def ZoneRow (pr : CureProfile) (z : ZoneNo) (x y : Zone) (hot : Bool) : Prop :=
  y.heard = false ∧ y.lastValid = x.lastValid
    ∧ y.temperature = x.measured
    ∧ y.missed = x.silence
    ∧ (x.state = .live → (x.heard = true ∨ x.missed < 2) →
        y.state = .live ∧ y.staleTicks = x.staleTicks ∧ y.overtemp = hot
        ∧ (y.duty : Int) = if hot = true then 0 else
            max 0 (min 255 ((x.duty : Int) + (((tget pr.setpoints z : Nat) : Int) - y.temperature) * pr.gain / 16)))
    ∧ (x.state = .live → x.heard = false → 2 ≤ x.missed →
        y.state = .stale ∧ y.staleTicks = 1 ∧ y.duty = x.duty ∧ y.overtemp = x.overtemp)
    ∧ (x.state = .stale → x.staleTicks < 8 →
        y.state = .stale ∧ y.staleTicks = x.staleTicks + 1 ∧ y.duty = x.duty ∧ y.overtemp = x.overtemp)
    ∧ (x.state = .stale → 8 ≤ x.staleTicks →
        y.state = .lapsed ∧ y.staleTicks = 9 ∧ y.duty = 0 ∧ y.overtemp = false)
    ∧ (x.state = .lapsed → y.state = .lapsed ∧ y.staleTicks = x.staleTicks ∧ y.duty = 0 ∧ y.overtemp = x.overtemp)

theorem zoneRow_ticked (pr : CureProfile) (z : ZoneNo) (x : Zone) {hot : Bool}
    (h : hot = if x.overtemp = true then decide (pr.limit < x.measured + 10) else decide (pr.limit ≤ x.measured)) :
    ZoneRow pr z x (x.sensed.driven pr z) hot := by
  obtain ⟨hx, hh, e⟩ | ⟨hx, ⟨hh, hm⟩, e⟩ | ⟨hx, ht, e⟩ | ⟨hx, ht, e⟩ | ⟨hx, e⟩ := sensed_cases x
  · rw [driven_live pr z (by rw [e]; exact hx), e]
    refine ⟨rfl, rfl, rfl, rfl, fun _ _ => ⟨hx, rfl, ?_, ?_⟩, fun _ hh' hm' => ?_, fun hx' => ?_, fun hx' => ?_,
      fun hx' => ?_⟩
    · exact h.symm
    · have overtemp : Zone.overtempAfter pr.limit { x with temperature := x.measured, heard := false, missed := x.silence }
          = hot := h.symm
      dsimp only [Zone.revised]
      rw [overtemp]
      cases hot with
      | true => rfl
      | false => exact controlLaw_cast ..
    · obtain hh | hm := hh
      · exact absurd (hh.symm.trans hh') (by decide)
      · exact absurd hm (Nat.not_lt.mpr hm')
    all_goals exact absurd (hx.symm.trans hx') (by decide)
  · rw [driven_stale pr z (by rw [e]), e]
    refine ⟨rfl, rfl, rfl, rfl, fun _ hh' => ?_, fun _ _ _ => ⟨rfl, rfl, rfl, rfl⟩, fun hx' => ?_, fun hx' => ?_,
      fun hx' => ?_⟩
    · obtain hh' | hm' := hh'
      · exact absurd (hh.symm.trans hh') (by decide)
      · exact absurd hm' (Nat.not_lt.mpr hm)
    all_goals exact absurd (hx.symm.trans hx') (by decide)
  · rw [driven_stale pr z (by rw [e]; exact hx), e]
    refine ⟨rfl, rfl, rfl, rfl, fun hx' => ?_, fun hx' => ?_, fun _ _ => ⟨hx, rfl, rfl, rfl⟩,
      fun _ ht' => absurd ht (Nat.not_lt.mpr ht'), fun hx' => ?_⟩
    all_goals exact absurd (hx.symm.trans hx') (by decide)
  · rw [driven_lapsed pr z (by rw [e]), e]
    refine ⟨rfl, rfl, rfl, rfl, fun hx' => ?_, fun hx' => ?_, fun _ ht' => absurd ht' (Nat.not_lt.mpr ht),
      fun _ _ => ⟨rfl, rfl, rfl, rfl⟩, fun hx' => ?_⟩
    all_goals exact absurd (hx.symm.trans hx') (by decide)
  · rw [driven_lapsed pr z (by rw [e]; exact hx), e]
    refine ⟨rfl, rfl, rfl, rfl, fun hx' => ?_, fun hx' => ?_, fun hx' => ?_, fun hx' => ?_,
      fun _ => ⟨hx, rfl, rfl, rfl⟩⟩
    all_goals exact absurd (hx.symm.trans hx') (by decide)

/-! ### What the stages leave alone -/

/-- Between two states only the zone records and the ports differ. -/
def OnZones (s t : State) : Prop :=
  ∃ (p : Ports) (zs : Vector Zone 4), t = { s with ports := p, tunnel := { s.tunnel with zones := zs } }

theorem OnZones.trans {s t r : State} (h : OnZones s t) (h' : OnZones t r) : OnZones s r := by
  obtain ⟨_, _, rfl⟩ := h
  obtain ⟨p, zs, rfl⟩ := h'
  exact ⟨p, zs, rfl⟩

theorem eachZone_onZones {f : ZoneNo → State → State} (h : ∀ z s, OnZones s (f z s)) (s : State) :
    OnZones s (eachZone f s) := by
  unfold eachZone
  generalize List.finRange 4 = l
  induction l generalizing s with
  | nil => exact ⟨_, _, rfl⟩
  | cons z l ih => exact (h z s).trans (ih (f z s))

theorem mapZones_onZones (f : Zone → Zone) (s : State) : OnZones s (mapZones f s) := ⟨_, _, rfl⟩

section
variable (z : ZoneNo) (s : State)

theorem absenceTick_onZones : OnZones s (absenceTick z s) := by
  unfold absenceTick
  dsimp only
  split
  · exact ⟨_, _, rfl⟩
  · split <;> exact ⟨_, _, rfl⟩

theorem staleTick_onZones : OnZones s (staleTick z s) := by
  unfold staleTick
  dsimp only
  split
  · split <;> exact ⟨_, _, rfl⟩
  · exact ⟨_, _, rfl⟩

theorem dutyTick_onZones : OnZones s (dutyTick z s) := by
  unfold dutyTick
  dsimp only
  split
  · split <;> exact ⟨_, _, rfl⟩
  · exact ⟨_, _, rfl⟩
  · exact ⟨_, _, rfl⟩

end

/-- Exposure reaches the unit records alone. -/
theorem addExposure_eq (s : State) : addExposure s = { s with units := (addExposure s).units } := by
  have keeps : ∀ (u : Vector UnitRecord 40) (x : State) (r : QueueRecord),
      ({ exposeOne x r with units := u } : State) = { x with units := u } := fun u x r => by
    unfold exposeOne modifyShirt
    dsimp only
    split <;> rfl
  exact foldl_keeps (fun x : State => ({ x with units := (addExposure s).units } : State))
    (fun x r => keeps _ x r) s.tunnel.queue s

/-! ### The tick up to its readiness test -/

/-- The state once the sensors' stages of a tick are done. -/
@[irreducible] def sensedState (s : State) : State :=
  reviseSensors (mapZones Zone.takeTemperature (s.setTunnel { s.tunnel with tickStart := s.time.now }))

/-- The state once the duties of a tick are revised. -/
@[irreducible] def drivenState (s : State) : State := eachZone dutyTick (addExposure (sensedState s))

theorem drivenState_duties (s : State) : drivenState s = eachZone dutyTick (addExposure (sensedState s)) := by
  rw [drivenState]

/-- The state once the tick is done. -/
@[irreducible] def tickedState (s : State) : State := readyTest (drivenState s)

theorem tickedState_eq (s : State) : tickedState s = readyTest (drivenState s) := by rw [tickedState]

theorem cureTick_eq (s : State) : cureTick s = tickedState s := by
  unfold tickedState drivenState sensedState
  rfl

theorem sensedState_onZones (s : State) :
    OnZones (s.setTunnel { s.tunnel with tickStart := s.time.now }) (sensedState s) := by
  unfold sensedState reviseSensors
  refine OnZones.trans ?_ (eachZone_onZones staleTick_onZones _)
  refine OnZones.trans ?_ (mapZones_onZones _ _)
  exact (mapZones_onZones _ _).trans (eachZone_onZones absenceTick_onZones _)

/-- Up to the readiness test a tick touches the timer, the zones, the units and the ports alone. -/
theorem drivenState_eq (s : State) :
    ∃ (p : Ports) (zs : Vector Zone 4), drivenState s = { s with
      ports := p, units := (addExposure (sensedState s)).units
      tunnel := { s.tunnel with tickStart := s.time.now, zones := zs } } := by
  obtain ⟨_, _, sensed⟩ := sensedState_onZones s
  obtain ⟨p, zs, driven⟩ := eachZone_onZones dutyTick_onZones (addExposure (sensedState s))
  have exposed := addExposure_eq (sensedState s)
  unfold drivenState
  generalize addExposure (sensedState s) = x at exposed driven ⊢
  refine ⟨p, zs, ?_⟩
  rw [driven, exposed, sensed]
  rfl

/-! ### The zones of a tick -/

section
variable (s : State) (z : ZoneNo)

theorem mapZones_zone (f : Zone → Zone) : tget (mapZones f s).tunnel.zones z = f (tget s.tunnel.zones z) := tget_tmap ..

theorem eachZone_absence_zone : tget (eachZone absenceTick s).tunnel.zones z = (tget s.tunnel.zones z).silenced := by
  obtain ⟨_, _, zones, _⟩ := absenceTick_stage.each s
  exact zones z

theorem eachZone_stale_zone : tget (eachZone staleTick s).tunnel.zones z = (tget s.tunnel.zones z).aged := by
  obtain ⟨_, _, zones, _⟩ := staleTick_stage.each s
  exact zones z

theorem eachZone_duty_zone :
    tget (eachZone dutyTick s).tunnel.zones z = (tget s.tunnel.zones z).driven s.tunnel.profile z := by
  obtain ⟨_, _, zones, _⟩ := dutyTick_stage.each s
  exact zones z

theorem sensedState_zone : tget (sensedState s).tunnel.zones z = (tget s.tunnel.zones z).sensed := by
  unfold sensedState reviseSensors
  rw [eachZone_stale_zone, mapZones_zone, eachZone_absence_zone, mapZones_zone]
  rfl

theorem sensedState_profile : (sensedState s).tunnel.profile = s.tunnel.profile := by
  obtain ⟨_, _, sensed⟩ := sensedState_onZones s
  rw [sensed]
  rfl

theorem addExposure_tunnel : (addExposure s).tunnel = s.tunnel := by
  obtain ⟨_, tunnel, _⟩ := addExposure_frame s
  exact tunnel

theorem drivenState_zone :
    tget (drivenState s).tunnel.zones z = (tget s.tunnel.zones z).sensed.driven s.tunnel.profile z := by
  unfold drivenState
  rw [eachZone_duty_zone, addExposure_tunnel, sensedState_zone, sensedState_profile]

end

/-! ### The readiness test -/

/-- A state but for the ports and the station's readiness, which are those of another state. -/
def State.besideReady (s0 s : State) : State :=
  { s with
    ports := s0.ports
    tunnel := { s.tunnel with
      ready := s0.tunnel.ready, readyRun := s0.tunnel.readyRun, state := s0.tunnel.state } }

theorem readyTest_besideReady (s0 s : State) : s0.besideReady (readyTest s) = s0.besideReady s := by
  have retested : ∀ x, s0.besideReady (retest x) = s0.besideReady x := fun x => by
    obtain ⟨_, he⟩ | ⟨_, he⟩ := retest_cases x
    · rw [he]
    · rw [he]; rfl
  unfold readyTest
  split
  · rfl
  split
  · rfl
  split
  · rfl
  · rw [retested]; rfl

theorem settledTick_iff (s : State) :
    settledTick s = true ↔ ∀ z : ZoneNo, (tget s.tunnel.zones z).state = .live
      ∧ (tget s.tunnel.zones z).temperature ≤ tget s.tunnel.profile.setpoints z + 5
      ∧ tget s.tunnel.profile.setpoints z ≤ (tget s.tunnel.zones z).temperature + 5 := by
  simp only [settledTick, Zone.settled, List.all_eq_true, List.mem_finRange, forall_const, Bool.and_eq_true,
    decide_eq_true_eq, and_assoc]

section
variable {s : State}

theorem readyTest_ready (h : s.tunnel.ready = true) : readyTest s = s := if_pos h

theorem readyTest_unsettled (h : s.tunnel.ready = false) (hs : settledTick s = false) :
    readyTest s = s.setTunnel { s.tunnel with readyRun := 0 } := by
  unfold readyTest
  rw [if_neg (Bool.eq_false_iff.mp h), hs]
  rfl

theorem readyTest_counts (h : s.tunnel.ready = false) (hs : settledTick s = true) (hr : s.tunnel.readyRun < 7) :
    readyTest s = s.setTunnel { s.tunnel with readyRun := s.tunnel.readyRun + 1 } := by
  unfold readyTest
  rw [if_neg (Bool.eq_false_iff.mp h), hs]
  exact if_pos (Nat.succ_lt_succ hr)

theorem readyTest_sets (h : s.tunnel.ready = false) (hs : settledTick s = true) (hr : 7 ≤ s.tunnel.readyRun) :
    readyTest s = retest (post .order .tunnelReady (s.setTunnel { s.tunnel with readyRun := 8, ready := true })) := by
  unfold readyTest
  rw [if_neg (Bool.eq_false_iff.mp h), hs]
  exact if_neg (Nat.not_lt.mpr (Nat.succ_le_succ hr))

/-- The notice of a readiness test: TUNNEL READY where it becomes set. -/
theorem readyTest_port (s : State) :
    (readyTest s).port .order =
        (if s.tunnel.ready = false ∧ (readyTest s).tunnel.ready = true then [Notice.tunnelReady] else []).foldl
          (fun x n => x.join { notice := n, stamp := s.time.now }) (s.port .order)
      ∧ ∀ q : Port, q ≠ .order → (readyTest s).port q = s.port q := by
  have silent : (readyTest s).ports = s.ports → (readyTest s).tunnel.ready = s.tunnel.ready →
      (readyTest s).port .order =
        (if s.tunnel.ready = false ∧ (readyTest s).tunnel.ready = true then [Notice.tunnelReady] else []).foldl
          (fun x n => x.join { notice := n, stamp := s.time.now }) (s.port .order)
      ∧ ∀ q : Port, q ≠ .order → (readyTest s).port q = s.port q := fun hp hr => by
    rw [if_neg (by rw [hr]; rintro ⟨off, on⟩; rw [off] at on; cases on)]
    exact ⟨port_of_ports hp _, fun q _ => port_of_ports hp q⟩
  obtain h | h := Bool.eq_false_or_eq_true s.tunnel.ready
  · exact silent (by rw [readyTest_ready h]) (by rw [readyTest_ready h])
  · obtain hs | hs := Bool.eq_false_or_eq_true (settledTick s)
    · obtain hr | hr := Nat.lt_or_ge s.tunnel.readyRun 7
      · exact silent (by rw [readyTest_counts h hs hr]; rfl) (by rw [readyTest_counts h hs hr]; rfl)
      · rw [readyTest_sets h hs hr]
        refine ⟨?_, fun q hq => ?_⟩
        · rw [if_pos ⟨h, by rw [retest_ready]; rfl⟩, port_of_ports (retest_ports _), post_port, if_pos rfl]
          rfl
        · rw [port_of_ports (retest_ports _), post_port, if_neg hq]
          rfl
    · exact silent (by rw [readyTest_unsettled h hs]; rfl) (by rw [readyTest_unsettled h hs]; rfl)

end

theorem readyTest_eq (s : State) :
    readyTest s = { s with
      ports := (readyTest s).ports
      tunnel := { s.tunnel with
        ready := (readyTest s).tunnel.ready, readyRun := (readyTest s).tunnel.readyRun
        state := (readyTest s).tunnel.state } } :=
  readyTest_besideReady (readyTest s) s

/-- A tick touches the tunnel's timer, zones, readiness and state, the units and the ports alone. -/
theorem tickedState_frame (s : State) :
    ∃ (p : Ports) (zs : Vector Zone 4) (ready : Bool) (run : Nat) (st : TunnelState), tickedState s = { s with
      ports := p, units := (addExposure (sensedState s)).units
      tunnel := { s.tunnel with
        tickStart := s.time.now, zones := zs, ready := ready, readyRun := run, state := st } } := by
  obtain ⟨p, zs, driven⟩ := drivenState_eq s
  have tested := readyTest_eq (drivenState s)
  rw [tickedState_eq]
  generalize readyTest (drivenState s) = t at tested ⊢
  rw [driven] at tested
  exact ⟨_, _, _, _, _, tested⟩

theorem tickedState_zone (s : State) (z : ZoneNo) :
    tget (tickedState s).tunnel.zones z = (tget s.tunnel.zones z).sensed.driven s.tunnel.profile z := by
  rw [tickedState_eq, ← drivenState_zone, readyTest_eq]

theorem cureTickDue_iff (s : State) :
    cureTickDue s = true ↔ s.tunnel.profile.tickPeriod ≤ (s.time.now - s.tunnel.tickStart).toNat := decide_eq_true_iff

theorem exec_cureTick_due {s : State} (h : s.tunnel.profile.tickPeriod ≤ (s.time.now - s.tunnel.tickStart).toNat) :
    exec .cureTick s = .next (tickedState s) := by
  rw [← cureTick_eq]
  exact congrArg Host.Outcome.next (if_pos ((cureTickDue_iff s).mpr h))

/-! ### Exposure (R138) -/

/-- The heat a queue record's unit takes from its zone. -/
def heatAt (s : State) (r : QueueRecord) : Nat :=
  (tget s.tunnel.zones (zoneOf s.tunnel.profile.length (travelOf s r))).contribution s.tunnel.profile.floor

/-- A unit that has taken heat. -/
def Shirt.heated (heat : Nat) (sh : Shirt) : Shirt :=
  { sh with cure := sh.cure.map fun c => { c with exposure := exposed c.exposure heat } }

theorem exposeOne_eq (s : State) (r : QueueRecord) : exposeOne s r = modifyShirt r.unit (Shirt.heated (heatAt s r)) s := rfl

theorem heatAt_exposeOne (s : State) (r q : QueueRecord) : heatAt (exposeOne s r) q = heatAt s q := by
  have tunnel : (exposeOne s r).tunnel = s.tunnel := modifyShirt_tunnel ..
  unfold heatAt travelOf
  rw [tunnel]

/-- Exposure along a list of records of different units: each unit is heated once, by its record. -/
theorem exposeOne_fold (l : List QueueRecord) (s : State) (hn : (l.map (·.unit)).Nodup) :
    (∀ r ∈ l, (l.foldl exposeOne s).shirt r.unit = (s.shirt r.unit).map (Shirt.heated (heatAt s r)))
      ∧ ∀ u, (∀ r ∈ l, r.unit ≠ u) → (l.foldl exposeOne s).shirt u = s.shirt u := by
  induction l generalizing s with
  | nil => exact ⟨nofun, fun _ _ => rfl⟩
  | cons a l ih =>
    obtain ⟨hfresh, hl⟩ := List.nodup_cons.mp hn
    have fresh : ∀ r ∈ l, r.unit ≠ a.unit := fun r hr e => hfresh (List.mem_map.mpr ⟨r, hr, e⟩)
    obtain ⟨heated, others⟩ := ih (exposeOne s a) hl
    rw [List.foldl_cons]
    refine ⟨fun r hr => ?_, fun u hu => ?_⟩
    · obtain rfl | hr := List.mem_cons.mp hr
      · rw [others r.unit fresh, exposeOne_eq, modifyShirt_shirt_same]
      · rw [heated r hr, heatAt_exposeOne, exposeOne_eq, modifyShirt_shirt_ne _ _ (fresh r hr)]
    · rw [others u fun r hr => hu r (List.mem_cons_of_mem a hr), exposeOne_eq,
        modifyShirt_shirt_ne _ _ (hu a List.mem_cons_self).symm]

theorem zoneOf_val (length travel : Nat) : (zoneOf length travel).val = min 3 (travel * 4 / length) := by
  unfold zoneOf
  generalize travel * 4 / length = n
  split
  · rfl
  · rfl
  · rfl
  · next n0 n1 n2 =>
    have large : 3 ≤ n := by
      match n, n0, n1, n2 with
      | 0, n0, _, _ => exact absurd rfl n0
      | 1, _, n1, _ => exact absurd rfl n1
      | 2, _, _, n2 => exact absurd rfl n2
      | k + 3, _, _, _ => exact Nat.le_add_left 3 k
    exact (Nat.min_eq_left large).symm

theorem contribution_eq (floor : Nat) (x : Zone) :
    x.contribution floor = if x.state = .lapsed then 0 else x.temperature - floor := by
  unfold Zone.contribution
  cases x.state <;> rfl

theorem contribution_driven (floor : Nat) (pr : CureProfile) (z : ZoneNo) (x : Zone) :
    (x.driven pr z).contribution floor = x.contribution floor := by
  rw [driven_eq]
  rfl

/-- The heat of a record, from the zones as the tick leaves them. -/
theorem heatAt_sensedState {s : State} {r : QueueRecord} {z : ZoneNo}
    (hz : z.val = min 3 ((s.tunnel.belt - r.entry).toNat * 4 / s.tunnel.profile.length)) :
    heatAt (sensedState s) r =
      if (tget (tickedState s).tunnel.zones z).state = .lapsed then 0
      else (tget (tickedState s).tunnel.zones z).temperature - s.tunnel.profile.floor := by
  have belt : (sensedState s).tunnel.belt = s.tunnel.belt := by
    obtain ⟨_, _, sensed⟩ := sensedState_onZones s
    rw [sensed]
    rfl
  have zone : zoneOf s.tunnel.profile.length (s.tunnel.belt - r.entry).toNat = z := Fin.ext ((zoneOf_val _ _).trans hz.symm)
  unfold heatAt travelOf
  rw [sensedState_profile, belt, zone, sensedState_zone, ← contribution_driven _ s.tunnel.profile z, ← tickedState_zone,
    contribution_eq]

theorem tickedState_shirt (s : State) (u : UnitNo) : (tickedState s).shirt u = (addExposure (sensedState s)).shirt u := by
  obtain ⟨_, _, _, _, _, frame⟩ := tickedState_frame s
  rw [State.shirt, frame]
  rfl

/-- A tick heats each unit of the queue once, and no other unit. -/
theorem tickedState_heats {s : State} (hn : (s.tunnel.queue.map (·.unit)).Nodup) :
    (∀ r ∈ s.tunnel.queue,
        (tickedState s).shirt r.unit = (s.shirt r.unit).map (Shirt.heated (heatAt (sensedState s) r)))
      ∧ ∀ u, (∀ r ∈ s.tunnel.queue, r.unit ≠ u) → (tickedState s).shirt u = s.shirt u := by
  obtain ⟨_, _, sensed⟩ := sensedState_onZones s
  have queue : (sensedState s).tunnel.queue = s.tunnel.queue := by rw [sensed]; rfl
  have shirts : ∀ u, (sensedState s).shirt u = s.shirt u := fun u => by rw [State.shirt, sensed]; rfl
  have heated := exposeOne_fold (sensedState s).tunnel.queue (sensedState s) (by rw [queue]; exact hn)
  rw [queue] at heated
  refine ⟨fun r hr => ?_, fun u hu => ?_⟩
  · rw [tickedState_shirt, ← shirts, addExposure, queue]
    exact heated.1 r hr
  · rw [tickedState_shirt, ← shirts, addExposure, queue]
    exact heated.2 u hu

/-! ### The notices of a tick -/

/-- Notices join a port's queue one after another, with one stamp. -/
def joinAll (now : Word32) (l : List Notice) (x : PortState) : PortState :=
  l.foldl (fun x n => x.join { notice := n, stamp := now }) x

/-- ZONE STALE with NO READING, for each LIVE zone whose third tick passes without a reading. -/
def silentNotices (s : State) : List Notice :=
  ((List.finRange 4).filter fun z =>
    decide ((tget s.tunnel.zones z).state = .live ∧ (tget s.tunnel.zones z).heard = false
      ∧ 2 ≤ (tget s.tunnel.zones z).missed)).map (fun z => .zoneStale z .noReading)

/-- ZONE STALE with LAPSED, for each zone at its ninth stale tick. -/
def lapsedNotices (s : State) : List Notice :=
  ((List.finRange 4).filter fun z =>
    decide ((tget s.tunnel.zones z).state = .stale ∧ 8 ≤ (tget s.tunnel.zones z).staleTicks)).map
    (fun z => .zoneLapsed z)

/-- OVERTEMP, for each zone that becomes OVERTEMP between the two states. -/
def hotNotices (s t : State) : List Notice :=
  ((List.finRange 4).filter fun z =>
    decide ((tget t.tunnel.zones z).state = .live ∧ (tget s.tunnel.zones z).overtemp = false
      ∧ (tget t.tunnel.zones z).overtemp = true)).map (fun z => .overtemp z (tget t.tunnel.zones z).temperature)

section
variable (s : State)

theorem eachZone_absence_port :
    (eachZone absenceTick s).port .order = joinAll s.time.now (silentNotices s) (s.port .order)
      ∧ (∀ q : Port, q ≠ .order → (eachZone absenceTick s).port q = s.port q)
      ∧ (eachZone absenceTick s).time = s.time := by
  obtain ⟨order, others, _, time, _⟩ := absenceTick_stage.each s
  exact ⟨order, others, time⟩

theorem eachZone_stale_port :
    (eachZone staleTick s).port .order = joinAll s.time.now (lapsedNotices s) (s.port .order)
      ∧ ∀ q : Port, q ≠ .order → (eachZone staleTick s).port q = s.port q := by
  obtain ⟨order, others, _⟩ := staleTick_stage.each s
  exact ⟨order, others⟩

theorem eachZone_duty_port :
    (eachZone dutyTick s).port .order = joinAll s.time.now (hotNotices s (eachZone dutyTick s)) (s.port .order)
      ∧ ∀ q : Port, q ≠ .order → (eachZone dutyTick s).port q = s.port q := by
  obtain ⟨order, others, _⟩ := dutyTick_stage.each s
  refine ⟨order.trans (congrArg (joinAll s.time.now · (s.port .order)) ?_), others⟩
  unfold hotNotices
  simp only [eachZone_duty_zone]
  have fires : ∀ z : ZoneNo, decide ((tget s.tunnel.zones z).state = .live ∧ (tget s.tunnel.zones z).overtemp = false
        ∧ ((tget s.tunnel.zones z).revised s.tunnel.profile z).overtemp = true)
      = decide (((tget s.tunnel.zones z).driven s.tunnel.profile z).state = .live
        ∧ (tget s.tunnel.zones z).overtemp = false
        ∧ ((tget s.tunnel.zones z).driven s.tunnel.profile z).overtemp = true) := fun z => by
    by_cases live : (tget s.tunnel.zones z).state = .live
    · rw [driven_live _ _ live]
      rfl
    · have stays : ((tget s.tunnel.zones z).driven s.tunnel.profile z).state ≠ .live := by rw [driven_eq]; exact live
      rw [decide_eq_false fun all => live all.1, decide_eq_false fun all => stays all.1]
  have temperature : ∀ z : ZoneNo, ((tget s.tunnel.zones z).driven s.tunnel.profile z).temperature
      = (tget s.tunnel.zones z).temperature := fun z => by rw [driven_eq]
  simp only [fires, temperature]

end

/-- A zone lapses at a tick exactly where it was STALE with 8 ticks before it. -/
theorem silenced_lapses (x : Zone) :
    (x.takeTemperature.silenced.state = .stale ∧ 8 ≤ x.takeTemperature.silenced.staleTicks)
      ↔ x.state = .stale ∧ 8 ≤ x.staleTicks := by
  by_cases falls : x.heard = false ∧ 2 ≤ x.missed ∧ x.state = .live
  · obtain ⟨hh, hm, hx⟩ := falls
    have silenced : x.takeTemperature.silenced.staleTicks = 0 := by
      rw [takeTemperature_eq, Zone.silenced, if_neg (by dsimp only; rw [hh]; decide), if_pos ⟨hm, hx⟩]
    rw [silenced, hx]
    simp
  · have stays : ¬(x.takeTemperature.heard = false ∧ 2 ≤ x.takeTemperature.missed ∧ x.takeTemperature.state = .live) := by
      rw [takeTemperature_eq]
      exact falls
    rw [silenced_stays stays, takeTemperature_eq]

theorem joinAll_append (now : Word32) (l m : List Notice) (x : PortState) :
    joinAll now (l ++ m) x = joinAll now m (joinAll now l x) := List.foldl_append

theorem mapZones_port (f : Zone → Zone) (s : State) (q : Port) : (mapZones f s).port q = s.port q := rfl
theorem mapZones_time (f : Zone → Zone) (s : State) : (mapZones f s).time = s.time := rfl

theorem sensedState_port (s : State) :
    (sensedState s).port .order = joinAll s.time.now (silentNotices s ++ lapsedNotices s) (s.port .order)
      ∧ ∀ q : Port, q ≠ .order → (sensedState s).port q = s.port q := by
  have silent : ∀ y : State, (∀ z, tget y.tunnel.zones z = (tget s.tunnel.zones z).takeTemperature) →
      silentNotices y = silentNotices s := fun y h => by
    unfold silentNotices
    simp only [h, takeTemperature_eq]
  have lapsed : ∀ y : State, (∀ z, tget y.tunnel.zones z =
      { (tget s.tunnel.zones z).takeTemperature.silenced with heard := false }) → lapsedNotices y = lapsedNotices s :=
    fun y h => by
      unfold lapsedNotices
      simp only [h, silenced_lapses]
  unfold sensedState reviseSensors
  generalize hy : mapZones Zone.takeTemperature (s.setTunnel { s.tunnel with tickStart := s.time.now }) = y
  have zones : ∀ z, tget y.tunnel.zones z = (tget s.tunnel.zones z).takeTemperature := fun z => by
    rw [← hy, mapZones_zone]
    rfl
  have ports : ∀ q, y.port q = s.port q := fun q => by rw [← hy]; rfl
  have time : y.time = s.time := by rw [← hy]; rfl
  obtain ⟨order, others, time'⟩ := eachZone_absence_port y
  have zones' := fun z => eachZone_absence_zone y z
  generalize eachZone absenceTick y = w at order others time' zones' ⊢
  obtain ⟨order', others'⟩ := eachZone_stale_port (mapZones (fun x => { x with heard := false }) w)
  refine ⟨?_, fun q hq => ?_⟩
  · rw [order', mapZones_port, mapZones_time, order, joinAll_append, time', time, ports, silent y zones,
      lapsed _ fun z => by rw [mapZones_zone, zones', zones]]
  · rw [others' q hq, mapZones_port, others q hq, ports]

theorem drivenState_port (s : State) :
    (drivenState s).port .order =
        joinAll s.time.now (silentNotices s ++ lapsedNotices s ++ hotNotices s (drivenState s)) (s.port .order)
      ∧ ∀ q : Port, q ≠ .order → (drivenState s).port q = s.port q := by
  have hot : ∀ y : State, (∀ z, tget y.tunnel.zones z = (tget s.tunnel.zones z).sensed) →
      hotNotices y (drivenState s) = hotNotices s (drivenState s) := fun y h => by
    have fires : ∀ z : ZoneNo, decide ((tget (drivenState s).tunnel.zones z).state = .live
          ∧ (tget y.tunnel.zones z).overtemp = false ∧ (tget (drivenState s).tunnel.zones z).overtemp = true)
        = decide ((tget (drivenState s).tunnel.zones z).state = .live
          ∧ (tget s.tunnel.zones z).overtemp = false ∧ (tget (drivenState s).tunnel.zones z).overtemp = true) :=
      fun z => by
        have state : (tget (drivenState s).tunnel.zones z).state = (tget s.tunnel.zones z).sensed.state := by
          rw [drivenState_zone, driven_eq]
        rw [h, state]
        obtain ⟨_, _, e⟩ | ⟨_, _, e⟩ | ⟨_, _, e⟩ | ⟨_, _, e⟩ | ⟨_, e⟩ := sensed_cases (tget s.tunnel.zones z)
        all_goals simp [e]
    unfold hotNotices
    simp only [fires]
  obtain ⟨_, _, sensed⟩ := sensedState_onZones s
  obtain ⟨ports, tunnel, time⟩ := addExposure_frame (sensedState s)
  have stamp : (addExposure (sensedState s)).time = s.time := time.trans (by rw [sensed]; rfl)
  obtain ⟨order, others⟩ := eachZone_duty_port (addExposure (sensedState s))
  obtain ⟨order', others'⟩ := sensedState_port s
  have row := hot (addExposure (sensedState s)) fun z => by rw [tunnel, sensedState_zone]
  rw [← drivenState_duties] at order others
  refine ⟨?_, fun q hq => ?_⟩
  · rw [joinAll_append, ← order', ← port_of_ports ports, ← row, ← stamp]
    exact order
  · exact (others q hq).trans ((port_of_ports ports q).trans (others' q hq))

theorem tickedState_port (s : State) :
    (tickedState s).port .order =
        joinAll s.time.now (silentNotices s ++ lapsedNotices s ++ hotNotices s (tickedState s)
          ++ if s.tunnel.ready = false ∧ (tickedState s).tunnel.ready = true then [.tunnelReady] else []) (s.port .order)
      ∧ ∀ q : Port, q ≠ .order → (tickedState s).port q = s.port q := by
  obtain ⟨_, _, driven⟩ := drivenState_eq s
  have time : (drivenState s).time = s.time := by rw [driven]
  have ready : (drivenState s).tunnel.ready = s.tunnel.ready := by rw [driven]
  have hot : hotNotices s (tickedState s) = hotNotices s (drivenState s) := by
    unfold hotNotices
    simp only [tickedState_zone, drivenState_zone]
  obtain ⟨order, others⟩ := drivenState_port s
  obtain ⟨order', others'⟩ := readyTest_port (drivenState s)
  rw [← tickedState_eq] at order' others'
  refine ⟨?_, fun q hq => (others' q hq).trans (others q hq)⟩
  rw [joinAll_append, hot, ← order, ← time, ← ready]
  exact order'

/-! ### The tick's work -/

theorem measured_eq (x : Zone) : x.measured = (match x.lastValid with | some r => r / 2 | none => x.temperature) := by
  unfold Zone.measured
  cases x.lastValid <;> rfl

theorem tickedState_zoneRow (s : State) (z : ZoneNo) {hot : Bool}
    (h : hot = if (tget s.tunnel.zones z).overtemp = true then
        decide (s.tunnel.profile.limit < (tget (tickedState s).tunnel.zones z).temperature + 10)
      else decide (s.tunnel.profile.limit ≤ (tget (tickedState s).tunnel.zones z).temperature)) :
    ZoneRow s.tunnel.profile z (tget s.tunnel.zones z) (tget (tickedState s).tunnel.zones z) hot := by
  have temperature : (tget (tickedState s).tunnel.zones z).temperature = (tget s.tunnel.zones z).measured := by
    rw [tickedState_zone, driven_eq]
    obtain ⟨_, _, e⟩ | ⟨_, _, e⟩ | ⟨_, _, e⟩ | ⟨_, _, e⟩ | ⟨_, e⟩ := sensed_cases (tget s.tunnel.zones z)
    all_goals rw [e]
  rw [temperature] at h
  rw [tickedState_zone]
  exact zoneRow_ticked s.tunnel.profile z _ h

section
variable {s : State}

theorem settledTick_driven :
    settledTick (drivenState s) = true ↔ ∀ z : ZoneNo, (tget (tickedState s).tunnel.zones z).state = .live
      ∧ (tget (tickedState s).tunnel.zones z).temperature ≤ tget s.tunnel.profile.setpoints z + 5
      ∧ tget s.tunnel.profile.setpoints z ≤ (tget (tickedState s).tunnel.zones z).temperature + 5 := by
  obtain ⟨_, _, driven⟩ := drivenState_eq s
  have profile : (drivenState s).tunnel.profile = s.tunnel.profile := by rw [driven]
  rw [settledTick_iff, profile]
  simp only [tickedState_zone, drivenState_zone]

theorem tickedState_ready (h : s.tunnel.ready = true) :
    (tickedState s).tunnel.ready = true ∧ (tickedState s).tunnel.readyRun = s.tunnel.readyRun := by
  obtain ⟨_, _, driven⟩ := drivenState_eq s
  have ready : (drivenState s).tunnel.ready = true := by rw [driven]; exact h
  rw [tickedState_eq, readyTest_ready ready]
  exact ⟨ready, by rw [driven]⟩

variable (h : s.tunnel.ready = false)
include h

theorem drivenState_notReady : (drivenState s).tunnel.ready = false ∧ (drivenState s).tunnel.readyRun = s.tunnel.readyRun := by
  obtain ⟨_, _, driven⟩ := drivenState_eq s
  rw [driven]
  exact ⟨h, rfl⟩

theorem tickedState_unsettled (hs : settledTick (drivenState s) = false) :
    (tickedState s).tunnel.ready = false ∧ (tickedState s).tunnel.readyRun = 0 := by
  obtain ⟨ready, _⟩ := drivenState_notReady h
  rw [tickedState_eq, readyTest_unsettled ready hs]
  exact ⟨ready, rfl⟩

theorem tickedState_counts (hs : settledTick (drivenState s) = true) (hr : s.tunnel.readyRun < 7) :
    (tickedState s).tunnel.ready = false ∧ (tickedState s).tunnel.readyRun = s.tunnel.readyRun + 1 := by
  obtain ⟨ready, run⟩ := drivenState_notReady h
  rw [tickedState_eq, readyTest_counts ready hs (by rw [run]; exact hr)]
  exact ⟨ready, congrArg (· + 1) run⟩

theorem tickedState_sets (hs : settledTick (drivenState s) = true) (hr : 7 ≤ s.tunnel.readyRun) :
    (tickedState s).tunnel.ready = true ∧ (tickedState s).tunnel.readyRun = 8 := by
  obtain ⟨ready, run⟩ := drivenState_notReady h
  rw [tickedState_eq, readyTest_sets ready hs (by rw [run]; exact hr), retest_ready, retest_readyRun]
  exact ⟨rfl, rfl⟩

end

/-- Settles O53. -/
theorem cureTickWork : Obligations.CureTickWork := by
  refine ⟨fun s => ⟨fun early => ?_, fun due => ⟨tickedState s, exec_cureTick_due due, ?_, ?_, ?_⟩⟩,
    fun s due hn => ⟨tickedState s, exec_cureTick_due due, ?_⟩,
    fun s due => ⟨tickedState s, silentNotices s, lapsedNotices s, hotNotices s (tickedState s), _, exec_cureTick_due due, rfl,
      rfl, rfl, rfl, tickedState_port s⟩⟩
  · exact congrArg Host.Outcome.next (if_neg fun due => Nat.not_le.mpr early ((cureTickDue_iff s).mp due))
  · obtain ⟨_, _, _, _, _, frame⟩ := tickedState_frame s
    rw [frame]
  · obtain ⟨_, _, _, _, _, frame⟩ := tickedState_frame s
    rw [frame]
  · rintro z x y hot rfl rfl hhot
    obtain ⟨heard, valid, temperature, missed, rows⟩ := tickedState_zoneRow s z hhot
    exact ⟨heard, valid, temperature.trans (measured_eq _), missed, rows⟩
  · obtain ⟨heated, others⟩ := tickedState_heats hn
    refine ⟨fun r sh c z hr hsh hc hz => ?_, others, tickedState_ready, fun h => ⟨fun unsettled => ?_, fun settled => ⟨?_, ?_⟩⟩, ?_⟩
    · rw [heated r hr, hsh, heatAt_sensedState hz, Option.map_some, Shirt.heated, hc]
      rfl
    · refine tickedState_unsettled h (Bool.eq_false_iff.mpr fun hs => ?_)
      obtain ⟨z, hz⟩ := unsettled
      obtain ⟨live, high, low⟩ := settledTick_driven.mp hs z
      exact hz.elim (fun dead => dead live) fun off => off.elim (Nat.not_lt.mpr high) (Nat.not_lt.mpr low)
    · exact tickedState_counts h (settledTick_driven.mpr settled)
    · exact tickedState_sets h (settledTick_driven.mpr settled)
    · obtain ⟨_, _, _, _, _, frame⟩ := tickedState_frame s
      rw [frame]
      exact ⟨rfl, rfl, rfl, rfl, rfl, rfl, rfl, rfl⟩

end Sys2Proof.Machine
end

section
/-! O54 and O55: MATCH by its dispositions and SCRAP by the place of the unit. -/

namespace Sys2Proof.Machine

/-! ### The layout of a MATCH's results (A.4) -/

/-- The six indication bits and the two bits that A.4 does not name. -/
theorem indicationBits (b0 b1 b2 b3 b4 b5 : Bool) (x : Byte)
    (h : x = BitVec.ofNat 8 (bit 0 b0 + bit 1 b1 + bit 2 b2 + bit 3 b3 + bit 4 b4 + bit 5 b5)) :
    x.getLsbD 0 = b0 ∧ x.getLsbD 1 = b1 ∧ x.getLsbD 2 = b2 ∧ x.getLsbD 3 = b3 ∧ x.getLsbD 4 = b4 ∧ x.getLsbD 5 = b5
      ∧ x.getLsbD 6 = false ∧ x.getLsbD 7 = false := by
  subst h
  revert b0 b1 b2 b3 b4 b5
  decide

/-- The two bytes that name a disposition and its bin or slot. -/
def MatchResult.bytes (d : MatchResult) : List Byte := bytes1 d.code ++ orNone 1 bytes1 d.place

/-- The required exposure and the scorch limit in a MATCH's results, 0 where the cure record has none. -/
def limitBytes (c : CureRecord) : List Byte := bytes2 (c.required.getD 0) ++ bytes2 (c.scorch.getD 0)

theorem matchResults_eq (d : MatchResult) (tag : Tag) (sh : Shirt) (c : CureRecord) (web : Word32) (complete : Bool) :
    matchResults d tag sh c web complete =
      d.bytes ++ tagBytes tag ++ handleBytes sh.order ++ bytes4 web.toNat ++ bytes1 sh.line.val
        ++ bytes1 c.result.code ++ bytes2 c.exposure ++ limitBytes c ++ bytes1 (faultCode sh.fault)
        ++ [BitVec.ofNat 8 (sh.flags.bits + bit 4 complete + bit 5 (c.required.isSome && c.scorch.isSome))] := by
  simp only [matchResults, MatchResult.bytes, limitBytes, List.append_assoc]
  rfl

/-! ### MATCH (R145 to R149) -/

section
variable {s : State} {u : UnitNo} {sh : Shirt} {c : CureRecord} {o : Order}

theorem matchShirt_notExited (p : Port) (hg : s.generation u ≤ 1023) (h : s.shirt u = some sh) (he : sh.state ≠ .exited) :
    matchShirt p (tagBytes (s.tagOf u)) s = (.refused .notExited [], s) := by
  unfold matchShirt tagBytes bytes2
  dsimp only
  rw [withTag_own hg h]
  exact if_pos he

theorem matchShirt_exited (p : Port) (hg : s.generation u ≤ 1023) (h : s.shirt u = some sh) (he : sh.state = .exited)
    (hc : sh.cure = some c) (ho : s.order sh.order.index = some o) :
    matchShirt p (tagBytes (s.tagOf u)) s = matchExited u sh c o s := by
  unfold matchShirt tagBytes bytes2
  dsimp only
  rw [withTag_own hg h, if_neg (not_not_intro he), hc, ho]

theorem matchExited_scrap (h : sh.fault.isSome = true ∨ c.result = .scorched) :
    matchExited u sh c o s =
      (.done (matchResults .scrap (s.tagOf u) sh c o.webNumber false), freeUnit .scrapped u s) := if_pos h

theorem matchExited_sound (h : sh.fault = none) (hs : c.result ≠ .scorched) :
    matchExited u sh c o s =
      if c.result = .undercured ∨ c.result = .unmeasured then
        (.done (matchResults .recureOrScrap (s.tagOf u) sh c o.webNumber false), s)
      else if c.result = .cured then
        match o.state with
        | .cancelling => matchOrphan u sh c o s
        | .active | .held => matchBin u sh c o s
        | .complete => (refuse .state, s)
      else (refuse .state, s) :=
  if_neg (by rw [h]; exact fun both => both.elim nofun hs)

theorem matchExited_recure (h : sh.fault = none) (hr : c.result = .undercured ∨ c.result = .unmeasured) :
    matchExited u sh c o s = (.done (matchResults .recureOrScrap (s.tagOf u) sh c o.webNumber false), s) := by
  rw [matchExited_sound h (by rintro hs; rw [hs] at hr; exact hr.elim nofun nofun), if_pos hr]

theorem matchExited_cancelling (h : sh.fault = none) (hr : c.result = .cured) (ho : o.state = .cancelling) :
    matchExited u sh c o s = matchOrphan u sh c o s := by
  rw [matchExited_sound h (by rw [hr]; decide), if_neg (by rw [hr]; decide), if_pos hr, ho]

theorem matchExited_live (h : sh.fault = none) (hr : c.result = .cured) (ho : o.state = .active ∨ o.state = .held) :
    matchExited u sh c o s = matchBin u sh c o s := by
  rw [matchExited_sound h (by rw [hr]; decide), if_neg (by rw [hr]; decide), if_pos hr]
  obtain ho | ho := ho <;> rw [ho]

theorem matchOrphan_slot {sl : SlotNo} (hfree : tget s.pack.shelf sl = none)
    (hlow : ∀ j : SlotNo, j < sl → (tget s.pack.shelf j).isSome = true) :
    matchOrphan u sh c o s = (.done (matchResults (.orphan sl) (s.tagOf u) sh c o.webNumber false),
      freeUnit .orphaned u (placeEntry sl sh.artwork sh.sku s)) := by
  have lowest : lowestFreeSlot s = some sl := lowest_eq_some (by rw [hfree]; rfl) fun j hj => by simpa using hlow j hj
  rw [matchOrphan, lowest]

theorem matchOrphan_full (hfull : ∀ sl : SlotNo, (tget s.pack.shelf sl).isSome = true) :
    matchOrphan u sh c o s =
      (.done (matchResults .discard (s.tagOf u) sh c o.webNumber false), freeUnit .scrapped u s) := by
  have lowest : lowestFreeSlot s = none := lowest_eq_none.mpr fun j => by simpa using hfull j
  rw [matchOrphan, lowest]

theorem isComplete_eq (s : State) (i : OrderNo) : isComplete s i = decide ((s.order i).map (·.state) = some .complete) := by
  unfold isComplete
  cases s.order i <;> simp

theorem matchBin_assigned {b : BinNo} {s1 : State} (h : assignBin sh.order.index s = some (b, s1)) :
    matchBin u sh c o s = (.done (matchResults (.bin b) (s.tagOf u) sh c o.webNumber
      (decide (((freeUnit .binned u s1).order sh.order.index).map (·.state) = some .complete))),
        freeUnit .binned u s1) := by
  rw [matchBin, h, ← isComplete_eq]

theorem matchBin_full (h : assignBin sh.order.index s = none) :
    matchBin u sh c o s = (.refused .noBin (noBinAdditions (s.tagOf u) sh o), s) := by
  rw [matchBin, h]

theorem assignBin_held {i : OrderNo} {b : BinNo} (ho : s.order i = some o) (hb : o.bin = some b) :
    assignBin i s = some (b, s) := by
  unfold assignBin
  simp only [ho, hb]

theorem assignBin_given {i : OrderNo} {b : BinNo} (ho : s.order i = some o) (hb : o.bin = none)
    (hfree : tget s.pack.bins b = none) (hlow : ∀ j : BinNo, j < b → (tget s.pack.bins j).isSome = true) :
    assignBin i s = some (b, putOrder i (some { o with bin := some b })
      (s.setPack { s.pack with bins := tset s.pack.bins b (some (s.handleOf i)) })) := by
  rw [assignBin_eq ho (.inr ⟨hb, hfree, hlow⟩), if_pos hb]

end

/-- Settles O54, each disposition by its test of R145. -/
theorem matchDispositions : Obligations.MatchDispositions := by
  refine ⟨?_, fun d tag sh c web complete => ⟨d.bytes, limitBytes c, _, matchResults_eq d tag sh c web complete, ?_,
    fun needed scorch hn hs => ?_, fun hn hs => ?_, indicationBits _ _ _ _ _ _ _ rfl⟩⟩
  · rintro s p f rest u sh _ hoff hbody hg hsh rfl
    refine ⟨fun hne => ?_, ?_⟩
    · have row := matchShirt_notExited (s := s.without p rest) p hg hsh hne
      rw [State.without_tagOf, ← hbody] at row
      exact exec_offered hoff (r := .matchShirt) row
    rintro c o _ he hc rfl ho
    have row := matchShirt_exited (s := s.without p rest) p hg hsh he hc ho
    rw [State.without_tagOf, ← hbody] at row
    have reply : ∀ {r : Reply} {t : State}, matchExited u sh c o (s.without p rest) = (r, t) →
        exec (.matchShirt p) s = answer t p f r := fun h => exec_offered hoff (r := .matchShirt) (row.trans h)
    refine ⟨fun h => reply (matchExited_scrap h), fun h hr => reply (matchExited_recure h hr),
      fun h hr hs => ⟨fun sl hfree hlow => ?_, fun hfull => ?_⟩,
      fun h hr hs => ⟨fun b hb => ⟨_, rfl, ?_⟩, fun b hb hfree hlow => ⟨_, rfl, ?_⟩, fun hb hfull => ?_⟩⟩
    · exact reply ((matchExited_cancelling h hr hs).trans (matchOrphan_slot hfree hlow))
    · exact reply ((matchExited_cancelling h hr hs).trans (matchOrphan_full hfull))
    · exact reply ((matchExited_live h hr hs).trans (matchBin_assigned (assignBin_held ho hb)))
    · exact reply ((matchExited_live h hr hs).trans (matchBin_assigned (assignBin_given ho hb hfree hlow)))
    · exact reply ((matchExited_live h hr hs).trans (matchBin_full (assignBin_full ho hb hfull)))
  · cases d <;> rfl
  · rw [limitBytes, hn, hs]; rfl
  · rw [limitBytes, hn, hs]; rfl

/-! ### SCRAP (R150, R151) -/

section
variable {s : State} {u : UnitNo} {sh : Shirt}

theorem scrap_own (p : Port) (hg : s.generation u ≤ 1023) (h : s.shirt u = some sh) :
    scrap p (tagBytes (s.tagOf u)) s =
      if inProcess s u sh = true then (.refused .inProcess [], s)
      else (.done (scrapResults s sh (freeUnit .scrapped u (scrapStation u sh s))),
        freeUnit .scrapped u (scrapStation u sh s)) := by
  unfold scrap tagBytes bytes2
  dsimp only
  rw [withTag_own hg h]
  rfl

theorem inProcess_iff (s : State) (u : UnitNo) (sh : Shirt) :
    inProcess s u sh = true ↔ sh.state = .pretreating
      ∨ (s.print.state ∈ [PrintState.registering, .passing, .aborting, .parking] ∧ s.print.held = some (s.tagOf u)) := by
  rw [inProcess, Bool.or_eq_true, Bool.and_eq_true, working_iff, decide_eq_true_eq, decide_eq_true_eq]

theorem scrapResults_eq {l : Line} (h : lineOf s sh = some l) (t : State) :
    scrapResults s sh t = handleBytes sh.order ++ bytes1 sh.line.val
      ++ bytes1 (if l.scrap < 255 then l.scrap + 1 else l.scrap) ++ bytes1 (l.quantity - l.good - (l.inFlight - 1))
      ++ bytes1 (orderStateCode ((t.order sh.order.index).map (·.state))) := by
  rw [scrapResults, lineAfter, h]
  rfl

end

/-- Settles O55: the unit is freed from the state that its station's side leaves. -/
theorem scrapByPlace : Obligations.ScrapByPlace := by
  rintro s p f rest u sh _ hoff hbody hg hsh rfl
  have own := scrap_own (s := s.without p rest) p hg hsh
  rw [State.without_tagOf, ← hbody] at own
  refine ⟨fun busy => exec_offered hoff (r := .scrap) (own.trans (if_pos ((inProcess_iff _ _ _).mpr busy))), ?_⟩
  rintro l _ _ hpre hprint hl rfl rfl
  have free : ¬inProcess (s.without p rest) u sh = true := fun h => ((inProcess_iff _ _ _).mp h).elim hpre hprint
  rw [if_neg free, scrapResults_eq (s := s.without p rest) hl] at own
  exact exec_offered hoff (r := .scrap) own

end Sys2Proof.Machine
end

section
/-! O58: QUIESCE STATION, RESUME STATION and the completion of a quiesce. -/

namespace Sys2Proof.Machine

/-! ### Station codes -/

theorem stationOf_of_toNat {b : Byte} {st : Station} (h : b.toNat = st.code) : stationOf b = some st := by
  obtain rfl : b = BitVec.ofNat 8 st.code := BitVec.eq_of_toNat_eq (by rw [h]; cases st <;> rfl)
  cases st <;> rfl

theorem stationOf_above {b : Byte} (h : 3 < b.toNat) : stationOf b = none := by
  have ne : ∀ c : Byte, c.toNat ≤ 3 → b ≠ c := fun c hc e => by rw [e] at h; exact Nat.not_lt.mpr hc h
  unfold stationOf
  rw [if_neg (ne 0 (by decide)), if_neg (ne 1 (by decide)), if_neg (ne 2 (by decide)), if_neg (ne 3 (by decide))]

/-! ### The two requests by the station's quiesce state (R164, R166) -/

section
variable {s : State} {st : Station} {code : Byte}

theorem quiesceStation_badField (p : Port) (h : stationOf code = none) :
    quiesceStation p [code] s = (.refused .badField [], s) := by
  simp only [quiesceStation, h]
  rfl

theorem resumeStation_badField (p : Port) (h : stationOf code = none) :
    resumeStation p [code] s = (.refused .badField [], s) := by
  simp only [resumeStation, h]
  rfl

variable (p : Port) (h : stationOf code = some st)
include h

theorem quiesceStation_quiescing (hq : s.quiesce st = .quiescing) :
    quiesceStation p [code] s = (.condition .already [1], s) := by
  simp only [quiesceStation, h, hq]
  rfl

theorem quiesceStation_quiesced (hq : s.quiesce st = .quiesced) :
    quiesceStation p [code] s = (.condition .already [2], s) := by
  simp only [quiesceStation, h, hq]
  rfl

theorem quiesceStation_working (hq : s.quiesce st = .running) (hw : workInHand s st = true) :
    quiesceStation p [code] s = (.done [1], restUnit st (setQuiesce st .quiescing s)) := by
  simp only [quiesceStation, h, hq, hw, if_true]
  rfl

theorem quiesceStation_idle (hq : s.quiesce st = .running) (hw : workInHand s st = false) :
    quiesceStation p [code] s =
      (.done [2], post .order (.quiesced st) (restUnit st (setQuiesce st .quiesced s))) := by
  simp only [quiesceStation, h, hq, hw, Bool.false_eq_true, if_false]
  rfl

theorem resumeStation_running (hq : s.quiesce st = .running) :
    resumeStation p [code] s = (.condition .already [], s) := by
  simp only [resumeStation, h, hq]

theorem resumeStation_quiescing (hq : s.quiesce st = .quiescing) :
    resumeStation p [code] s =
      (.done [], resumeWorking st (post .order (.resumed st (s.quiesce st)) (setQuiesce st .running s))) := by
  simp only [resumeStation, h, hq]

theorem resumeStation_quiesced (hq : s.quiesce st = .quiesced) :
    resumeStation p [code] s =
      (.done [], beginHeld st (post .order (.resumed st (s.quiesce st)) (setQuiesce st .running s))) := by
  simp only [resumeStation, h, hq]

end

/-! ### What a station that ceases to be RUNNING does with a unit it has not begun (R167) -/

section
variable {s : State} {q : Quiesce}

theorem pretreatWaiting_iff (s : State) :
    pretreatWaiting s = true ↔ s.pretreat.state ∈ [PretreatState.quiesceWait, .barFault, .lowFluid] := by
  unfold pretreatWaiting
  cases s.pretreat.state <;> simp

theorem restUnit_pretreat_waiting (h : s.pretreat.state ∈ [PretreatState.quiesceWait, .barFault, .lowFluid]) :
    restUnit .pretreat (setQuiesce .pretreat q s) =
      s.setPretreat { s.pretreat with quiesce := q, state := .quiesceWait, plan := none } :=
  if_pos ((pretreatWaiting_iff _).mpr h)

theorem restUnit_pretreat (h : s.pretreat.state ∉ [PretreatState.quiesceWait, .barFault, .lowFluid]) :
    restUnit .pretreat (setQuiesce .pretreat q s) = s.setPretreat { s.pretreat with quiesce := q } :=
  if_neg fun w => h ((pretreatWaiting_iff _).mp w)

theorem restUnit_print_waiting (h : s.print.state = .waitArtwork) :
    restUnit .print (setQuiesce .print q s) = s.setPrint { s.print with quiesce := q, state := .quiesceWait } := if_pos h

theorem restUnit_print (h : s.print.state ≠ .waitArtwork) :
    restUnit .print (setQuiesce .print q s) = s.setPrint { s.print with quiesce := q } := if_neg h

/-- The entry test made again revises the station's state alone. -/
theorem retest_setTunnel (s : State) :
    retest s = s.setTunnel { s.tunnel with
      state := if s.tunnel.state = .idle then .idle else if entryTest s then .transferWait else .inhibited } := by
  obtain ⟨hi, he⟩ | ⟨hi, he⟩ := retest_cases s
  · have same : ({ s.tunnel with state := .idle } : Tunnel) = s.tunnel := by rw [← hi]
    rw [he, if_pos hi, same]
    rfl
  · rw [he, if_neg hi]

theorem restUnit_tunnel (h : q ≠ .running) :
    restUnit .tunnel (setQuiesce .tunnel q s) =
      s.setTunnel { s.tunnel with quiesce := q, state := if s.tunnel.state = .idle then .idle else .inhibited } := by
  have closed : ¬entryTest (setQuiesce .tunnel q s) = true := fun t => h ((entryTest_iff _).mp t).1
  rw [restUnit, retest_setTunnel, if_neg closed]
  rfl

end

/-! ### Notices only join the ports -/

/-- A port's queue has only been joined. -/
def PortState.Grown (x y : PortState) : Prop := x.notices <+: y.notices ∧ (x.overrun = true → y.overrun = true)

theorem PortState.Grown.refl (x : PortState) : x.Grown x := ⟨List.prefix_rfl, id⟩

theorem PortState.Grown.trans {x y z : PortState} (h : x.Grown y) (h' : y.Grown z) : x.Grown z :=
  ⟨h.1.trans h'.1, fun o => h'.2 (h.2 o)⟩

theorem PortState.join_room {x : PortState} {r : NoticeRecord} (h : x.notices.length < 16) :
    x.join r = { x with notices := x.notices ++ [r] } := if_pos h

theorem PortState.join_full {x : PortState} {r : NoticeRecord} (h : 16 ≤ x.notices.length) :
    x.join r = { x with overrun := true } := if_neg (Nat.not_lt.mpr h)

theorem PortState.grown_join (x : PortState) (r : NoticeRecord) : x.Grown (x.join r) := by
  unfold PortState.join
  split
  · exact ⟨List.prefix_append .., id⟩
  · exact ⟨List.prefix_rfl, fun _ => rfl⟩

/-- Between two states every port's queue has only been joined. -/
def OnlyPosted (s t : State) : Prop := ∀ q : Port, (s.port q).Grown (t.port q)

theorem OnlyPosted.trans {s t r : State} (h : OnlyPosted s t) (h' : OnlyPosted t r) : OnlyPosted s r :=
  fun q => (h q).trans (h' q)

theorem OnlyPosted.of_ports {s t : State} (h : t.ports = s.ports) : OnlyPosted s t := fun q => by
  rw [port_of_ports h]
  exact .refl _

theorem post_onlyPosted (p : Port) (n : Notice) (s : State) : OnlyPosted s (post p n s) := fun q => by
  rw [post_port]
  by_cases h : q = p
  · rw [if_pos h, h]
    exact PortState.grown_join ..
  · rw [if_neg h]
    exact .refl _

section
variable (s : State) (i : OrderNo)

theorem returnCheck_onlyPosted : OnlyPosted s (returnCheck i s) := by
  obtain h | ⟨_, _, _, _, h⟩ := returnCheck_cases i s
  · exact .of_ports (congrArg State.ports h)
  · rw [h]
    unfold freeOrder
    split
    · exact .of_ports rfl
    · exact (OnlyPosted.of_ports (returnDescriptor_ports i s)).trans (post_onlyPosted _ _ _)

theorem scrapLimitCheck_onlyPosted (k : Fin 8) (before after : Nat) :
    OnlyPosted s (scrapLimitCheck i k before after s) := by
  unfold scrapLimitCheck
  split
  · exact .of_ports rfl
  · split
    · exact (OnlyPosted.of_ports rfl).trans (post_onlyPosted _ _ _)
    · exact .of_ports rfl

theorem completionCheck_onlyPosted : OnlyPosted s (completionCheck i s) := by
  unfold completionCheck
  split
  · exact .of_ports rfl
  · split
    · exact (OnlyPosted.of_ports rfl).trans ((post_onlyPosted _ _ _).trans (post_onlyPosted _ _ _))
    · exact .of_ports rfl

theorem afterAdjust_onlyPosted (k : Fin 8) (d : Disposition) (before after : Line) :
    OnlyPosted s (afterAdjust i k d before after s) := by
  unfold afterAdjust
  split
  · exact completionCheck_onlyPosted s i
  · split
    · split
      · exact returnCheck_onlyPosted s i
      · exact scrapLimitCheck_onlyPosted s i k _ _
    · exact .of_ports rfl
  · exact returnCheck_onlyPosted s i
  · exact returnCheck_onlyPosted s i
  · exact returnCheck_onlyPosted s i
  · exact .of_ports rfl

theorem bookFreed_onlyPosted (h : Handle) (k : Fin 8) (d : Disposition) : OnlyPosted s (bookFreed h k d s) := by
  unfold bookFreed
  split
  · exact .of_ports rfl
  · split
    · exact .of_ports rfl
    · exact (OnlyPosted.of_ports (putLine_ports _ _ _)).trans (afterAdjust_onlyPosted _ _ _ _ _ _)

end

/-! ### The freeing of the last record of a QUIESCING tunnel (R133) -/

section
variable {s : State} {u : UnitNo}

theorem leaveExits_quiesce (s : State) : (leaveExits u s).tunnel.quiesce = s.tunnel.quiesce := by
  unfold leaveExits
  split
  · exact retest_quiesce _
  · rfl

/-- The tunnel's quiesce state after a unit is freed is the one its leaving the queue gives. -/
theorem freeUnit_quiesce (d : Disposition) (hsh : (s.shirt u).isSome = true) :
    (freeUnit d u s).tunnel.quiesce = (leaveQueue u (leavePlaten u s)).tunnel.quiesce := by
  obtain ⟨sh, hsh⟩ := Option.isSome_iff_exists.mp hsh
  rw [freeUnit_tunnel (d := d) u hsh]
  exact leaveExits_quiesce _

/-- After a unit has left the queue its freeing only joins notices. -/
theorem freeUnit_onlyPosted (d : Disposition) (hsh : (s.shirt u).isSome = true) :
    OnlyPosted (leaveQueue u (leavePlaten u s)) (freeUnit d u s) := by
  obtain ⟨sh, hsh⟩ := Option.isSome_iff_exists.mp hsh
  unfold freeUnit
  rw [hsh]
  exact (OnlyPosted.of_ports (leaveExits_ports u _)).trans (bookFreed_onlyPosted _ _ _ _)

end

/-! ### The requests, station by station -/

theorem workInHand_load (s : State) : workInHand s .load = false := rfl

theorem workInHand_pretreat (s : State) : workInHand s .pretreat = true ↔ s.pretreat.state = .spraying := decide_eq_true_iff

theorem workInHand_print (s : State) :
    workInHand s .print = true ↔ s.print.state ∈ [PrintState.registering, .passing, .aborting, .parking] :=
  working_iff _

theorem workInHand_tunnel (s : State) : workInHand s .tunnel = true ↔ s.tunnel.queue ≠ [] := by
  rw [workInHand]
  cases s.tunnel.queue <;> simp

section
variable {s : State} {p : Port} {f : Frame} {rest : List Frame} {code : Byte} {st : Station}

theorem exec_quiesce_working (hoff : Offered s p .quiesceStation f rest) (hbody : f.body = [code])
    (hst : stationOf code = some st) (hq : s.quiesce st = .running) (hw : workInHand s st = true) :
    exec (.quiesceStation p) s =
      answer (restUnit st (setQuiesce st .quiescing (s.without p rest))) p f (.done [1]) := by
  have row := quiesceStation_working (s := s.without p rest) p hst (by cases st <;> exact hq) (by cases st <;> exact hw)
  rw [← hbody] at row
  exact exec_offered hoff (r := .quiesceStation) row

theorem exec_quiesce_idle (hoff : Offered s p .quiesceStation f rest) (hbody : f.body = [code])
    (hst : stationOf code = some st) (hq : s.quiesce st = .running) (hw : ¬workInHand s st = true) :
    exec (.quiesceStation p) s =
      answer (post .order (.quiesced st) (restUnit st (setQuiesce st .quiesced (s.without p rest)))) p f (.done [2]) := by
  have row := quiesceStation_idle (s := s.without p rest) p hst (by cases st <;> exact hq)
    (by cases st <;> exact Bool.eq_false_iff.mpr hw)
  rw [← hbody] at row
  exact exec_offered hoff (r := .quiesceStation) row

end

section
variable {s : State} {p : Port} {f : Frame} {rest : List Frame} {code : Byte} {st : Station}

theorem without_quiesce (st : Station) : (s.without p rest).quiesce st = s.quiesce st := by cases st <;> rfl

theorem exec_resume_quiescing (hoff : Offered s p .resumeStation f rest) (hbody : f.body = [code])
    (hst : stationOf code = some st) (hq : s.quiesce st = .quiescing) :
    exec (.resumeStation p) s = answer (resumeWorking st
      (post .order (.resumed st (s.quiesce st)) (setQuiesce st .running (s.without p rest)))) p f (.done []) := by
  have row := resumeStation_quiescing (s := s.without p rest) p hst ((without_quiesce st).trans hq)
  rw [← hbody, without_quiesce] at row
  exact exec_offered hoff (r := .resumeStation) row

theorem exec_resume_quiesced (hoff : Offered s p .resumeStation f rest) (hbody : f.body = [code])
    (hst : stationOf code = some st) (hq : s.quiesce st = .quiesced) :
    exec (.resumeStation p) s = answer (beginHeld st
      (post .order (.resumed st (s.quiesce st)) (setQuiesce st .running (s.without p rest)))) p f (.done []) := by
  have row := resumeStation_quiesced (s := s.without p rest) p hst ((without_quiesce st).trans hq)
  rw [← hbody, without_quiesce] at row
  exact exec_offered hoff (r := .resumeStation) row

/-- A resumed station whose quiesce was not complete, or that holds no unit at rest, begins nothing. -/
theorem exec_resume_plain (hoff : Offered s p .resumeStation f rest) (hbody : f.body = [code])
    (hst : stationOf code = some st) (hq : s.quiesce st ≠ .running)
    (working : ∀ x, resumeWorking st x = x)
    (held : s.quiesce st = .quiesced → beginHeld st
        (post .order (.resumed st (s.quiesce st)) (setQuiesce st .running (s.without p rest)))
      = post .order (.resumed st (s.quiesce st)) (setQuiesce st .running (s.without p rest))) :
    exec (.resumeStation p) s =
      answer (post .order (.resumed st (s.quiesce st)) (setQuiesce st .running (s.without p rest))) p f (.done []) := by
  cases h : s.quiesce st with
  | running => exact absurd h hq
  | quiescing =>
    have row := exec_resume_quiescing hoff hbody hst h
    rw [working, h] at row
    exact row
  | quiesced =>
    have row := exec_resume_quiesced hoff hbody hst h
    rw [held h, h] at row
    exact row

/-- The entry test of a resumed Tunnel station. -/
theorem retest_resumed {t : State} (hq : t.tunnel.quiesce = .running) :
    retest t = t.setTunnel { t.tunnel with
      state :=
        if t.tunnel.state = .idle then .idle
        else if t.tunnel.ready = true ∧ t.tunnel.queue.length < 10 ∧ t.pack.exits.length < 16 then .transferWait
        else .inhibited } := by
  have test : entryTest t = true
      ↔ t.tunnel.ready = true ∧ t.tunnel.queue.length < 10 ∧ t.pack.exits.length < 16 := by
    rw [entryTest_iff, hq]
    exact and_iff_right rfl
  simp only [retest_setTunnel, test]

end

/-- Settles O58, by the rows of R164 and R166 and by what the freeing of a unit posts after the queue is left. -/
theorem quiesceAndResume : Obligations.QuiesceAndResume := by
  refine ⟨?_, ?_, fun _ _ => ⟨rfl, rfl, rfl, rfl⟩, fun s st => ⟨fun h => if_pos h, fun h => if_neg h⟩, ?_⟩
  · rintro s p f rest code _ hoff hbody rfl
    refine ⟨fun high => ?_, fun st hst => ⟨fun hq => ?_, fun hq => ?_⟩, fun hcode hq => ?_,
      fun hcode hq => ⟨fun hs => ?_, fun hs => ?_, fun hs => ?_⟩, fun hcode hq => ⟨fun hs => ?_, fun hs => ?_, fun hs => ?_⟩,
      fun hcode hq => ⟨fun hs => ?_, fun hs => ?_⟩⟩
    · have row := quiesceStation_badField (s := s.without p rest) p (stationOf_above high)
      rw [← hbody] at row
      exact exec_offered hoff (r := .quiesceStation) row
    · have row := quiesceStation_quiescing (s := s.without p rest) p (stationOf_of_toNat hst) (by cases st <;> exact hq)
      rw [← hbody] at row
      exact exec_offered hoff (r := .quiesceStation) row
    · have row := quiesceStation_quiesced (s := s.without p rest) p (stationOf_of_toNat hst) (by cases st <;> exact hq)
      rw [← hbody] at row
      exact exec_offered hoff (r := .quiesceStation) row
    · subst hcode
      exact exec_quiesce_idle hoff hbody (st := .load) rfl hq (by rw [workInHand_load]; decide)
    · subst hcode
      refine (exec_quiesce_working hoff hbody (st := .pretreat) rfl hq ((workInHand_pretreat s).mpr hs)).trans ?_
      rw [restUnit_pretreat (by rw [State.without_pretreat, hs]; decide)]
      rfl
    · subst hcode
      refine (exec_quiesce_idle hoff hbody (st := .pretreat) rfl hq
        (by rw [workInHand_pretreat, hs]; decide)).trans ?_
      rw [restUnit_pretreat (by rw [State.without_pretreat, hs]; decide)]
      rfl
    · subst hcode
      refine (exec_quiesce_idle hoff hbody (st := .pretreat) rfl hq fun hw => ?_).trans ?_
      · rw [(workInHand_pretreat s).mp hw] at hs
        exact absurd hs (by decide)
      · rw [restUnit_pretreat_waiting (by rw [State.without_pretreat]; exact hs)]
        rfl
    · subst hcode
      refine (exec_quiesce_working hoff hbody (st := .print) rfl hq ((workInHand_print s).mpr hs)).trans ?_
      rw [restUnit_print fun e => by rw [State.without_print] at e; rw [e] at hs; exact absurd hs (by decide)]
      rfl
    · subst hcode
      refine (exec_quiesce_idle hoff hbody (st := .print) rfl hq fun hw => ?_).trans ?_
      · have apart : ∀ st ∈ [PrintState.idle, .quiesceWait],
            st ∉ [PrintState.registering, .passing, .aborting, .parking] := by decide
        exact apart _ hs ((workInHand_print s).mp hw)
      · rw [restUnit_print fun e => by rw [State.without_print] at e; rw [e] at hs; exact absurd hs (by decide)]
        rfl
    · subst hcode
      refine (exec_quiesce_idle hoff hbody (st := .print) rfl hq (by rw [workInHand_print, hs]; decide)).trans ?_
      rw [restUnit_print_waiting (by rw [State.without_print]; exact hs)]
      rfl
    · subst hcode
      refine (exec_quiesce_working hoff hbody (st := .tunnel) rfl hq ((workInHand_tunnel s).mpr hs)).trans ?_
      rw [restUnit_tunnel (by decide)]
      rfl
    · subst hcode
      refine (exec_quiesce_idle hoff hbody (st := .tunnel) rfl hq fun hw => (workInHand_tunnel s).mp hw hs).trans ?_
      rw [restUnit_tunnel (by decide)]
      rfl
  · rintro s p f rest code _ hoff hbody rfl
    refine ⟨fun high => ?_, fun st hst => ⟨fun hq => ?_, ?_⟩⟩
    · have row := resumeStation_badField (s := s.without p rest) p (stationOf_above high)
      rw [← hbody] at row
      exact exec_offered hoff (r := .resumeStation) row
    · have row := resumeStation_running (s := s.without p rest) p (stationOf_of_toNat hst) ((without_quiesce st).trans hq)
      rw [← hbody] at row
      exact exec_offered hoff (r := .resumeStation) row
    · rintro hq _ rfl
      have known := stationOf_of_toNat hst
      refine ⟨?_, ?_, ?_, ?_, ?_, ?_⟩
      · rintro rfl
        exact exec_resume_plain hoff hbody known hq (fun _ => rfl) fun _ => rfl
      · rintro rfl hrest hs
        exact (exec_resume_quiesced hoff hbody known hrest).trans (by rw [beginHeld, if_pos (by exact hs)])
      · rintro rfl h
        exact exec_resume_plain hoff hbody known hq (fun _ => rfl) fun hrest =>
          if_neg (h.resolve_left (by rw [hrest]; decide))
      · rintro rfl hrest hs
        exact (exec_resume_quiesced hoff hbody known hrest).trans (by rw [beginHeld, if_pos (by exact hs)])
      · rintro rfl h
        exact exec_resume_plain hoff hbody known hq (fun _ => rfl) fun hrest =>
          if_neg (h.resolve_left (by rw [hrest]; decide))
      · rintro rfl
        have tested := retest_resumed (t := post .order (.resumed .tunnel (s.quiesce .tunnel))
          (setQuiesce .tunnel .running (s.without p rest))) rfl
        cases h : s.quiesce .tunnel with
        | running => exact absurd h hq
        | quiescing =>
          have row := exec_resume_quiescing hoff hbody known h
          rw [resumeWorking, tested, h] at row
          exact row
        | quiesced =>
          have row := exec_resume_quiesced hoff hbody known h
          rw [beginHeld, tested, h] at row
          exact row
  · rintro d u s _ r hsh hr hu rfl
    have posted := freeUnit_onlyPosted d hsh .order
    have mem : ∃ r ∈ (leavePlaten u s).tunnel.queue, r.unit = u := ⟨r, by rw [leavePlaten_tunnel]; exact hr, hu⟩
    rw [freeUnit_quiesce d hsh, ← leavePlaten_tunnel u s, ← port_of_ports (leavePlaten_ports u s), ← leavePlaten_time u s]
    generalize leavePlaten u s = x at posted mem ⊢
    refine ⟨fun last hq => ?_, fun h => (leaveQueue_quiesce_stays h).1⟩
    obtain ⟨quiesced, joined, _⟩ := leaveQueue_completes mem last hq
    rw [joined] at posted
    refine ⟨quiesced, fun room => ?_, fun full => ?_⟩
    · rw [PortState.join_room room] at posted
      exact posted.1
    · rw [PortState.join_full full] at posted
      exact posted.2 rfl

end Sys2Proof.Machine
end

section
/-! O59: READ ORDER, READ ARTWORK and READ PACK. -/

namespace Sys2Proof.Machine

/-! ### READ ORDER (R38, R175) -/

section
variable {s : State} {p : Port} {f : Frame} {rest : List Frame} {i : OrderNo} {o : Order}

theorem readOrder_whole (p : Port) (hg : (s.handleOf i).generation ≤ 255) (ho : s.order i = some o) :
    readOrder p (handleBytes (s.handleOf i)) s = (.done (orderPicture s o 0), s) := by
  unfold readOrder handleBytes bytes2
  dsimp only
  rw [withHandle_own hg ho]

theorem readOrder_from (p : Port) (hg : (s.handleOf i).generation ≤ 255) (ho : s.order i = some o) (b : Byte) :
    readOrder p (handleBytes (s.handleOf i) ++ [b]) s =
      if o.lines.length ≤ b.toNat then (.refused .limit [], s) else (.done (orderPicture s o b.toNat), s) := by
  unfold readOrder handleBytes bytes2
  simp only [List.cons_append, List.nil_append]
  rw [withHandle_own hg ho]
  rfl

/-- READ ORDER with the first position it asks for, or with none. -/
theorem exec_readOrder (hoff : Offered s p .readOrder f rest) (hg : (s.handleOf i).generation ≤ 255)
    (ho : s.order i = some o) {more : List Byte} {first : Nat} (hbody : f.body = handleBytes (s.handleOf i) ++ more)
    (h : more = [] ∧ first = 0 ∨ ∃ b : Byte, more = [b] ∧ first = b.toNat ∧ first < o.lines.length) :
    exec (.readOrder p) s = answer (s.without p rest) p f (.done (orderPicture s o first)) := by
  obtain ⟨rfl, rfl⟩ | ⟨b, rfl, rfl, hlt⟩ := h
  · have row := readOrder_whole (s := s.without p rest) p hg ho
    rw [List.append_nil] at hbody
    rw [State.without_handleOf, ← hbody] at row
    exact exec_offered hoff (r := .readOrder) row
  · have row := readOrder_from (s := s.without p rest) p hg ho b
    rw [State.without_handleOf, ← hbody, if_neg (Nat.not_le.mpr hlt)] at row
    exact exec_offered hoff (r := .readOrder) row

theorem exec_readOrder_beyond (hoff : Offered s p .readOrder f rest) (hg : (s.handleOf i).generation ≤ 255)
    (ho : s.order i = some o) {b : Byte} (hbody : f.body = handleBytes (s.handleOf i) ++ [b])
    (h : o.lines.length ≤ b.toNat) : exec (.readOrder p) s = answer (s.without p rest) p f (.refused .limit []) := by
  have row := readOrder_from (s := s.without p rest) p hg ho b
  rw [State.without_handleOf, ← hbody, if_pos h] at row
  exact exec_offered hoff (r := .readOrder) row

end

/-! ### READ ARTWORK (R45, R175) -/

section
variable {s : State} {p : Port} {f : Frame} {rest : List Frame} {a : ArtworkNo} {d : Design}

theorem readArtwork_whole (p : Port) (a : ArtworkNo) (s : State) :
    readArtwork p (bytes1 a.val) s = (.done (artworkPicture (tget s.artworks a) 0), s) := by
  unfold readArtwork bytes1
  dsimp only
  rw [recordNo_ofNat a (by decide)]

theorem readArtwork_from (p : Port) (a : ArtworkNo) (b : Byte) (s : State) :
    readArtwork p (bytes1 a.val ++ [b]) s =
      if beyondBands (tget s.artworks a) b.toNat = true then (.refused .limit [], s)
      else (.done (artworkPicture (tget s.artworks a) b.toNat), s) := by
  unfold readArtwork bytes1
  simp only [List.cons_append, List.nil_append]
  rw [recordNo_ofNat a (by decide)]
  rfl

theorem artworkPicture_defined {x : Artwork} (h : x.design = some d) (first : Nat) :
    artworkPicture x first = [1] ++ bytes2 x.refs ++ bytes1 (yesNoCode x.staged) ++ bytes1 d.coverage.length
      ++ [d.zoneMask] ++ bytes1 d.whitePasses ++ bytes1 d.colourPasses
      ++ (d.coverage.drop first).flatMap fun c => bytes1 c.white ++ bytes1 c.colour := by
  unfold artworkPicture
  simp only [h, List.append_assoc]
  rfl

theorem artworkPicture_empty {x : Artwork} (h : x.design = none) (first : Nat) :
    artworkPicture x first = [0] ++ bytes2 x.refs ++ bytes1 (yesNoCode x.staged) ++ [0, 0, 0, 0] := by
  unfold artworkPicture
  simp only [h]
  rfl

theorem beyondBands_iff (x : Artwork) (n : Nat) :
    beyondBands x n = true ↔ (∀ d, x.design = some d → d.coverage.length ≤ n) ∧ (x.design = none → 0 < n) := by
  unfold beyondBands
  cases h : x.design <;> simp

/-- READ ARTWORK from a band that stands on the list, or with none asked for. -/
theorem exec_readArtwork (hoff : Offered s p .readArtwork f rest) {more : List Byte} {first : Nat}
    (hbody : f.body = bytes1 a.val ++ more)
    (h : more = [] ∧ first = 0 ∨ ∃ b : Byte, more = [b] ∧ first = b.toNat ∧ ¬beyondBands (tget s.artworks a) first = true) :
    exec (.readArtwork p) s = answer (s.without p rest) p f (.done (artworkPicture (tget s.artworks a) first)) := by
  obtain ⟨rfl, rfl⟩ | ⟨b, rfl, rfl, hlt⟩ := h
  · have row := readArtwork_whole p a (s.without p rest)
    rw [List.append_nil] at hbody
    rw [← hbody] at row
    exact exec_offered hoff (r := .readArtwork) row
  · have row := readArtwork_from p a b (s.without p rest)
    rw [← hbody, State.without_artworks, if_neg hlt] at row
    exact exec_offered hoff (r := .readArtwork) row

theorem exec_readArtwork_beyond (hoff : Offered s p .readArtwork f rest) {b : Byte}
    (hbody : f.body = bytes1 a.val ++ [b]) (h : beyondBands (tget s.artworks a) b.toNat = true) :
    exec (.readArtwork p) s = answer (s.without p rest) p f (.refused .limit []) := by
  have row := readArtwork_from p a b (s.without p rest)
  rw [← hbody, State.without_artworks, if_pos h] at row
  exact exec_offered hoff (r := .readArtwork) row

theorem exec_readArtwork_badField (hoff : Offered s p .readArtwork f rest) {num : Byte} {more : List Byte}
    (hbody : f.body = num :: more) (h : 63 < num.toNat) :
    exec (.readArtwork p) s = answer (s.without p rest) p f (.refused .badField []) := by
  have row : readArtwork p f.body (s.without p rest) = (.refused .badField [], s.without p rest) := by
    obtain ⟨_, _, _, _, len⟩ := hoff
    rw [hbody] at len ⊢
    unfold readArtwork
    match more, len with
    | [], _ => dsimp only; rw [recordNo_none h]; rfl
    | [_], _ => dsimp only; rw [recordNo_none h]; rfl
  exact exec_offered hoff (r := .readArtwork) row

end

/-! ### READ PACK (R161) -/

section
variable {s : State} {p : Port} {f : Frame} {rest : List Frame}

theorem exec_readPack (hoff : Offered s p .readPack f rest) {part : Byte} {r : List Byte} (hbody : f.body = [part])
    (h : packPart s part = some r) : exec (.readPack p) s = answer (s.without p rest) p f (.done r) := by
  have row : readPack p [part] (s.without p rest) = (.done r, s.without p rest) := by
    have same : packPart (s.without p rest) part = some r := h
    simp only [readPack, same]
  rw [← hbody] at row
  exact exec_offered hoff (r := .readPack) row

theorem exec_readPack_badField (hoff : Offered s p .readPack f rest) {part : Byte} (hbody : f.body = [part])
    (h : 2 < part.toNat) : exec (.readPack p) s = answer (s.without p rest) p f (.refused .badField []) := by
  have ne : ∀ c : Byte, c.toNat ≤ 2 → part ≠ c := fun c hc e => by rw [e] at h; exact Nat.not_lt.mpr hc h
  have row : readPack p [part] (s.without p rest) = (.refused .badField [], s.without p rest) := by
    have unknown : packPart (s.without p rest) part = none := by
      unfold packPart
      rw [if_neg (ne 0 (by decide)), if_neg (ne 1 (by decide)), if_neg (ne 2 (by decide))]
    simp only [readPack, unknown]
    rfl
  rw [← hbody] at row
  exact exec_offered hoff (r := .readPack) row

/-- The four flag bits of an exit entry, beside the bits that A.7 does not name. -/
theorem flagBits (fl : UnitFlags) (x : Byte) (h : x = BitVec.ofNat 8 fl.bits) :
    x.getLsbD 0 = fl.bypassed ∧ x.getLsbD 1 = fl.saturated ∧ x.getLsbD 2 = fl.unreadyEntry
      ∧ x.getLsbD 3 = fl.recured := by
  obtain ⟨h0, h1, h2, h3, _⟩ := indicationBits fl.bypassed fl.saturated fl.unreadyEntry fl.recured false false x h
  exact ⟨h0, h1, h2, h3⟩

theorem exitBytes_eq {u : UnitNo} {sh : Shirt} {c : CureRecord} (hsh : s.shirt u = some sh) (hc : sh.cure = some c) :
    exitBytes s u = tagBytes (s.tagOf u) ++ handleBytes sh.order ++ bytes1 sh.line.val ++ bytes1 c.result.code
      ++ bytes2 c.exposure ++ orNone 2 bytes2 c.required ++ bytes1 (faultCode sh.fault)
      ++ [BitVec.ofNat 8 sh.flags.bits] := by
  simp only [exitBytes, hsh, hc]
  rfl

theorem exitBytes_length {u : UnitNo} {sh : Shirt} {c : CureRecord} (hsh : s.shirt u = some sh) (hc : sh.cure = some c) :
    (exitBytes s u).length = 12 := by
  rw [exitBytes_eq hsh hc]
  cases c.required <;> rfl

theorem slotBytes_entry {sl : SlotNo} {e : ShelfEntry} {k : Nat} (he : tget s.pack.shelf sl = some e)
    (hk : s.pack.age[k]? = some sl) (hfirst : ∀ j, j < k → s.pack.age[j]? ≠ some sl) :
    slotBytes s sl = bytes1 e.artwork.val ++ bytes1 e.sku.fabric.val ++ bytes1 e.sku.colour.val
      ++ bytes1 e.sku.size.val ++ bytes4 e.stamp.toNat ++ bytes1 k := by
  have place : s.pack.age.idxOf sl = k := by
    obtain ⟨hlt, hget⟩ := List.getElem?_eq_some_iff.mp hk
    refine (List.findIdx_eq hlt).mpr ⟨beq_iff_eq.mpr hget, fun j hj => beq_eq_false_iff_ne.mpr fun e => ?_⟩
    exact hfirst j hj (List.getElem?_eq_some_iff.mpr ⟨_, e⟩)
  simp only [slotBytes, he, place]
  rfl

end

/-- Settles O59, read by read. -/
theorem readsOfBooks : Obligations.ReadsOfBooks := by
  obtain ⟨_, handles, _⟩ := frameChecksInOrder
  rintro s p f rest _ rfl
  refine ⟨fun hoff => ⟨fun i o more first ho hg hbody h => exec_readOrder hoff hg ho hbody h,
      fun i o b ho hg hbody h => exec_readOrder_beyond hoff hg ho hbody h,
      fun g ix more hbody => handles .readOrder s p f rest g ix more rfl hoff hbody⟩,
    fun hoff a x hx => ⟨fun d more first hd hbody h => ?_, fun hd h => ?_, fun b hbody hd hn => ?_,
      fun num more hbody h => exec_readArtwork_badField hoff hbody h⟩,
    fun hoff => ⟨fun hbody => exec_readPack hoff hbody rfl, fun hbody => exec_readPack hoff hbody ?_,
      fun hbody => exec_readPack hoff hbody rfl, fun b hbody h => exec_readPack_badField hoff hbody h⟩,
    fun u sh c hsh hc => ⟨BitVec.ofNat 8 sh.flags.bits, ?_, exitBytes_length hsh hc, flagBits _ _ rfl⟩, ?_,
    fun h o ho => ?_, fun sl hsl => ?_, fun sl e k he hk hfirst => slotBytes_entry he hk hfirst, by decide, by decide,
    by decide, by decide⟩
  · subst hx
    have row := exec_readArtwork hoff hbody (h.imp_right fun ⟨b, hb, hf, hlt⟩ => ⟨b, hb, hf, fun hbeyond =>
      absurd (((beyondBands_iff _ _).mp hbeyond).1 d hd) (Nat.not_le.mpr hlt)⟩)
    rw [artworkPicture_defined hd] at row
    exact row
  · subst hx
    rw [← artworkPicture_empty hd 0]
    obtain hbody | hbody := h
    · exact exec_readArtwork hoff (more := []) (by rw [List.append_nil]; exact hbody) (.inl ⟨rfl, rfl⟩)
    · exact exec_readArtwork hoff hbody (.inr ⟨0, rfl, rfl, fun hbeyond =>
        absurd (((beyondBands_iff _ _).mp hbeyond).2 hd) (Nat.lt_irrefl 0)⟩)
  · subst hx
    exact exec_readArtwork_beyond hoff hbody ((beyondBands_iff _ _).mpr ⟨hd, hn⟩)
  · change some (bytes1 1 ++ bytes1 24 ++ s.pack.bins.toList.flatMap (binBytes s)) = _
    rw [toList_eq_tget, List.flatMap_map]
    rfl
  · rw [exitBytes_eq hsh hc]
    cases c.required <;> rfl
  · change noneBytes 2 ++ noneBytes 4 ++ bytes2 0 = _
    decide
  · simp only [binBytes, Option.bind_some, ho]
    rfl
  · simp only [slotBytes, hsl]
    rfl

end Sys2Proof.Machine
end

section
/-! O60: the reads of the stations. -/

namespace Sys2Proof.Machine

/-! ### Records of one width, laid end to end -/

section
variable {α : Type} {f : α → List Byte} {k : Nat} (hf : ∀ a, (f a).length = k)
include hf

theorem orNone_length (o : Option α) : (orNone k f o).length = k := by
  cases o with
  | none => exact List.length_replicate
  | some a => exact hf a

theorem flatMap_width (l : List α) : (l.flatMap f).length = k * l.length := by
  induction l with
  | nil => rfl
  | cons a l ih => rw [List.flatMap_cons, List.length_append, ih, hf, List.length_cons, Nat.mul_succ, Nat.add_comm]

/-- A record of the list, read off its place. -/
theorem flatMap_record {l : List α} {i : Nat} {a : α} (h : l[i]? = some a) (tail : List Byte) :
    ((l.flatMap f ++ tail).drop (k * i)).take k = f a := by
  induction l generalizing i with
  | nil => cases h
  | cons b l ih =>
    rw [List.flatMap_cons, List.append_assoc]
    cases i with
    | zero =>
      obtain rfl := Option.some.inj h
      rw [Nat.mul_zero, List.drop_zero, List.take_left' (hf b)]
    | succ i =>
      rw [Nat.mul_succ, Nat.add_comm, ← List.drop_drop, List.drop_left' (hf b)]
      exact ih h

end

theorem tagBytes_length (t : Tag) : (tagBytes t).length = 2 := rfl

theorem table_flatMap {α : Type} {n : Nat} (v : Vector α n) (f : α → List Byte) :
    v.toList.flatMap f = (List.finRange n).flatMap fun i => f (tget v i) := by
  rw [toList_eq_tget, List.flatMap_map]

theorem table_get {α : Type} {n : Nat} (v : Vector α n) (i : Fin n) : v.toList[i.val]? = some (tget v i) := by
  rw [toList_eq_tget]
  simp

/-! ### The widths of the records (A.4, A.7) -/

theorem swathBytes_length (x : SwathOrder) : (swathBytes x).length = 8 := rfl

theorem cursorBytes_length (c : Option Cursor) : (cursorBytes c).length = 4 := by
  match c with
  | none => rfl
  | some .finished => rfl
  | some (.at _) => rfl

theorem zoneBytes_length (z : Zone) : (zoneBytes z).length = 10 := by
  simp only [zoneBytes, List.length_append, bytes1_length, bytes2_length, orNone_length bytes2_length]

theorem queueRecordBytes_length (s : State) (x : QueueRecord) : (queueRecordBytes s x).length = 13 := by
  simp only [queueRecordBytes, List.length_append, bytes1_length, bytes4_length, tagBytes_length,
    orNone_length bytes2_length, orNone_length fun c : CureRecord => bytes2_length c.exposure]

theorem queueRecordBytes_eq {s : State} {x : QueueRecord} {sh : Shirt} {c : CureRecord} (hsh : s.shirt x.unit = some sh)
    (hc : sh.cure = some c) :
    queueRecordBytes s x = tagBytes (s.tagOf x.unit) ++ bytes4 (s.tunnel.belt - x.entry).toNat ++ bytes2 c.exposure
      ++ orNone 2 bytes2 c.required ++ orNone 2 bytes2 c.scorch ++ [BitVec.ofNat 8 sh.flags.tunnelBits] := by
  simp only [queueRecordBytes, hsh, Option.bind_some, hc]
  rfl

/-- The two flag bits of a queue record, beside the bits that A.7 does not name. -/
theorem tunnelFlagBits (fl : UnitFlags) (x : Byte) (h : x = BitVec.ofNat 8 fl.tunnelBits) :
    x.getLsbD 2 = fl.unreadyEntry ∧ x.getLsbD 3 = fl.recured := by
  have e : x = BitVec.ofNat 8 (bit 0 false + bit 1 false + bit 2 fl.unreadyEntry + bit 3 fl.recured + bit 4 false
      + bit 5 false) := by
    rw [h, UnitFlags.tunnelBits]
    simp [bit]
  obtain ⟨_, _, h2, h3, _⟩ := indicationBits _ _ _ _ _ _ x e
  exact ⟨h2, h3⟩

/-! ### The layouts of the reads -/

section
variable (s : State)

/-- READ LOAD TABLES, the colours as one byte each. -/
def loadTableBytes : List Byte :=
  s.load.colours.toList.flatMap bytes1 ++ (s.load.sizeMap.toList.flatMap (fun c => bytes1 c.code)
    ++ (bytes1 s.load.darkThreshold ++ bytes1 s.load.scrapLimit ++ bytes1 s.load.quiesce.code))

theorem readLoadTables_eq (p : Port) (body : List Byte) : readLoadTables p body s = (.done (loadTableBytes s), s) := by
  simp only [readLoadTables, loadTableBytes, List.append_assoc]

theorem colourBytes_length : (s.load.colours.toList.flatMap bytes1).length = 64 := by
  rw [flatMap_width bytes1_length, Vector.length_toList]

theorem sizeBytes_length : (s.load.sizeMap.toList.flatMap fun c => bytes1 c.code).length = 8 := by
  rw [flatMap_width fun c : SizeClass => bytes1_length c.code, Vector.length_toList]

theorem loadTableBytes_length : (loadTableBytes s).length = 75 := by
  simp only [loadTableBytes, List.length_append, colourBytes_length, sizeBytes_length, bytes1_length]

theorem bytes1_flatMap {α : Type} (f : α → Nat) (l : List α) :
    (l.flatMap fun a => bytes1 (f a)) = l.map fun a => BitVec.ofNat 8 (f a) := List.flatMap_pure_eq_map _ l

theorem loadTableBytes_colour (c : Fin 64) :
    (loadTableBytes s)[c.val]? = some (BitVec.ofNat 8 (tget s.load.colours c)) := by
  rw [loadTableBytes, List.getElem?_append_left (by rw [colourBytes_length]; exact c.isLt),
    bytes1_flatMap (fun n => n), List.getElem?_map, table_get]
  rfl

theorem loadTableBytes_size (z : Fin 8) :
    (loadTableBytes s)[64 + z.val]? = some (BitVec.ofNat 8 (tget s.load.sizeMap z).code) := by
  rw [loadTableBytes, List.getElem?_append_right (by rw [colourBytes_length]; exact Nat.le_add_right ..),
    colourBytes_length, Nat.add_sub_cancel_left,
    List.getElem?_append_left (by rw [sizeBytes_length]; exact z.isLt), bytes1_flatMap, List.getElem?_map, table_get]
  rfl

theorem loadTableBytes_drop :
    (loadTableBytes s).drop 72 = bytes1 s.load.darkThreshold ++ bytes1 s.load.scrapLimit ++ bytes1 s.load.quiesce.code := by
  rw [loadTableBytes, ← List.append_assoc]
  exact List.drop_left' (by rw [List.length_append, colourBytes_length, sizeBytes_length])

/-- READ PRETREAT after its dose table. -/
def pretreatTail : List Byte :=
  bytes4 s.pretreat.reservoir ++ bytes1 s.pretreat.state.code ++ bytes1 s.pretreat.quiesce.code
    ++ orNone 2 tagBytes (pretreatHeldTag s) ++ orNone 4 (fun x => bytes4 x.fluidTotal) s.pretreat.plan
    ++ orNone 1 (fun x => bytes1 x.sweepCount) s.pretreat.plan

theorem readPretreat_eq (p : Port) (body : List Byte) :
    readPretreat p body s = (.done (s.pretreat.doses.toList.flatMap bytes2 ++ pretreatTail s), s) := by
  simp only [readPretreat, pretreatTail, List.append_assoc]

theorem pretreatTail_length : (pretreatTail s).length = 13 := by
  simp only [pretreatTail, List.length_append, bytes1_length, bytes4_length, orNone_length tagBytes_length,
    orNone_length fun x : SprayPlan => bytes4_length x.fluidTotal,
    orNone_length fun x : SprayPlan => bytes1_length x.sweepCount]

theorem doseBytes_length : (s.pretreat.doses.toList.flatMap bytes2).length = 16 := by
  rw [flatMap_width bytes2_length, Vector.length_toList]

/-- READ PRINT before its list of swaths in flight. -/
def printHead : List Byte :=
  bytes1 s.print.state.code ++ bytes1 s.print.quiesce.code ++ bytes2 s.print.watchdogLimit
    ++ orNone 2 tagBytes s.print.held ++ orNone 1 (fun a => bytes1 a.val) (heldArtwork s)
    ++ bytes1 (yesNoCode s.print.stageAsked) ++ cursorBytes s.print.cursor ++ bytes1 s.print.nextNumber
    ++ orNone 2 tagBytes s.print.lateTag ++ terminatedBytes s.print.terminated
    ++ orNone 2 (fun w => bytes2 (s.time.now - w.start).toNat) s.print.watchdog
    ++ orNone 2 (fun x => bytes2 x.white) (heldPrintRecord s)
    ++ orNone 2 (fun x => bytes2 x.colour) (heldPrintRecord s)
    ++ orNone 1 (fun x => bytes1 x.fired) (heldPrintRecord s)
    ++ orNone 1 (fun x => bytes1 x.dry) (heldPrintRecord s)
    ++ bytes1 (yesNoCode s.print.errorRecord.isSome) ++ bytes1 s.print.errorCount
    ++ bytes1 s.print.inFlight.length

theorem readPrint_eq (p : Port) (body : List Byte) :
    readPrint p body s = (.done (printHead s ++ s.print.inFlight.flatMap swathBytes), s) := by
  rw [readPrint, printHead]
  rfl

theorem terminatedBytes_length (l : List Nat) : (terminatedBytes l).length = 3 := by
  simp only [terminatedBytes, List.length_append, orNone_length bytes1_length]

theorem printHead_length : (printHead s).length = 29 := by
  simp only [printHead, List.length_append, bytes1_length, bytes2_length, cursorBytes_length,
    terminatedBytes_length, orNone_length tagBytes_length, orNone_length fun a : ArtworkNo => bytes1_length a.val,
    orNone_length fun w : Watchdog => bytes2_length (s.time.now - w.start).toNat,
    orNone_length fun x : PrintRecord => bytes2_length x.white,
    orNone_length fun x : PrintRecord => bytes2_length x.colour,
    orNone_length fun x : PrintRecord => bytes1_length x.fired,
    orNone_length fun x : PrintRecord => bytes1_length x.dry]

/-- READ TUNNEL before its list of queue records. -/
def tunnelHead : List Byte :=
  profileBytes s.tunnel.profile ++ bytes1 s.tunnel.state.code
    ++ orNone 2 (fun u => tagBytes (s.tagOf u)) s.tunnel.held ++ bytes1 s.tunnel.quiesce.code
    ++ bytes1 (if s.tunnel.state = .inhibited ∨ s.tunnel.quiesce ≠ .running then 1 else 0)
    ++ bytes4 s.tunnel.belt.toNat ++ bytes1 (yesNoCode s.tunnel.ready) ++ bytes1 s.tunnel.readyRun
    ++ bytes2 (s.time.now - s.tunnel.tickStart).toNat
    ++ ((List.finRange 4).flatMap fun z => zoneBytes (tget s.tunnel.zones z))
    ++ bytes1 s.tunnel.queue.length

theorem inhibitCode :
    yesNoCode (transferInhibit s) = if s.tunnel.state = .inhibited ∨ s.tunnel.quiesce ≠ .running then 1 else 0 := by
  simp only [yesNoCode, transferInhibit, Bool.or_eq_true, decide_eq_true_eq]

theorem readTunnel_eq (p : Port) (body : List Byte) :
    readTunnel p body s = (.done (tunnelHead s ++ s.tunnel.queue.flatMap (queueRecordBytes s)), s) := by
  simp only [readTunnel, tunnelHead, inhibitCode, table_flatMap]
  rfl

theorem tunnelHead_length : (tunnelHead s).length = 102 := by
  simp only [tunnelHead, List.length_append, bytes1_length, bytes2_length, bytes4_length, profileBytes_length,
    orNone_length fun u : UnitNo => tagBytes_length (s.tagOf u),
    flatMap_width fun z : ZoneNo => zoneBytes_length (tget s.tunnel.zones z), List.length_finRange]

theorem zoneBytes_eq (z : Zone) :
    zoneBytes z = bytes1 z.state.code ++ orNone 2 bytes2 z.lastValid ++ bytes2 z.temperature ++ bytes1 z.missed
      ++ bytes1 z.staleTicks ++ bytes1 (yesNoCode z.heard) ++ bytes1 z.duty ++ bytes1 (yesNoCode z.overtemp) := rfl

theorem profileBytes_eq (x : CureProfile) :
    profileBytes x = bytes2 x.tickPeriod ++ bytes2 x.length ++ bytes2 x.window
      ++ ((List.finRange 4).flatMap fun z => bytes1 (tget x.setpoints z)) ++ bytes1 x.floor ++ bytes1 x.gain
      ++ bytes2 x.limit ++ bytes1 x.whiteWeight ++ bytes1 x.colourWeight
      ++ ((List.finRange 8).flatMap fun c => bytes2 (tget x.base c))
      ++ ((List.finRange 8).flatMap fun c => bytes2 (tget x.margin c)) := by
  simp only [profileBytes, table_flatMap]

end

/-- Settles O60, read by read and record by record. -/
theorem readsOfStations : Obligations.ReadsOfStations := by
  rintro s p f rest _ rfl
  refine ⟨fun hoff => ⟨_, exec_offered hoff (r := .readLoadTables) (readLoadTables_eq _ p f.body), loadTableBytes_length s,
      loadTableBytes_colour s, loadTableBytes_size s, loadTableBytes_drop s⟩,
    fun hoff => ⟨_, exec_offered hoff (r := .readPretreat) (readPretreat_eq _ p f.body), ?_, fun c => ?_, ?_⟩,
    fun hoff => ?_,
    fun hoff => ⟨_, exec_offered hoff (r := .readPrint) (readPrint_eq _ p f.body), ?_, ?_⟩,
    fun hoff => ⟨_, exec_offered hoff (r := .readTunnel) (readTunnel_eq _ p f.body), ?_, ?_⟩, fun x => ?_, by decide, by decide,
    fun t => ?_, fun z => ?_, profileBytes_eq, fun x sh c hsh hc => ⟨BitVec.ofNat 8 sh.flags.tunnelBits, ?_,
      tunnelFlagBits _ _ rfl⟩, by decide, by decide, by decide, by decide, by decide, by decide, by decide, fun b => rfl⟩
  · exact (List.length_append ..).trans (by rw [pretreatTail_length, doseBytes_length])
  · exact flatMap_record bytes2_length (table_get s.pretreat.doses c) _
  · exact List.drop_left' (doseBytes_length _)
  · refine exec_offered hoff (r := .readSprayBar) (t := s.without p rest) (Prod.ext ?_ rfl)
    dsimp only [handlerOf, readSprayBar, Bar.reportedTarget, State.without_bar]
    cases s.bar.nextDirection <;> rfl
  · exact (List.length_append ..).trans (by rw [printHead_length, flatMap_width swathBytes_length]; rfl)
  · change printHead s ++ s.print.inFlight.flatMap swathBytes = _
    simp only [printHead, terminatedBytes, List.append_assoc]
  · exact (List.length_append ..).trans (by rw [tunnelHead_length, flatMap_width (queueRecordBytes_length _)]; rfl)
  · change tunnelHead s ++ s.tunnel.queue.flatMap (queueRecordBytes s) = _
    rw [tunnelHead]
  · rw [swathBytes]
    cases x.layer <;> cases x.direction <;> rfl
  · rw [cursorBytes]
    cases t.layer <;> rfl
  · rw [zoneBytes_eq]
    cases z.state <;> cases z.lastValid <;> rfl
  · rw [queueRecordBytes_eq hsh hc]
    cases c.required <;> cases c.scorch <;> rfl

end Sys2Proof.Machine
end
